-- ==== Sys2Proof/Word.lean ====
section
/-! DEFINITION. The two words that cross the part's ports: a byte of a control link and a slot of an audio port. -/

namespace Sys2Proof

/-- One byte of a control link (1.2 of 00_scope.md: 8 data bits, no parity). -/
abbrev Byte := BitVec 8

/-- One channel of the audio input port or one slot of the audio output port (1.3 of 00_scope.md: 32 bits wide, the
24-bit sample in its 24 most significant bits). -/
abbrev Slot := BitVec 32

end Sys2Proof
end

