-- ==== Sys2Proof/Syntax.lean ====
section
/-! DEFINITION. The commands of the block: one constructor per row of spec/opcode_table.json, with the row's operands. -/

namespace Sys2Proof

/-- The three control links; the number of a link fixes its role (R186). -/
inductive Link where
  | player        -- link 0, the pedalboard
  | crew          -- link 1, the front-panel controller
  | showControl   -- link 2, the show-control playback system
deriving DecidableEq, Repr

/-- The two Tone Lanes (1.4 of 00_scope.md). -/
inductive LaneId where
  | a
  | b
deriving DecidableEq, Repr

/-- The four finished output buses (R155). -/
inductive Bus where
  | fohL
  | fohR
  | mon
  | amp
deriving DecidableEq, Repr

/-- The three classes of Bus Protection (R155). -/
inductive ProtClass where
  | overLevel
  | dc
  | loss
deriving DecidableEq, Repr

/-- The commands. A request row carries the link it arrives on, its tag and its body, byte by byte as R208 lays it out,
so that a body of a wrong length or a code outside its table can be sent as well (R195, R207). A SETTING row carries
the three-byte value (R214), the setting being the row's own; a QUERY row carries the part number and the argument
bytes (R212), the item being the row's own. A row that is an event of the part names the lane, the bus and class, or
the link it happens on. -/
inductive Instr where
  /-- POWER_ON (R177) -/
  | powerOn
  /-- INPUT_FRAME (R3): the two channels of one input frame -/
  | inputFrame (ch0 ch1 : Slot)
  /-- IFE_BLOCK_BOUNDARY (R6) -/
  | ifeBlockBoundary
  /-- LANE_BLOCK_BOUNDARY (R24) -/
  | laneBlockBoundary (lane : LaneId)
  /-- DC_WINDOW_END (R158) -/
  | dcWindowEnd
  /-- FLAG_LATCH (R160) -/
  | flagLatch (bus : Bus) (cls : ProtClass)
  /-- DECIMATED_SAMPLE (R119) -/
  | decimatedSample
  /-- TUNER_STALE (R118) -/
  | tunerStale
  /-- FADE_COMPLETE (R63) -/
  | fadeComplete
  /-- DIP_OUT_END (R66) -/
  | dipOutEnd
  /-- DIP_COMPLETE (R68) -/
  | dipComplete
  /-- TAIL_TIMER_EXPIRY (R64) -/
  | tailTimerExpiry (lane : LaneId)
  /-- TAIL_FLOOR_END (R64) -/
  | tailFloorEnd (lane : LaneId)
  /-- CUT_END (R64) -/
  | cutEnd (lane : LaneId)
  /-- TENURE_EXPIRY (R88) -/
  | tenureExpiry
  /-- SAFETY_TIMER_EXPIRY (R146) -/
  | safetyTimerExpiry
  /-- GAP_TIMEOUT (R189) -/
  | gapTimeout (link : Link)
  /-- BREAK_END (R189, R202) -/
  | breakEnd (link : Link)
  /-- LINK_DROP (R203) -/
  | linkDrop (link : Link)
  /-- BAD_FRAME (R191): a frame with a bad LEN or a tag of 0 -/
  | badFrame (link : Link)
  /-- BAD_CHECK (R191) -/
  | badCheck (link : Link)
  /-- OVERRUN (R193) -/
  | overrun (link : Link)
  /-- UNKNOWN_REQUEST (R195): a sound frame whose TYPE is no request type -/
  | unknownRequest (link : Link) (type tag : Byte) (body : List Byte)
  /-- MESSAGE_SENT (R182) -/
  | messageSent (link : Link)
  /-- SOFT_RESET (R206) -/
  | softReset
  /-- RECALL (R79) -/
  | recall (link : Link) (tag : Byte) (body : List Byte)
  /-- RECALL_INDEX (R80) -/
  | recallIndex (link : Link) (tag : Byte) (body : List Byte)
  /-- WINDOW_SET (R78) -/
  | windowSet (link : Link) (tag : Byte) (body : List Byte)
  /-- EDIT (R70) -/
  | edit (link : Link) (tag : Byte) (body : List Byte)
  /-- STORE (R73) -/
  | store (link : Link) (tag : Byte) (body : List Byte)
  /-- CURVE_BEGIN (R33) -/
  | curveBegin (link : Link) (tag : Byte) (body : List Byte)
  /-- CURVE_PUT (R34) -/
  | curvePut (link : Link) (tag : Byte) (body : List Byte)
  /-- IMPULSE_BEGIN (R33) -/
  | impulseBegin (link : Link) (tag : Byte) (body : List Byte)
  /-- IMPULSE_PUT (R34) -/
  | impulsePut (link : Link) (tag : Byte) (body : List Byte)
  /-- PRESET_BEGIN (R39) -/
  | presetBegin (link : Link) (tag : Byte) (body : List Byte)
  /-- PRESET_PUT (R40) -/
  | presetPut (link : Link) (tag : Byte) (body : List Byte)
  /-- PRESET_END (R44) -/
  | presetEnd (link : Link) (tag : Byte) (body : List Byte)
  /-- PRESET_ERASE (R44) -/
  | presetErase (link : Link) (tag : Byte) (body : List Byte)
  /-- MAP_SET (R46) -/
  | mapSet (link : Link) (tag : Byte) (body : List Byte)
  /-- PROFILE_PUT (R48) -/
  | profilePut (link : Link) (tag : Byte) (body : List Byte)
  /-- INSTRUMENT_SELECT (R49) -/
  | instrumentSelect (link : Link) (tag : Byte) (body : List Byte)
  /-- PEDAL (R97) -/
  | pedal (link : Link) (tag : Byte) (body : List Byte)
  /-- TAP (R104) -/
  | tap (link : Link) (tag : Byte) (body : List Byte)
  /-- TEMPO (R105) -/
  | tempo (link : Link) (tag : Byte) (body : List Byte)
  /-- TUNER_ENGAGE (R115) -/
  | tunerEngage (link : Link) (tag : Byte) (body : List Byte)
  /-- TUNER_RELEASE (R116) -/
  | tunerRelease (link : Link) (tag : Byte) (body : List Byte)
  /-- MUTE (R144) -/
  | mute (link : Link) (tag : Byte) (body : List Byte)
  /-- ACK (R164) -/
  | ack (link : Link) (tag : Byte) (body : List Byte)
  /-- FORCE (R166) -/
  | force (link : Link) (tag : Byte) (body : List Byte)
  /-- CAPTURE_CLEAR (R176) -/
  | captureClear (link : Link) (tag : Byte) (body : List Byte)
  /-- SUBSCRIBE (R181) -/
  | subscribe (link : Link) (tag : Byte) (body : List Byte)
  /-- RESET (R205) -/
  | reset (link : Link) (tag : Byte) (body : List Byte)
  /-- SETTING_PRESENCE_FLOOR (R5), identifier 0x01 -/
  | settingPresenceFloor (link : Link) (tag : Byte) (value : BitVec 24)
  /-- SETTING_TENURE (R87), identifiers 0x02, 0x03 and 0x04 by the link whose setting it is -/
  | settingTenure (link : Link) (tag : Byte) (of : Link) (value : BitVec 24)
  /-- SETTING_REFERENCE_PITCH (R133), identifier 0x10 -/
  | settingReferencePitch (link : Link) (tag : Byte) (value : BitVec 24)
  /-- SETTING_HYSTERESIS (R133), identifier 0x11 -/
  | settingHysteresis (link : Link) (tag : Byte) (value : BitVec 24)
  /-- SETTING_W_IN (R133), identifier 0x12 -/
  | settingWIn (link : Link) (tag : Byte) (value : BitVec 24)
  /-- SETTING_W_NEAR (R133), identifier 0x13 -/
  | settingWNear (link : Link) (tag : Byte) (value : BitVec 24)
  /-- SETTING_TUNER_MUTE_SET (R133), identifier 0x14 -/
  | settingTunerMuteSet (link : Link) (tag : Byte) (value : BitVec 24)
  /-- SETTING_SAFETY_TIMER (R147), identifier 0x20 -/
  | settingSafetyTimer (link : Link) (tag : Byte) (value : BitVec 24)
  /-- SETTING_ATTENUATION (R150), identifier 0x21 -/
  | settingAttenuation (link : Link) (tag : Byte) (value : BitVec 24)
  /-- SETTING_OVER_THRESHOLD (R167), identifier 0x30 -/
  | settingOverThreshold (link : Link) (tag : Byte) (value : BitVec 24)
  /-- SETTING_DC_THRESHOLD (R167), identifier 0x31 -/
  | settingDcThreshold (link : Link) (tag : Byte) (value : BitVec 24)
  /-- SETTING_LOSS_FLOOR (R167), identifier 0x32 -/
  | settingLossFloor (link : Link) (tag : Byte) (value : BitVec 24)
  /-- SETTING_T_OVER (R168), identifier 0x33 -/
  | settingTOver (link : Link) (tag : Byte) (value : BitVec 24)
  /-- SETTING_T_DC (R168), identifier 0x34 -/
  | settingTDc (link : Link) (tag : Byte) (value : BitVec 24)
  /-- SETTING_T_LOSS (R168), identifier 0x35 -/
  | settingTLoss (link : Link) (tag : Byte) (value : BitVec 24)
  /-- QUERY_WORKING_SCENE_GROUP (R75), item 0 -/
  | queryWorkingSceneGroup (link : Link) (tag part : Byte) (args : List Byte)
  /-- QUERY_LIBRARY_GROUP (R50), item 1 -/
  | queryLibraryGroup (link : Link) (tag part : Byte) (args : List Byte)
  /-- QUERY_STORE_RECORD_STATE (R50), item 2 -/
  | queryStoreRecordState (link : Link) (tag part : Byte) (args : List Byte)
  /-- QUERY_MAP_ENTRY (R50), item 3 -/
  | queryMapEntry (link : Link) (tag part : Byte) (args : List Byte)
  /-- QUERY_PROFILE (R50), item 4 -/
  | queryProfile (link : Link) (tag part : Byte) (args : List Byte)
  /-- QUERY_ACTIVE_PROFILE (R50), item 5 -/
  | queryActiveProfile (link : Link) (tag part : Byte) (args : List Byte)
  /-- QUERY_WINDOW (R95), item 6 -/
  | queryWindow (link : Link) (tag part : Byte) (args : List Byte)
  /-- QUERY_TEMPO (R112), item 7 -/
  | queryTempo (link : Link) (tag part : Byte) (args : List Byte)
  /-- QUERY_TUNER (R137), item 8 -/
  | queryTuner (link : Link) (tag part : Byte) (args : List Byte)
  /-- QUERY_MUTE (R153), item 9 -/
  | queryMute (link : Link) (tag part : Byte) (args : List Byte)
  /-- QUERY_PROTECTION_FLAGS (R170), item 10 -/
  | queryProtectionFlags (link : Link) (tag part : Byte) (args : List Byte)
  /-- QUERY_CAPTURE (R178), item 11 -/
  | queryCapture (link : Link) (tag part : Byte) (args : List Byte)
  /-- QUERY_LANE_STATES (R30), item 12 -/
  | queryLaneStates (link : Link) (tag part : Byte) (args : List Byte)
  /-- QUERY_SETTING (R201), item 13 -/
  | querySetting (link : Link) (tag part : Byte) (args : List Byte)
  /-- QUERY_LINK (R201), item 14 -/
  | queryLink (link : Link) (tag part : Byte) (args : List Byte)
  /-- BYTE_RECEIVED (R188): a character with a sound stop bit -/
  | byteReceived (link : Link) (byte : Byte)
  /-- BREAK_BEGINS (R202) -/
  | breakBegins (link : Link)
  /-- CONTROL_MILLISECOND (R88, R145, R189, R202) -/
  | controlMillisecond
deriving DecidableEq, Repr

end Sys2Proof
end

