-- ==== Sys2Proof/Decode.lean ====
section
/-! DEFINITION. The command that a word spells by the bits of spec/opcode_table.json. -/

namespace Sys2Proof

/-- No row of the table gives bits or fields, so no word of any length spells a command (log 22). How the bytes of a control
frame make a request is the receiver's work, which is a command of its own for each byte (BYTE_RECEIVED, R188). -/
def decodeTableWord (_nbits _w : Nat) : Option Instr := none

end Sys2Proof
end

