-- ==== Sys2Proof/Config.lean ====
section
/-! DEFINITION. What the part fixes: sizes, ranges and defaults the spec names. The spec leaves no result value open, so
there is no free value here. -/

namespace Sys2Proof.Config

/-- The largest sample (R1). -/
def sampleMax : Int := 8388607
/-- The smallest sample (R1). -/
def sampleMin : Int := -8388608
/-- The top of every mute, protection and output ramp (R21, R142, R143). -/
def rampTop : Nat := 96
/-- The top of the gate ramp (R11). -/
def gateRampTop : Nat := 64
/-- Unity in weight format (R1). -/
def weightUnity : Nat := 32768
/-- Unity in level format (R1). -/
def levelUnity : Nat := 4096
/-- Frames between two block boundaries (1.6 of 00_scope.md). -/
def blockLength : Nat := 16
/-- Entries of a delay half (lane table of 01). -/
def delayEntries : Nat := 96000
/-- Samples of the FIR history (R16). -/
def firLength : Nat := 256
/-- The largest feedback, 0.95 in level format (R19). -/
def feedbackMax : Nat := 3891
/-- The tail envelope below which the floor counter runs (R23). -/
def tailFloorLevel : Nat := 839
/-- The floor counter's end (R23, R64). -/
def tailFloorEnd : Nat := 4800
/-- Frames to the millisecond (1.6 of 00_scope.md). -/
def framesPerMs : Nat := 48
/-- The frames of a DC window (R158). -/
def dcWindow : Nat := 4096
/-- The stale count's end (R118). -/
def staleEnd : Nat := 1500
/-- Response slots of a link (R192). -/
def responseSlots : Nat := 8
/-- The gap count that discards a frame (R189). -/
def gapEnd : Nat := 3
/-- The break count that drops a link (R202). -/
def breakEnd : Nat := 10
/-- The longest body of a frame (R187). -/
def bodyMax : Nat := 60
/-- SYNC (R187). -/
def syncByte : Byte := 0xE7

end Sys2Proof.Config
end

