-- ==== Sys2Proof/Machine/State.lean ====
section
/-! DEFINITION. The state of the WD316, block by block as 1.4 of 00_scope.md lists them, the three outcomes' reasons, and
the state after power-on. Everything is plain data. -/

namespace Sys2Proof.Machine

/-! ### Small collections -/

/-- One value for each control link. -/
structure PerLink (α : Type) where
  player : α
  crew : α
  showControl : α
deriving DecidableEq, Repr

/-- One value for each Tone Lane. -/
structure PerLane (α : Type) where
  a : α
  b : α
deriving DecidableEq, Repr

/-- One value for each bus. -/
structure PerBus (α : Type) where
  fohL : α
  fohR : α
  mon : α
  amp : α
deriving DecidableEq, Repr

/-- One value for each class of Bus Protection. -/
structure PerClass (α : Type) where
  overLevel : α
  dc : α
  loss : α
deriving DecidableEq, Repr

/-- Addressed storage: (index, value) pairs, the indexes strictly rising, no value equal to what an unlisted index reads
as (`tableWf`). -/
abbrev Table (α : Type) := List (Nat × α)

/-- A set of the three buses a mask can name: bit 0 FOH, bit 1 MON, bit 2 AMP (R208). -/
structure BusMask where
  foh : Bool
  mon : Bool
  amp : Bool
deriving DecidableEq, Repr

/-- A set of the seven notice classes, bit 0 GUARD to bit 6 LINK (R208). -/
structure NoticeSet where
  guard : Bool
  fault : Bool
  scene : Bool
  mute : Bool
  tuner : Bool
  tempo : Bool
  link : Bool
deriving DecidableEq, Repr

/-- The notice classes (R179). -/
inductive NoticeClass where
  | guard
  | fault
  | scene
  | mute
  | tuner
  | tempo
  | link
deriving DecidableEq, Repr

/-! ### Model Stores (chapter 2) -/

/-- The states of a curve or impulse record (R31, R32). -/
inductive LoadState where
  | empty
  | filling
  | ready
deriving DecidableEq, Repr

/-- A curve or impulse record: its state, its received-part set (bit p for part p, R210) and its points or taps. -/
structure WaveRec where
  state : LoadState
  parts : BitVec 16
  values : Table Int
deriving DecidableEq, Repr

/-- SINGLE or DUAL (R38). -/
inductive Kind where
  | single
  | dual
deriving DecidableEq, Repr

/-- The two expression pedals (R96). -/
inductive Source where
  | exp1
  | exp2
deriving DecidableEq, Repr

/-- The targets of an assignment (R98). -/
inductive Target where
  | drivePre
  | drivePost
  | powerPre
  | powerPost
  | laneLevel
  | delayWet
  | delayFeedback
  | fohLevel
  | monLevel
  | ampLevel
deriving DecidableEq, Repr

/-- The chain field of an assignment (R42). -/
inductive ChainSel where
  | a
  | b
  | both
deriving DecidableEq, Repr

/-- One of the two chains of a scene (R38). -/
inductive ChainId where
  | a
  | b
deriving DecidableEq, Repr

/-- One assignment of the EXPRESSION group (R42). -/
structure Assign where
  source : Source
  target : Target
  chain : ChainSel
  low : Nat
  high : Nat
deriving DecidableEq, Repr

/-- The GATE group: thresholds O and C and release shift Rg. -/
structure Gate where
  openAt : Nat
  closeAt : Nat
  release : Nat
deriving DecidableEq, Repr

/-- The DRIVE or POWER group (R12, R15). -/
structure Shaper where
  pre : Nat
  curve : Nat
  post : Nat
deriving DecidableEq, Repr

/-- The five coefficients of a tone section (R14). -/
structure Coefs where
  b0 : Int
  b1 : Int
  b2 : Int
  a1 : Int
  a2 : Int
deriving DecidableEq, Repr

/-- Delay modes (R109). -/
inductive DelayMode where
  | off
  | fixed
  | tempo
deriving DecidableEq, Repr

/-- The DELAY group (R38). -/
structure Delay where
  mode : DelayMode
  fixedLength : Nat
  division : Nat
  feedback : Nat
  dry : Nat
  wet : Nat
deriving DecidableEq, Repr

/-- The chain groups of one chain (R38). -/
structure Chain where
  gate : Gate
  drive : Shaper
  tone1 : Coefs
  tone2 : Coefs
  tone3 : Coefs
  power : Shaper
  cab : Option Nat
  delay : Delay
  level : Nat
deriving DecidableEq, Repr

/-- The LEVELS group (R38). -/
structure Levels where
  foh : Nat
  mon : Nat
  amp : Nat
deriving DecidableEq, Repr

/-- The content of a preset record (R38): HEADER (label, kind, F, tail hold), LEVELS, EXPRESSION, TEMPO and the chains;
chain B is present exactly in DUAL records. -/
structure Preset where
  kind : Kind
  label : List Byte
  fade : Nat
  tailHold : Nat
  levels : Levels
  expression : List Assign
  tempo : Option Nat
  chainA : Chain
  chainB : Option Chain
deriving DecidableEq, Repr

/-- A record of the Preset Library (R38). -/
inductive PresetRec where
  | empty
  | filling (content : Preset)
  | valid (content : Preset)
deriving DecidableEq, Repr

/-- An instrument profile (R47); the string count is the length of the note list. -/
structure Profile where
  label : List Byte
  notes : List Nat
  trim : Nat
deriving DecidableEq, Repr

/-- The Model Stores. What an unlisted index reads as is the record's value after power-on (R51). -/
structure Stores where
  curves : Table WaveRec
  impulses : Table WaveRec
  presets : Table PresetRec
  bankMap : Table (Option Nat)
  profiles : Table Profile
  active : Nat
deriving DecidableEq, Repr

/-! ### Input Front End and Tone Lanes (chapter 1) -/

/-- The Input Front End. -/
structure FrontEnd where
  frameCount : BitVec 32
  trim : Nat
  pendingTrim : Option Nat
  meter : Nat
  floor : Nat
  pendingFloor : Option Nat
  phase : Nat
  /-- model's own: the boundary of the coming frame has been taken as a step of its own (log 3) -/
  boundaryTaken : Bool
  presence : Bool
deriving DecidableEq, Repr

/-- The lane states (R8). -/
inductive LaneState where
  | idle
  | incoming
  | live
  | outgoing
  | tailing
  | cutting
deriving DecidableEq, Repr

/-- The lane roles (R54). -/
inductive Role where
  | single
  | dualA
  | dualB
deriving DecidableEq, Repr

/-- The window comparator of a gate (R10). -/
inductive GateState where
  | opened
  | closed
deriving DecidableEq, Repr

/-- A lane's parameter set: one chain and the three bus levels. -/
structure Params where
  chain : Chain
  levels : Levels
deriving DecidableEq, Repr

/-- A lane's pending set: at most one value per parameter (R24), and the pending delay length with its indication (R25).
The fields of GATE and of each tone section are only ever written together, so each group is one entry. -/
structure PendingSet where
  gate : Option Gate
  drivePre : Option Nat
  driveCurve : Option Nat
  drivePost : Option Nat
  tone1 : Option Coefs
  tone2 : Option Coefs
  tone3 : Option Coefs
  powerPre : Option Nat
  powerCurve : Option Nat
  powerPost : Option Nat
  cab : Option (Option Nat)
  delayMode : Option DelayMode
  feedback : Option Nat
  dry : Option Nat
  wet : Option Nat
  level : Option Nat
  foh : Option Nat
  mon : Option Nat
  amp : Option Nat
  length : Option (Nat × Bool)
deriving DecidableEq, Repr

/-- The history of a tone section: two past inputs, two past outputs (R14). -/
structure BiquadHist where
  x1 : Int
  x2 : Int
  y1 : Int
  y2 : Int
deriving DecidableEq, Repr

/-- A Tone Lane (table under Lane state of chapter 1). -/
structure Lane where
  state : LaneState
  role : Role
  params : Params
  pendingSet : PendingSet
  phase : Nat
  /-- model's own: the boundary of the coming frame has been taken as a step of its own (log 3) -/
  boundaryTaken : Bool
  gateEnv : Nat
  gateState : GateState
  gateRamp : Nat
  hist1 : BiquadHist
  hist2 : BiquadHist
  hist3 : BiquadHist
  /-- the last 256 pre-cab samples, newest first -/
  fir : List Int
  weight : Nat
  delayHalf : Table Int
  writePos : Nat
  fill : Nat
  delayLength : Nat
  delayClamped : Bool
  outRamp : Nat
  tailEnv : Nat
  floorCount : Nat
  tailTimer : Nat
deriving DecidableEq, Repr

/-! ### Scene Engine (chapter 3) -/

/-- The working scene (R53): a preset's groups, the source index, the dirty flag, and the effective value of each
assignment of its EXPRESSION group, in the same order (R98). -/
structure Scene where
  preset : Preset
  source : Nat
  dirty : Bool
  effective : List Nat
deriving DecidableEq, Repr

/-- FADE or DIP (R58). -/
inductive TransKind where
  | fade
  | dip
deriving DecidableEq, Repr

/-- The phases of a transition (R55). -/
inductive Phase where
  | prepare
  | cross
  | dipOut
  | dipIn
deriving DecidableEq, Repr

/-- The transition record (R55). -/
structure Transition where
  origin : Link
  index : Nat
  copied : Preset
  kind : TransKind
  phase : Phase
  fade : Nat
  j : Nat
  target : Option LaneId
  tailHold : Option Nat
  tailCut : Bool
  editsDiscarded : Bool
deriving DecidableEq, Repr

/-- The last transition report (R55, R69). -/
structure Report where
  origin : Link
  kind : TransKind
  tailCut : Bool
  editsDiscarded : Bool
deriving DecidableEq, Repr

/-- The Scene Engine: READY exactly when it holds no transition record (R55). -/
structure Engine where
  scene : Option Scene
  transition : Option Transition
  report : Option Report
deriving DecidableEq, Repr

/-! ### Recall Arbiter (chapter 4) -/

/-- A bank window (R77). -/
structure Window where
  base : Nat
  size : Nat
deriving DecidableEq, Repr

/-- A recall in a pending slot (R82); `place`, bank position and slot, is absent for a RECALL_INDEX. -/
structure Waiting where
  index : Nat
  place : Option (Nat × Nat)
  tag : Byte
deriving DecidableEq, Repr

/-- A running tenure (R88). -/
structure Tenure where
  owner : Link
  count : Nat
deriving DecidableEq, Repr

/-- The grant record (R86); `byIndex` says which of the two recall requests the DONE answers (R211). -/
structure GrantRec where
  origin : Link
  tag : Byte
  byIndex : Bool
  owed : Bool
deriving DecidableEq, Repr

/-- The Recall Arbiter. -/
structure Arbiter where
  windows : PerLink Window
  tenureSetting : PerLink Nat
  slots : PerLink (Option Waiting)
  tenure : Option Tenure
  grant : Option GrantRec
deriving DecidableEq, Repr

/-! ### Control Rate Unit (chapter 5) -/

/-- A position history, oldest first (R96). -/
structure History where
  p0 : Nat
  p1 : Nat
  p2 : Nat
  p3 : Nat
deriving DecidableEq, Repr

/-- The sources of the tempo (R103). -/
inductive TempoSource where
  | default
  | tap
  | showSystem
  | preset
deriving DecidableEq, Repr

/-- The Control Rate Unit. -/
structure Control where
  exp1 : History
  exp2 : History
  period : Nat
  source : TempoSource
  locked : Bool
  prevTap : Option (BitVec 32)
  intervals : List Nat
deriving DecidableEq, Repr

/-! ### Tuner (chapter 6) -/

/-- The tuner states (R114). -/
inductive TunerState where
  | off
  | listening
  | reading
deriving DecidableEq, Repr

/-- The tuner modes (R115). -/
inductive TunerMode where
  | free
  | string
deriving DecidableEq, Repr

/-- The polarity of the crossing detector (R120). -/
inductive Polarity where
  | low
  | high
deriving DecidableEq, Repr

/-- The bands of a reading (R130). -/
inductive Band where
  | inTune
  | nearFlat
  | nearSharp
  | flat
  | sharp
deriving DecidableEq, Repr

/-- A reading record (R131). -/
structure Reading where
  mode : TunerMode
  centihertz : Nat
  note : Nat
  string : Option Nat
  deviation : Int
  band : Band
deriving DecidableEq, Repr

/-- The Tuner (table of chapter 6). -/
structure Tuner where
  state : TunerState
  mode : TunerMode
  muteFlag : Bool
  sum : Int
  count : Nat
  index : Nat
  prevSample : Option Int
  polarity : Polarity
  prevCrossing : Option (BitVec 32)
  group : List Nat
  stale : Nat
  current : Option Reading
  reference : Nat
  hysteresis : Nat
  wIn : Nat
  wNear : Nat
  muteSet : BusMask
deriving DecidableEq, Repr

/-! ### Output Mixer (chapter 7) -/

/-- The Output Mixer (R139), with the requests last handed to it and the frame last sent on the output port (R141). -/
structure Mixer where
  ramps : PerBus Nat
  monRamp : Nat
  mask : BusMask
  timer : Option Nat
  expired : Bool
  safetySetting : Nat
  attenuation : Nat
  tunerMute : Bool
  tunerSet : BusMask
  monRequest : Bool
  output : PerBus Slot
deriving DecidableEq, Repr

/-! ### Bus Protection (chapter 8) -/

/-- The condition, count and flag of one bus and class (R155). -/
structure Pair where
  cond : Bool
  count : Nat
  flag : Bool
  /-- model's own: the frame judged last brought the count to T·48 with the flag clear (R160, log 4) -/
  latchDue : Bool
deriving DecidableEq, Repr

/-- Bus Protection (R155). -/
structure Protection where
  env : PerBus Nat
  sum : PerBus Int
  mean : PerBus Int
  phase : Nat
  pairs : PerBus (PerClass Pair)
  forced : PerClass Bool
  request : Bool
  overThreshold : Nat
  dcThreshold : Nat
  lossFloor : Nat
  timers : PerClass Nat
deriving DecidableEq, Repr

/-! ### Fault Capture (chapter 9) -/

/-- The fault classes (R173). -/
inductive FaultClass where
  | outOfWindow
  | emptySlot
  | noPreset
  | badFrame
  | badCheck
  | overrun
  | loadFail
  | powerOn
  | softReset
deriving DecidableEq, Repr

/-- A capture record (R172); its severity is fixed by its class, `place` is bank and slot. -/
structure FaultRec where
  cls : FaultClass
  link : Option Link
  place : Option (Nat × Nat)
  preset : Option Nat
deriving DecidableEq, Repr

/-! ### Control Links (chapter 10) -/

/-- The causes of a discard (R191). -/
inductive DiscardCause where
  | badFrame
  | badCheck
  | overrun
deriving DecidableEq, Repr

/-- The receiver's state with the frame buffer (R186, R188): LEN and the content bytes so far, oldest first. -/
inductive Receiver where
  | hunt
  | length
  | content (len : Nat) (bytes : List Byte)
  | check (len : Nat) (bytes : List Byte)
deriving DecidableEq, Repr

/-- A message the part sends: its type, tag and body (R187). -/
structure Message where
  type : Byte
  tag : Byte
  body : List Byte
deriving DecidableEq, Repr

/-- The transmitter (R186), with the bytes of the frame that is leaving (R187). -/
inductive Transmitter where
  | free
  | response (frame : List Byte)
  | notice (cls : NoticeClass) (frame : List Byte)
deriving DecidableEq, Repr

/-- A Link Interface (R186). The eight response slots are: `reserved` reserved ones, one queued one for each message of
`queue`, and free ones (R192). -/
structure LinkIf where
  rx : Receiver
  gap : Nat
  lineLow : Bool
  /-- model's own: the line fell during the control millisecond in progress (R202, log 7) -/
  breakPartial : Bool
  breakCount : Nat
  breakJudged : Bool
  reserved : Nat
  queue : List Message
  tx : Transmitter
  mask : NoticeSet
  flags : NoticeSet
  cause : Option DiscardCause
  closing : Bool
deriving DecidableEq, Repr

/-! ### The whole part -/

/-- The state of the part, block by block, and the queue of commands that wait. -/
structure State where
  pending : List Instr
  frontEnd : FrontEnd
  lanes : PerLane Lane
  stores : Stores
  engine : Engine
  arbiter : Arbiter
  control : Control
  tuner : Tuner
  mixer : Mixer
  protection : Protection
  capture : Option FaultRec
  links : PerLink LinkIf
  /-- model's own: the RESET's OK has been sent and the soft reset is due (R205, log 4) -/
  resetDue : Bool
deriving DecidableEq, Repr

/-- Why the machine stops with a fault. The spec gives the part no event that stops it, so there is no reason: no step
raises a fault, which is safe. -/
inductive Fault where
deriving DecidableEq, Repr

/-- Why a command has no meaning in the model. -/
inductive Refusal where
  /-- raised by an arm of `exec` whose command has not been given its meaning, under the command's mnemonic; safe, since
  nothing is claimed of such a step. No arm raises it. -/
  | notModelled (mnemonic : String)
deriving DecidableEq, Repr

/-! ### Power-on values -/

/-- The empty notice set (R179). -/
def NoticeSet.none : NoticeSet := ⟨false, false, false, false, false, false, false⟩
/-- The empty bus set. -/
def BusMask.none : BusMask := ⟨false, false, false⟩
/-- An empty pending set (R24). -/
def PendingSet.empty : PendingSet :=
  ⟨none, none, none, none, none, none, none, none, none, none, none, none, none, none, none, none, none, none, none, none⟩
/-- A curve or impulse record after power-on (R51). -/
def WaveRec.initial : WaveRec := ⟨.empty, 0, []⟩
/-- The standard six-string profile (R51): the eight characters STANDARD and four spaces. -/
def Profile.standard : Profile :=
  ⟨[0x53, 0x54, 0x41, 0x4E, 0x44, 0x41, 0x52, 0x44, 0x20, 0x20, 0x20, 0x20], [40, 45, 50, 55, 59, 64], 4096⟩
/-- A zero history (R27). -/
def BiquadHist.zero : BiquadHist := ⟨0, 0, 0, 0⟩
/-- The chain of a lane's parameter set after power-on: 0 in every numeric field, impulse NONE, delay mode OFF (R29). -/
def Chain.zero : Chain :=
  ⟨⟨0, 0, 0⟩, ⟨0, 0, 0⟩, ⟨0, 0, 0, 0, 0⟩, ⟨0, 0, 0, 0, 0⟩, ⟨0, 0, 0, 0, 0⟩, ⟨0, 0, 0⟩, none, ⟨.off, 0, 0, 0, 0, 0⟩, 0⟩
/-- A lane after power-on and after soft reset (R29). -/
def Lane.initial : Lane :=
  { state := .idle, role := .single, params := ⟨.zero, ⟨0, 0, 0⟩⟩, pendingSet := .empty, phase := 0, boundaryTaken := false
    gateEnv := 0, gateState := .closed, gateRamp := 0, hist1 := .zero, hist2 := .zero, hist3 := .zero
    fir := List.replicate Config.firLength 0, weight := 0, delayHalf := [], writePos := 0, fill := 0, delayLength := 0
    delayClamped := false, outRamp := 0, tailEnv := 0, floorCount := 0, tailTimer := 0 }
/-- The stores after power-on (R51). -/
def Stores.initial : Stores := ⟨[], [], [], [], [], 0⟩
/-- The Input Front End after power-on (R7). -/
def FrontEnd.initial : FrontEnd :=
  { frameCount := 0, trim := 4096, pendingTrim := none, meter := 0, floor := 4194, pendingFloor := none, phase := 0
    boundaryTaken := false, presence := false }
/-- The Scene Engine after power-on and after soft reset (R76). -/
def Engine.initial : Engine := ⟨none, none, none⟩
/-- The arbiter after power-on (R94). -/
def Arbiter.initial : Arbiter :=
  { windows := ⟨⟨0, 32⟩, ⟨0, 32⟩, ⟨0, 32⟩⟩, tenureSetting := ⟨0, 0, 0⟩, slots := ⟨none, none, none⟩, tenure := none
    grant := none }
/-- The Control Rate Unit after power-on and after soft reset (R113). -/
def Control.initial : Control :=
  { exp1 := ⟨0, 0, 0, 0⟩, exp2 := ⟨0, 0, 0, 0⟩, period := 24000, source := .default, locked := false, prevTap := none
    intervals := [] }
/-- The tuner after power-on (R138, R133). -/
def Tuner.initial : Tuner :=
  { state := .off, mode := .free, muteFlag := false, sum := 0, count := 0, index := 0, prevSample := none, polarity := .low
    prevCrossing := none, group := [], stale := 0, current := none, reference := 44000, hysteresis := 83886, wIn := 20
    wNear := 100, muteSet := ⟨true, false, true⟩ }
/-- The mixer after power-on (R154). -/
def Mixer.initial : Mixer :=
  { ramps := ⟨96, 96, 96, 96⟩, monRamp := 96, mask := .none, timer := none, expired := false, safetySetting := 0
    attenuation := 8231, tunerMute := false, tunerSet := ⟨true, false, true⟩, monRequest := false, output := ⟨0, 0, 0, 0⟩ }
/-- A pair after power-on and after soft reset (R171). -/
def Pair.initial : Pair := ⟨false, 0, false, false⟩
/-- Bus Protection after power-on (R171, R167). -/
def Protection.initial : Protection :=
  { env := ⟨0, 0, 0, 0⟩, sum := ⟨0, 0, 0, 0⟩, mean := ⟨0, 0, 0, 0⟩, phase := 0
    pairs := ⟨⟨.initial, .initial, .initial⟩, ⟨.initial, .initial, .initial⟩, ⟨.initial, .initial, .initial⟩,
      ⟨.initial, .initial, .initial⟩⟩
    forced := ⟨false, false, false⟩, request := false, overThreshold := 7465861, dcThreshold := 167772, lossFloor := 8389
    timers := ⟨200, 1000, 2000⟩ }
/-- A Link Interface after power-on (R206); the line stands at idle level (DESIGN CHOICE, unsafe, log 8). -/
def LinkIf.initial : LinkIf :=
  { rx := .hunt, gap := 0, lineLow := false, breakPartial := false, breakCount := 0, breakJudged := false, reserved := 0
    queue := [], tx := .free, mask := .none, flags := .none, cause := none, closing := false }

/-- The part after power-on: every block at its power-on values, the capture holding the POWER_ON record (R177), no
command waiting. -/
def State.reset : State :=
  { pending := [], frontEnd := .initial, lanes := ⟨.initial, .initial⟩, stores := .initial, engine := .initial
    arbiter := .initial, control := .initial, tuner := .initial, mixer := .initial, protection := .initial
    capture := some ⟨.powerOn, none, none, none⟩, links := ⟨.initial, .initial, .initial⟩, resetDue := false }

end Sys2Proof.Machine
end

