-- ==== Sys2Proof/Machine/Ops.lean ====
section
/-! DEFINITION. The shared operations: fixed-point arithmetic (R1, R2), peak envelopes (R4), the addressed tables, the
accessors of the small collections, and one update of State per block. -/

namespace Sys2Proof.Machine

/-! ### Arithmetic -/

/-- Limited to the sample range (R1). -/
def saturate (v : Int) : Int := max Config.sampleMin (min Config.sampleMax v)

/-- RHS rounding of a product by s bits, s at least 1 (R2): add 2 to the power s − 1, shift right rounding toward minus
infinity, saturate. -/
def rhs (p : Int) (s : Nat) : Int := saturate ((p + 2 ^ (s - 1)) / 2 ^ s)

/-- A number clamped to lo..hi (R2, Clamps), lo at most hi. -/
def clamp (lo hi v : Nat) : Nat := if v < lo then lo else if hi < v then hi else v

/-- The next value of a peak envelope with release shift s, fed v (R4). -/
def peakEnvelope (s : Nat) (prev : Nat) (v : Int) : Nat :=
  if prev ≤ v.natAbs then v.natAbs else prev - max 1 (prev / 2 ^ s)

/-- One step of a ramp toward 0 (R2, Ramp positions). -/
def rampDown (k : Nat) : Nat := k - 1

/-- One step of a ramp toward its top (R2, Ramp positions). -/
def rampUp (top k : Nat) : Nat := if k < top then k + 1 else k

/-- The gain of a 96-step ramp in weight format (R21, R141). -/
def rampGain (k : Nat) : Nat := Config.weightUnity * k / Config.rampTop

/-- The sample of one channel word of the input port: its 24 most significant bits, the rest ignored (1.3 of 00_scope.md). -/
def slotSample (w : Slot) : Int := (w.extractLsb' 8 24).toInt

/-- The slot word that carries a sample: the sample in the 24 most significant bits, 0 below (1.3 of 00_scope.md). -/
def sampleSlot (v : Int) : Slot := (BitVec.ofInt 24 v) ++ (0 : BitVec 8)

/-! ### Addressed tables -/

/-- What index i reads as, d being what an unlisted index reads as. -/
def tableGet {α : Type} (d : α) : Table α → Nat → α
  | [], _ => d
  | (k, v) :: rest, i => if i < k then d else if i = k then v else tableGet d rest i

/-- Write v at index i, keeping the canonical form: writing d removes the entry. -/
def tablePut {α : Type} [DecidableEq α] (d : α) : Table α → Nat → α → Table α
  | [], i, v => if v = d then [] else [(i, v)]
  | (k, x) :: rest, i, v =>
    if i < k then (if v = d then (k, x) :: rest else (i, v) :: (k, x) :: rest)
    else if i = k then (if v = d then rest else (i, v) :: rest)
    else (k, x) :: tablePut d rest i v

/-- Write the values vs at the indexes from i on. -/
def tablePutAll {α : Type} [DecidableEq α] (d : α) (t : Table α) (i : Nat) : List α → Table α
  | [] => t
  | v :: vs => tablePutAll d (tablePut d t i v) (i + 1) vs

/-- The canonical form from index lo on: indexes strictly rising, no entry equal to d. -/
def tableWfFrom {α : Type} [DecidableEq α] (d : α) : Nat → Table α → Bool
  | _, [] => true
  | lo, (k, v) :: rest => decide (lo ≤ k) && decide (v ≠ d) && tableWfFrom d (k + 1) rest

/-- The canonical form of a table. -/
def tableWf {α : Type} [DecidableEq α] (d : α) (t : Table α) : Bool := tableWfFrom d 0 t

/-! ### Accessors of the small collections -/

/-- The value of one link. -/
def PerLink.get {α : Type} (p : PerLink α) : Link → α
  | .player => p.player
  | .crew => p.crew
  | .showControl => p.showControl

/-- Replace the value of one link. -/
def PerLink.set {α : Type} (p : PerLink α) (l : Link) (v : α) : PerLink α :=
  match l with
  | .player => { p with player := v }
  | .crew => { p with crew := v }
  | .showControl => { p with showControl := v }

/-- Apply one function to every link's value. -/
def PerLink.map {α β : Type} (p : PerLink α) (f : α → β) : PerLink β := ⟨f p.player, f p.crew, f p.showControl⟩

/-- The value of one lane. -/
def PerLane.get {α : Type} (p : PerLane α) : LaneId → α
  | .a => p.a
  | .b => p.b

/-- Replace the value of one lane. -/
def PerLane.set {α : Type} (p : PerLane α) (l : LaneId) (v : α) : PerLane α :=
  match l with
  | .a => { p with a := v }
  | .b => { p with b := v }

/-- Apply one function to both lanes' values. -/
def PerLane.map {α β : Type} (p : PerLane α) (f : α → β) : PerLane β := ⟨f p.a, f p.b⟩

/-- The value of one bus. -/
def PerBus.get {α : Type} (p : PerBus α) : Bus → α
  | .fohL => p.fohL
  | .fohR => p.fohR
  | .mon => p.mon
  | .amp => p.amp

/-- Replace the value of one bus. -/
def PerBus.set {α : Type} (p : PerBus α) (b : Bus) (v : α) : PerBus α :=
  match b with
  | .fohL => { p with fohL := v }
  | .fohR => { p with fohR := v }
  | .mon => { p with mon := v }
  | .amp => { p with amp := v }

/-- The value built from a function of the bus. -/
def PerBus.build {α : Type} (f : Bus → α) : PerBus α := ⟨f .fohL, f .fohR, f .mon, f .amp⟩

/-- Apply one function to every bus's value. -/
def PerBus.map {α β : Type} (p : PerBus α) (f : α → β) : PerBus β := ⟨f p.fohL, f p.fohR, f p.mon, f p.amp⟩

/-- The four values in slot order FOH L, FOH R, MON, AMP. -/
def PerBus.toList {α : Type} (p : PerBus α) : List α := [p.fohL, p.fohR, p.mon, p.amp]

/-- The value of one class. -/
def PerClass.get {α : Type} (p : PerClass α) : ProtClass → α
  | .overLevel => p.overLevel
  | .dc => p.dc
  | .loss => p.loss

/-- Replace the value of one class. -/
def PerClass.set {α : Type} (p : PerClass α) (c : ProtClass) (v : α) : PerClass α :=
  match c with
  | .overLevel => { p with overLevel := v }
  | .dc => { p with dc := v }
  | .loss => { p with loss := v }

/-- Whether a notice set holds a class. -/
def NoticeSet.has (s : NoticeSet) : NoticeClass → Bool
  | .guard => s.guard
  | .fault => s.fault
  | .scene => s.scene
  | .mute => s.mute
  | .tuner => s.tuner
  | .tempo => s.tempo
  | .link => s.link

/-- A notice set with one class set or cleared. -/
def NoticeSet.put (s : NoticeSet) (c : NoticeClass) (v : Bool) : NoticeSet :=
  match c with
  | .guard => { s with guard := v }
  | .fault => { s with fault := v }
  | .scene => { s with scene := v }
  | .mute => { s with mute := v }
  | .tuner => { s with tuner := v }
  | .tempo => { s with tempo := v }
  | .link => { s with link := v }

/-- Whether a bus mask holds a bus; FOH stands for both halves of the pair (R139). -/
def BusMask.has (m : BusMask) : Bus → Bool
  | .fohL => m.foh
  | .fohR => m.foh
  | .mon => m.mon
  | .amp => m.amp

/-- Whether a bus mask names no bus. -/
def BusMask.isEmpty (m : BusMask) : Bool := !(m.foh || m.mon || m.amp)

/-- The number of a link (1.2 of 00_scope.md). -/
def linkNumber : Link → Nat
  | .player => 0
  | .crew => 1
  | .showControl => 2

/-- The recall rank of a link, 1 the highest (R84). -/
def linkRank : Link → Nat
  | .player => 1
  | .showControl => 2
  | .crew => 3

/-! ### Updates of State, one per block -/

/-- Replace the front end. -/
def State.withFrontEnd (s : State) (x : FrontEnd) : State := { s with frontEnd := x }
/-- Replace both lanes. -/
def State.withLanes (s : State) (x : PerLane Lane) : State := { s with lanes := x }
/-- Replace the stores. -/
def State.withStores (s : State) (x : Stores) : State := { s with stores := x }
/-- Replace the Scene Engine. -/
def State.withEngine (s : State) (x : Engine) : State := { s with engine := x }
/-- Replace the arbiter. -/
def State.withArbiter (s : State) (x : Arbiter) : State := { s with arbiter := x }
/-- Replace the Control Rate Unit. -/
def State.withControl (s : State) (x : Control) : State := { s with control := x }
/-- Replace the tuner. -/
def State.withTuner (s : State) (x : Tuner) : State := { s with tuner := x }
/-- Replace the mixer. -/
def State.withMixer (s : State) (x : Mixer) : State := { s with mixer := x }
/-- Replace Bus Protection. -/
def State.withProtection (s : State) (x : Protection) : State := { s with protection := x }
/-- Replace the capture. -/
def State.withCapture (s : State) (x : Option FaultRec) : State := { s with capture := x }
/-- Replace the Link Interfaces. -/
def State.withLinks (s : State) (x : PerLink LinkIf) : State := { s with links := x }
/-- Mark or unmark the soft reset as due. -/
def State.withResetDue (s : State) (x : Bool) : State := { s with resetDue := x }
/-- Replace the queue of waiting commands. -/
def State.withPending (s : State) (x : List Instr) : State := { s with pending := x }

/-- The Link Interface of one link. -/
def State.link (s : State) (l : Link) : LinkIf := s.links.get l

/-- Replace the Link Interface of one link. -/
def State.setLink (s : State) (l : Link) (x : LinkIf) : State := s.withLinks (s.links.set l x)

/-- Replace one lane. -/
def State.setLane (s : State) (l : LaneId) (x : Lane) : State := s.withLanes (s.lanes.set l x)

/-! ### Reads of the stores (what an unlisted index reads as is the power-on record, R51) -/

/-- A curve record. -/
def Stores.curve (st : Stores) (i : Nat) : WaveRec := tableGet .initial st.curves i
/-- An impulse record. -/
def Stores.impulse (st : Stores) (i : Nat) : WaveRec := tableGet .initial st.impulses i
/-- A preset record. -/
def Stores.preset (st : Stores) (i : Nat) : PresetRec := tableGet .empty st.presets i
/-- A Bank Map entry, none for EMPTY; entry (bank, slot) has index 4·bank + slot. -/
def Stores.mapEntry (st : Stores) (bank slot : Nat) : Option Nat := tableGet none st.bankMap (4 * bank + slot)
/-- An instrument profile. -/
def Stores.profile (st : Stores) (i : Nat) : Profile := tableGet .standard st.profiles i
/-- The active profile (R47). -/
def Stores.activeProfile (st : Stores) : Profile := st.profile st.active

end Sys2Proof.Machine
end

