-- ==== Sys2Proof/Machine/Operands.lean ====
section
/-! DEFINITION. The byte layouts of chapter 11: field encodings (R207), request types and code values (R208), preset
groups with their checks and clamps (R209, R41 to R43), result codes (R211), settings (R214), query items (R212). -/

namespace Sys2Proof.Machine

/-! ### Numbers, flags, sets and codes (R207) -/

/-- An unsigned number, most significant byte first. -/
def be (bytes : List Byte) : Nat := bytes.foldl (fun n b => 256 * n + b.toNat) 0

/-- The unsigned number in the n bytes from offset off of a body. -/
def num (body : List Byte) (off n : Nat) : Nat := be ((body.drop off).take n)

/-- The two's complement 3-byte number at offset off of a body. -/
def num24 (body : List Byte) (off : Nat) : Int := (BitVec.ofNat 24 (num body off 3)).toInt

/-- One byte. -/
def byte1 (n : Nat) : Byte := BitVec.ofNat 8 n
/-- Two bytes, most significant first. -/
def byte2 (n : Nat) : List Byte := [byte1 (n / 256), byte1 n]
/-- Three bytes, most significant first. -/
def byte3 (n : Nat) : List Byte := [byte1 (n / 65536), byte1 (n / 256), byte1 n]
/-- A two's complement number in two bytes. -/
def signed2 (v : Int) : List Byte := byte2 (BitVec.ofInt 16 v).toNat
/-- A two's complement number in three bytes. -/
def signed3 (v : Int) : List Byte := byte3 (BitVec.ofInt 24 v).toNat
/-- A flag byte. -/
def flagByte (b : Bool) : Byte := if b then 1 else 0
/-- An optional one-byte index, 255 when absent. -/
def indexByte : Option Nat → Byte
  | none => 255
  | some n => byte1 n

/-- The bit of weight 2 to the power n, as a number. -/
def bit (b : Bool) (n : Nat) : Nat := if b then 2 ^ n else 0

/-- A flag field of a request: 0 clear, 1 set, any other value structural. -/
def flagOf (b : Byte) : Option Bool := if b = 0 then some false else if b = 1 then some true else none

/-- A bus mask byte; a bit that names no bus is structural. -/
def busMaskOf (n : Nat) : Option BusMask :=
  if n < 8 then some ⟨n.testBit 0, n.testBit 1, n.testBit 2⟩ else none
/-- The number of a bus mask. -/
def BusMask.number (m : BusMask) : Nat := bit m.foh 0 + bit m.mon 1 + bit m.amp 2

/-- A class mask byte (SUBSCRIBE); bit 7 names no class. -/
def noticeSetOf (n : Nat) : Option NoticeSet :=
  if n < 128 then
    some ⟨n.testBit 0, n.testBit 1, n.testBit 2, n.testBit 3, n.testBit 4, n.testBit 5, n.testBit 6⟩
  else none
/-- The number of a class mask. -/
def NoticeSet.number (m : NoticeSet) : Nat :=
  bit m.guard 0 + bit m.fault 1 + bit m.scene 2 + bit m.mute 3 + bit m.tuner 4 + bit m.tempo 5 + bit m.link 6

/-- A link byte. -/
def linkOf (b : Byte) : Option Link :=
  if b = 0 then some .player else if b = 1 then some .crew else if b = 2 then some .showControl else none
/-- A kind byte. -/
def kindOf (b : Byte) : Option Kind := if b = 0 then some .single else if b = 1 then some .dual else none
/-- The code of a kind. -/
def Kind.code : Kind → Byte
  | .single => 0
  | .dual => 1
/-- The chain byte of a chain group: A or B (R40, check 2). -/
def chainIdOf (b : Byte) : Option ChainId := if b = 0 then some .a else if b = 1 then some .b else none
/-- The code of a chain. -/
def ChainId.code : ChainId → Byte
  | .a => 0
  | .b => 1
/-- The chain byte of an assignment. -/
def chainSelOf (b : Byte) : Option ChainSel :=
  if b = 0 then some .a else if b = 1 then some .b else if b = 2 then some .both else none
/-- The code of an assignment's chain. -/
def ChainSel.code : ChainSel → Byte
  | .a => 0
  | .b => 1
  | .both => 2
/-- A delay mode byte. -/
def delayModeOf (b : Byte) : Option DelayMode :=
  if b = 0 then some .off else if b = 1 then some .fixed else if b = 2 then some .tempo else none
/-- The code of a delay mode. -/
def DelayMode.code : DelayMode → Byte
  | .off => 0
  | .fixed => 1
  | .tempo => 2
/-- A source byte. -/
def sourceOf (b : Byte) : Option Source := if b = 0 then some .exp1 else if b = 1 then some .exp2 else none
/-- The code of a source. -/
def Source.code : Source → Byte
  | .exp1 => 0
  | .exp2 => 1
/-- A tuner mode byte. -/
def tunerModeOf (b : Byte) : Option TunerMode := if b = 0 then some .free else if b = 1 then some .string else none
/-- The code of a tuner mode. -/
def TunerMode.code : TunerMode → Byte
  | .free => 0
  | .string => 1
/-- A bus byte (ACK). -/
def busOf (b : Byte) : Option Bus :=
  if b = 0 then some .fohL else if b = 1 then some .fohR else if b = 2 then some .mon else if b = 3 then some .amp else none
/-- A class byte (ACK, FORCE). -/
def protClassOf (b : Byte) : Option ProtClass :=
  if b = 0 then some .overLevel else if b = 1 then some .dc else if b = 2 then some .loss else none
/-- The targets in the order of their codes (R208). -/
def targets : List Target :=
  [.drivePre, .drivePost, .powerPre, .powerPost, .laneLevel, .delayWet, .delayFeedback, .fohLevel, .monLevel, .ampLevel]
/-- A target byte. -/
def targetOf (b : Byte) : Option Target := targets[b.toNat]?
/-- The code of a target. -/
def Target.code : Target → Byte
  | .drivePre => 0
  | .drivePost => 1
  | .powerPre => 2
  | .powerPost => 3
  | .laneLevel => 4
  | .delayWet => 5
  | .delayFeedback => 6
  | .fohLevel => 7
  | .monLevel => 8
  | .ampLevel => 9

/-! ### Result codes (R211) -/

/-- The seventeen results (10.5). -/
inductive Result where
  | ok
  | clamped
  | done
  | same
  | superseded
  | heldOff
  | notPermitted
  | badRequest
  | outOfWindow
  | emptySlot
  | noPreset
  | loadFail
  | inUse
  | notReady
  | busy
  | locked
  | noScene
deriving DecidableEq, Repr

/-- The code of a result. -/
def Result.code : Result → Byte
  | .ok => 0
  | .clamped => 1
  | .done => 2
  | .same => 3
  | .superseded => 4
  | .heldOff => 5
  | .notPermitted => 6
  | .badRequest => 7
  | .outOfWindow => 8
  | .emptySlot => 9
  | .noPreset => 10
  | .loadFail => 11
  | .inUse => 12
  | .notReady => 13
  | .busy => 14
  | .locked => 15
  | .noScene => 16

/-- OK, or CLAMPED when a clamp acted. -/
def okOr (acted : Bool) : Result := if acted then .clamped else .ok

/-! ### Request types (R208) -/

/-- The request types. -/
inductive ReqType where
  | recall
  | recallIndex
  | windowSet
  | edit
  | store
  | curveBegin
  | curvePut
  | impulseBegin
  | impulsePut
  | presetBegin
  | presetPut
  | presetEnd
  | presetErase
  | mapSet
  | profilePut
  | instrumentSelect
  | pedal
  | tap
  | tempo
  | tunerEngage
  | tunerRelease
  | mute
  | ack
  | force
  | captureClear
  | subscribe
  | setting
  | query
  | reset
deriving DecidableEq, Repr

/-- The type value of a request. -/
def ReqType.code : ReqType → Byte
  | .recall => 0x10
  | .recallIndex => 0x11
  | .windowSet => 0x12
  | .edit => 0x20
  | .store => 0x21
  | .curveBegin => 0x30
  | .curvePut => 0x31
  | .impulseBegin => 0x32
  | .impulsePut => 0x33
  | .presetBegin => 0x34
  | .presetPut => 0x35
  | .presetEnd => 0x36
  | .presetErase => 0x37
  | .mapSet => 0x38
  | .profilePut => 0x39
  | .instrumentSelect => 0x3A
  | .pedal => 0x40
  | .tap => 0x41
  | .tempo => 0x42
  | .tunerEngage => 0x50
  | .tunerRelease => 0x51
  | .mute => 0x52
  | .ack => 0x53
  | .force => 0x54
  | .captureClear => 0x55
  | .subscribe => 0x60
  | .setting => 0x61
  | .query => 0x62
  | .reset => 0x63

/-- All request types. -/
def reqTypes : List ReqType :=
  [.recall, .recallIndex, .windowSet, .edit, .store, .curveBegin, .curvePut, .impulseBegin, .impulsePut, .presetBegin,
   .presetPut, .presetEnd, .presetErase, .mapSet, .profilePut, .instrumentSelect, .pedal, .tap, .tempo, .tunerEngage,
   .tunerRelease, .mute, .ack, .force, .captureClear, .subscribe, .setting, .query, .reset]

/-- The request type of a TYPE byte, none for a byte that is no request type. -/
def reqTypeOf (b : Byte) : Option ReqType := reqTypes.find? (fun t => t.code == b)

/-- The body lengths a request type allows, least and greatest (R208). -/
def ReqType.bodyRange : ReqType → Nat × Nat
  | .recall => (3, 3)
  | .recallIndex => (1, 1)
  | .windowSet => (3, 3)
  | .edit => (3, 31)
  | .store => (1, 1)
  | .curveBegin => (1, 1)
  | .curvePut => (41, 41)
  | .impulseBegin => (1, 1)
  | .impulsePut => (50, 50)
  | .presetBegin => (2, 2)
  | .presetPut => (4, 32)
  | .presetEnd => (1, 1)
  | .presetErase => (1, 1)
  | .mapSet => (3, 3)
  | .profilePut => (16, 24)
  | .instrumentSelect => (1, 1)
  | .pedal => (3, 3)
  | .tap => (0, 0)
  | .tempo => (3, 3)
  | .tunerEngage => (2, 2)
  | .tunerRelease => (0, 0)
  | .mute => (1, 1)
  | .ack => (2, 2)
  | .force => (2, 2)
  | .captureClear => (0, 0)
  | .subscribe => (1, 1)
  | .setting => (4, 4)
  | .query => (2, 5)
  | .reset => (0, 0)

/-- Whether a body has a length its request type allows (R195, check 3). -/
def ReqType.lengthOk (t : ReqType) (n : Nat) : Bool := decide (t.bodyRange.1 ≤ n) && decide (n ≤ t.bodyRange.2)

/-- Whether a role may make a request (R196). -/
def ReqType.permitted (t : ReqType) (l : Link) : Bool :=
  match t, l with
  | .recall, _ | .mute, _ | .subscribe, _ | .query, _ => true
  | .edit, .player => false
  | .edit, _ => true
  | .pedal, .player | .tap, .player => true
  | .pedal, _ | .tap, _ => false
  | .tempo, .showControl => true
  | .tempo, _ => false
  | .tunerEngage, .showControl | .tunerRelease, .showControl => false
  | .tunerEngage, _ | .tunerRelease, _ => true
  | _, .crew => true
  | _, _ => false

/-! ### Preset groups (R209, R41, R42, R43) -/

/-- The content of one group, after its checks and clamps. -/
inductive Group where
  | header (label : List Byte) (kind : Kind) (fade tailHold : Nat)
  | levels (v : Levels)
  | expression (v : List Assign)
  | tempo (v : Option Nat)
  | gate (v : Gate)
  | drive (v : Shaper)
  | tone1 (v : Coefs)
  | tone2 (v : Coefs)
  | tone3 (v : Coefs)
  | power (v : Shaper)
  | cab (v : Option Nat)
  | delay (v : Delay)
  | lane (v : Nat)
deriving DecidableEq, Repr

/-- Whether a group code is one of R38's. -/
def isGroup (code : Nat) : Bool := decide (code ≤ 12)
/-- Whether a group is a chain group. -/
def isChainGroup (code : Nat) : Bool := decide (4 ≤ code) && decide (code ≤ 12)

/-- The chain byte of a group: A or B for a chain group, ignored (taken as A) for any other (R40, R207). -/
def groupChainOf (code : Nat) (chain : Byte) : Option ChainId :=
  if isChainGroup code then chainIdOf chain else some .a

/-- Whether a target is scene-wide (R98). -/
def Target.sceneWide : Target → Bool
  | .fohLevel => true
  | .monLevel => true
  | .ampLevel => true
  | _ => false

/-- Whether two assignments name the same target on a common chain (R42). -/
def assignsClash (x y : Assign) : Bool :=
  (x.target == y.target) &&
    (x.target.sceneWide || x.chain == y.chain || x.chain == .both || y.chain == .both)

/-- Whether two of a list's assignments name the same target on a common chain. -/
def anyClash : List Assign → Bool
  | [] => false
  | x :: xs => xs.any (assignsClash x) || anyClash xs

/-- One assignment of 7 bytes, and whether its clamp acted (R42). -/
def assignOf (b : List Byte) : Option (Assign × Bool) :=
  match b with
  | [src, tgt, ch, l1, l0, h1, h0] =>
    match sourceOf src, targetOf tgt, chainSelOf ch with
    | some source, some target, some chain =>
      let low := be [l1, l0]
      let high := be [h1, h0]
      if target = .delayFeedback then
        some (⟨source, target, chain, min low Config.feedbackMax, min high Config.feedbackMax⟩,
          decide (Config.feedbackMax < low) || decide (Config.feedbackMax < high))
      else some (⟨source, target, chain, low, high⟩, false)
    | _, _, _ => none
  | _ => none

/-- n assignments from a content, and whether any clamp acted. -/
def assignsOf : Nat → List Byte → Option (List Assign × Bool)
  | 0, _ => some ([], false)
  | n + 1, b =>
    match assignOf (b.take 7), assignsOf n (b.drop 7) with
    | some (x, c), some (xs, cs) => some (x :: xs, c || cs)
    | _, _ => none

/-- The DRIVE or POWER group: a curve index outside 0..7 is structural (R41). -/
def shaperOf (c : List Byte) : Option Shaper :=
  if num c 2 1 ≤ 7 then some ⟨num c 0 2, num c 2 1, num c 3 2⟩ else none

/-- A tone section's five coefficients. -/
def coefsOf (c : List Byte) : Coefs := ⟨num24 c 0, num24 c 3, num24 c 6, num24 c 9, num24 c 12⟩

/-- The HEADER group (R41): F clamped to 32..4,800, the tail hold to 0..10,000. A kind byte that is neither 0 nor 1 is no
content: an EDIT of it is refused BAD_REQUEST at check 1 of R70, before the check for a working scene (DESIGN CHOICE, log 28). -/
def headerOf (c : List Byte) : Option (Group × Bool) :=
  match kindOf (byte1 (num c 12 1)) with
  | some k =>
    some (.header (c.take 12) k (clamp 32 4800 (num c 13 2)) (clamp 0 10000 (num c 15 2)),
      decide (clamp 32 4800 (num c 13 2) ≠ num c 13 2) || decide (clamp 0 10000 (num c 15 2) ≠ num c 15 2))
  | none => none

/-- The GATE group (R41): O clamped to 0..8,388,607, C to 0..O as clamped, the release shift to 4..15. -/
def gateOf (c : List Byte) : Gate × Bool :=
  let o := clamp 0 8388607 (num c 0 3)
  let cl := clamp 0 o (num c 3 3)
  let r := clamp 4 15 (num c 6 1)
  (⟨o, cl, r⟩, decide (o ≠ num c 0 3) || decide (cl ≠ num c 3 3) || decide (r ≠ num c 6 1))

/-- The DELAY group (R41): the mode and the division code are codes, the fixed length is clamped to 0..96,000, the
feedback to 0..3,891. -/
def delayOf (c : List Byte) : Option (Delay × Bool) :=
  match delayModeOf (byte1 (num c 0 1)) with
  | some m =>
    if num c 4 1 ≤ 8 then
      let f := clamp 0 96000 (num c 1 3)
      let fb := clamp 0 Config.feedbackMax (num c 5 2)
      some (⟨m, f, num c 4 1, fb, num c 7 2, num c 9 2⟩, decide (f ≠ num c 1 3) || decide (fb ≠ num c 5 2))
    else none
  | none => none

/-- The EXPRESSION group (R42, R209): a count of at most 4, a length that fits it, known codes, no clash. -/
def expressionOf (c : List Byte) : Option (Group × Bool) :=
  let n := num c 0 1
  if c.length = 1 + 7 * n ∧ n ≤ 4 then
    match assignsOf n (c.drop 1) with
    | some (xs, acted) => if anyClash xs then none else some (.expression xs, acted)
    | none => none
  else none

/-- The TEMPO group (R43): bpm×100 clamped to 2,000..24,000 when present. -/
def tempoGroupOf (c : List Byte) : Option (Group × Bool) :=
  match flagOf (byte1 (num c 0 1)) with
  | some true =>
    some (.tempo (some (clamp 2000 24000 (num c 1 2))), decide (clamp 2000 24000 (num c 1 2) ≠ num c 1 2))
  | some false => some (.tempo none, false)
  | none => none

/-- The length of a fixed-length group (R209). -/
def groupLength : Nat → Nat
  | 0 => 17
  | 1 => 6
  | 3 => 3
  | 4 => 7
  | 5 => 5
  | 6 => 15
  | 7 => 15
  | 8 => 15
  | 9 => 5
  | 10 => 1
  | 11 => 11
  | 12 => 2
  | _ => 0

/-- A group's content, checked and clamped, and whether any clamp acted; none when it is not well formed for its group
(R41, R42, R43, R209). What depends on the record the group goes to is left to `groupFits`. -/
def groupOf (code : Nat) (c : List Byte) : Option (Group × Bool) :=
  if code = 2 then expressionOf c
  else if code ≤ 12 ∧ c.length = groupLength code then
    match code with
    | 0 => headerOf c
    | 1 => some (.levels ⟨num c 0 2, num c 2 2, num c 4 2⟩, false)
    | 3 => tempoGroupOf c
    | 4 => some (.gate (gateOf c).1, (gateOf c).2)
    | 5 => (shaperOf c).map (fun v => (.drive v, false))
    | 6 => some (.tone1 (coefsOf c), false)
    | 7 => some (.tone2 (coefsOf c), false)
    | 8 => some (.tone3 (coefsOf c), false)
    | 9 => (shaperOf c).map (fun v => (.power v, false))
    | 10 =>
      if num c 0 1 ≤ 15 then some (.cab (some (num c 0 1)), false)
      else if num c 0 1 = 255 then some (.cab none, false)
      else none
    | 11 => (delayOf c).map (fun v => (.delay v.1, v.2))
    | 12 => some (.lane (num c 0 2), false)
    | _ => none
  else none

/-- Whether a group fits a record or scene of a kind: no chain B of a SINGLE, a HEADER's kind as the record's, no
EXPRESSION assignment of a SINGLE on chain B or BOTH (R40 to R42, R70). -/
def groupFits (kind : Kind) (code : Nat) (chain : ChainId) (g : Group) : Bool :=
  (kind == .dual || !(isChainGroup code) || chain == .a) &&
    match g with
    | .header _ k _ _ => k == kind
    | .expression xs => kind == .dual || xs.all (fun x => x.chain == .a)
    | _ => true

/-- One chain of a preset's content; chain B of a SINGLE is read as chain A, and no rule reads it. -/
def Preset.chain (p : Preset) : ChainId → Chain
  | .a => p.chainA
  | .b => p.chainB.getD p.chainA

/-- Replace one chain of a preset's content; chain B of a SINGLE is not there to be replaced. -/
def Preset.setChain (p : Preset) (c : ChainId) (v : Chain) : Preset :=
  match c with
  | .a => { p with chainA := v }
  | .b => { p with chainB := p.chainB.map (fun _ => v) }

/-- Replace one group of a preset's content whole (R40, R71). -/
def Preset.putGroup (p : Preset) (c : ChainId) : Group → Preset
  | .header label kind fade tailHold => { p with label := label, kind := kind, fade := fade, tailHold := tailHold }
  | .levels v => { p with levels := v }
  | .expression v => { p with expression := v }
  | .tempo v => { p with tempo := v }
  | .gate v => p.setChain c { p.chain c with gate := v }
  | .drive v => p.setChain c { p.chain c with drive := v }
  | .tone1 v => p.setChain c { p.chain c with tone1 := v }
  | .tone2 v => p.setChain c { p.chain c with tone2 := v }
  | .tone3 v => p.setChain c { p.chain c with tone3 := v }
  | .power v => p.setChain c { p.chain c with power := v }
  | .cab v => p.setChain c { p.chain c with cab := v }
  | .delay v => p.setChain c { p.chain c with delay := v }
  | .lane v => p.setChain c { p.chain c with level := v }

/-- The bytes of one assignment. -/
def Assign.bytes (x : Assign) : List Byte :=
  [x.source.code, x.target.code, x.chain.code] ++ byte2 x.low ++ byte2 x.high

/-- The bytes of five coefficients. -/
def Coefs.bytes (c : Coefs) : List Byte :=
  signed3 c.b0 ++ signed3 c.b1 ++ signed3 c.b2 ++ signed3 c.a1 ++ signed3 c.a2

/-- The bytes of a DRIVE or POWER group. -/
def Shaper.bytes (v : Shaper) : List Byte := byte2 v.pre ++ [byte1 v.curve] ++ byte2 v.post

/-- The content bytes of a group of a preset, as a group query answers it (R209, R213). -/
def Preset.groupBytes (p : Preset) (code : Nat) (c : ChainId) : List Byte :=
  match code with
  | 0 => p.label ++ [p.kind.code] ++ byte2 p.fade ++ byte2 p.tailHold
  | 1 => byte2 p.levels.foh ++ byte2 p.levels.mon ++ byte2 p.levels.amp
  | 2 => [byte1 p.expression.length] ++ (p.expression.map Assign.bytes).flatten
  | 3 => [flagByte p.tempo.isSome] ++ byte2 (p.tempo.getD 0)
  | 4 => byte3 (p.chain c).gate.openAt ++ byte3 (p.chain c).gate.closeAt ++ [byte1 (p.chain c).gate.release]
  | 5 => (p.chain c).drive.bytes
  | 6 => (p.chain c).tone1.bytes
  | 7 => (p.chain c).tone2.bytes
  | 8 => (p.chain c).tone3.bytes
  | 9 => (p.chain c).power.bytes
  | 10 => [indexByte (p.chain c).cab]
  | 11 =>
    [(p.chain c).delay.mode.code] ++ byte3 (p.chain c).delay.fixedLength ++ [byte1 (p.chain c).delay.division] ++
      byte2 (p.chain c).delay.feedback ++ byte2 (p.chain c).delay.dry ++ byte2 (p.chain c).delay.wet
  | 12 => byte2 (p.chain c).level
  | _ => []

/-- The chain of a preset record after PRESET_BEGIN (R39). -/
def Chain.default : Chain :=
  { gate := ⟨0, 0, 10⟩, drive := ⟨256, 0, 4096⟩, tone1 := ⟨4194304, 0, 0, 0, 0⟩, tone2 := ⟨4194304, 0, 0, 0, 0⟩
    tone3 := ⟨4194304, 0, 0, 0, 0⟩, power := ⟨256, 0, 4096⟩, cab := none, delay := ⟨.off, 24000, 3, 0, 4096, 0⟩
    level := 4096 }

/-- The content of a preset record after PRESET_BEGIN (R39). -/
def Preset.default (kind : Kind) : Preset :=
  { kind := kind, label := List.replicate 12 0x20, fade := 480, tailHold := 0, levels := ⟨4096, 4096, 4096⟩
    expression := [], tempo := none, chainA := .default
    chainB := match kind with
      | .single => none
      | .dual => some .default }

/-! ### Settings (R199, R214) -/

/-- The settings. -/
inductive Setting where
  | presenceFloor
  | tenure (of : Link)
  | referencePitch
  | hysteresis
  | wIn
  | wNear
  | tunerMuteSet
  | safetyTimer
  | attenuation
  | overThreshold
  | dcThreshold
  | lossFloor
  | tOver
  | tDc
  | tLoss
deriving DecidableEq, Repr

/-- The identifier of a setting. -/
def Setting.code : Setting → Byte
  | .presenceFloor => 0x01
  | .tenure .player => 0x02
  | .tenure .crew => 0x03
  | .tenure .showControl => 0x04
  | .referencePitch => 0x10
  | .hysteresis => 0x11
  | .wIn => 0x12
  | .wNear => 0x13
  | .tunerMuteSet => 0x14
  | .safetyTimer => 0x20
  | .attenuation => 0x21
  | .overThreshold => 0x30
  | .dcThreshold => 0x31
  | .lossFloor => 0x32
  | .tOver => 0x33
  | .tDc => 0x34
  | .tLoss => 0x35

/-- All settings. -/
def settings : List Setting :=
  [.presenceFloor, .tenure .player, .tenure .crew, .tenure .showControl, .referencePitch, .hysteresis, .wIn, .wNear,
   .tunerMuteSet, .safetyTimer, .attenuation, .overThreshold, .dcThreshold, .lossFloor, .tOver, .tDc, .tLoss]

/-- The setting of an identifier, none for an unknown one. -/
def settingOf (b : Byte) : Option Setting := settings.find? (fun t => t.code == b)

/-- Whether a setting is a tuner setting (R133). -/
def Setting.ofTuner : Setting → Bool
  | .referencePitch => true
  | .hysteresis => true
  | .wIn => true
  | .wNear => true
  | .tunerMuteSet => true
  | _ => false

/-! ### Query items (R212) -/

/-- The query items. -/
inductive Item where
  | sceneGroup
  | libraryGroup
  | recordState
  | mapEntry
  | profile
  | activeProfile
  | window
  | tempo
  | tuner
  | mute
  | protection
  | capture
  | laneStates
  | setting
  | link
deriving DecidableEq, Repr

/-- The items in the order of their codes. -/
def items : List Item :=
  [.sceneGroup, .libraryGroup, .recordState, .mapEntry, .profile, .activeProfile, .window, .tempo, .tuner, .mute,
   .protection, .capture, .laneStates, .setting, .link]

/-- The item of a code byte. -/
def itemOf (b : Byte) : Option Item := items[b.toNat]?

/-- The code of an item. -/
def Item.code : Item → Byte
  | .sceneGroup => 0
  | .libraryGroup => 1
  | .recordState => 2
  | .mapEntry => 3
  | .profile => 4
  | .activeProfile => 5
  | .window => 6
  | .tempo => 7
  | .tuner => 8
  | .mute => 9
  | .protection => 10
  | .capture => 11
  | .laneStates => 12
  | .setting => 13
  | .link => 14

/-- The number of parts of an item's answer. -/
def Item.parts : Item → Nat
  | .protection => 3
  | _ => 1

/-! ### The frame (R187) -/

/-- The sum the CHECK byte brings to a multiple of 256. -/
def frameSum (len : Nat) (content : List Byte) : Nat := len + (content.map BitVec.toNat).sum

/-- The bytes of the frame that carries a message: SYNC, LEN, TYPE, TAG, body, CHECK. -/
def frameBytes (m : Message) : List Byte :=
  let content := m.type :: m.tag :: m.body
  [Config.syncByte, byte1 content.length] ++ content ++ [byte1 (256 - frameSum content.length content % 256)]

end Sys2Proof.Machine
end

