-- ==== Sys2Proof/Machine/Flags.lean ====
section
/-! DEFINITION. The flags and records the blocks report through: notice classes (R180), the Fault Capture (R174), response
slots and queue (R192), and the discard of a frame or request (R191). -/

namespace Sys2Proof.Machine

/-! ### Notice classes -/

/-- A Link Interface whose pending flag of a class is set if its mask holds the class (R180). -/
def LinkIf.raised (x : LinkIf) (c : NoticeClass) : LinkIf :=
  if x.mask.has c then { x with flags := x.flags.put c true } else x

/-- Raise a notice class on every link subscribed to it (R180). -/
def raiseNotice (c : NoticeClass) (s : State) : State := s.withLinks (s.links.map (fun x => x.raised c))

/-- Raise LINK in one link alone (R180). -/
def raiseLinkNotice (l : Link) (s : State) : State := s.setLink l ((s.link l).raised .link)

/-! ### Fault Capture -/

/-- Whether a class is of severity MAJOR (R173). -/
def FaultClass.major : FaultClass → Bool
  | .loadFail => true
  | .powerOn => true
  | .softReset => true
  | _ => false

/-- Whether a fault written to the capture changes it (R174): it fills an empty capture, and a MAJOR fault overwrites a
MINOR record. -/
def captureTakes (held : Option FaultRec) (r : FaultRec) : Bool :=
  match held with
  | none => true
  | some old => r.cls.major && !old.cls.major

/-- Write a fault to the capture; FAULT is raised when it fills or overwrites (R174). -/
def writeFault (r : FaultRec) (s : State) : State :=
  if captureTakes s.capture r then raiseNotice .fault (s.withCapture (some r)) else s

/-! ### Response slots -/

/-- The response slots of a link that are not free (R192). -/
def LinkIf.occupied (x : LinkIf) : Nat := x.reserved + x.queue.length

/-- Reserve a response slot (R192). -/
def reserveSlot (l : Link) (s : State) : State :=
  s.setLink l { s.link l with reserved := (s.link l).reserved + 1 }

/-- A response becomes final: a reserved slot becomes queued, at the newest end of the queue (R192, R197). -/
def queueMessage (l : Link) (m : Message) (s : State) : State :=
  s.setLink l { s.link l with reserved := (s.link l).reserved - 1, queue := (s.link l).queue ++ [m] }

/-- The response type of a request (R211). -/
def ReqType.responseCode (t : ReqType) : Byte := t.code + 0x80

/-- Give the response of a request, carrying a result alone (R197, R211). -/
def respond (l : Link) (t : ReqType) (tag : Byte) (r : Result) (s : State) : State :=
  queueMessage l ⟨t.responseCode, tag, [r.code]⟩ s

/-- The request type of a recall, by whether it carried a library index (R211). -/
def recallType (byIndex : Bool) : ReqType := if byIndex then .recallIndex else .recall

/-! ### Discards -/

/-- The fault class of a discard (R191). -/
def DiscardCause.faultClass : DiscardCause → FaultClass
  | .badFrame => .badFrame
  | .badCheck => .badCheck
  | .overrun => .overrun

/-- A frame or request is discarded (R191): the receiver returns to HUNT with an empty buffer, the cause is kept, LINK is
raised in this link, and a MINOR fault with the link is written. -/
def discard (l : Link) (cause : DiscardCause) (s : State) : State :=
  let s := s.setLink l { s.link l with rx := .hunt, gap := 0, cause := some cause }
  writeFault ⟨cause.faultClass, some l, none, none⟩ (raiseLinkNotice l s)

end Sys2Proof.Machine
end

