-- ==== Sys2Proof/Machine/Control.lean ====
section
/-! DEFINITION. Control Rate Unit (chapter 5): pedal positions, effective values, the tempo record and delay lengths, and
the writes toward the pending sets of the lanes that carry the working scene. -/

namespace Sys2Proof.Machine

/-! ### Which lane carries what (R54) -/

/-- Whether a lane state carries the working scene (R54). -/
def LaneState.carries : LaneState → Bool
  | .incoming => true
  | .live => true
  | _ => false

/-- The chain a role carries (R54). -/
def Role.chain : Role → ChainId
  | .single => .a
  | .dualA => .a
  | .dualB => .b

/-- Write toward a lane's pending set: discarded unless the lane is INCOMING or LIVE (R26). -/
def Lane.pend (l : Lane) (f : ChainId → PendingSet → PendingSet) : Lane :=
  if l.state.carries then { l with pendingSet := f l.role.chain l.pendingSet } else l

/-- Write toward the pending set of every lane that carries the working scene. -/
def pendLanes (f : ChainId → PendingSet → PendingSet) (s : State) : State :=
  s.withLanes (s.lanes.map (fun l => l.pend f))

/-- Whether an assignment names its target on a chain; a scene-wide target counts as named on every chain (R99). -/
def Assign.onChain (x : Assign) (c : ChainId) : Bool :=
  x.target.sceneWide || x.chain == .both || (x.chain == .a && c == .a) || (x.chain == .b && c == .b)

/-- Put a target's value into a parameter set. -/
def Params.setTarget (p : Params) (t : Target) (v : Nat) : Params :=
  match t with
  | .drivePre => { p with chain := { p.chain with drive := { p.chain.drive with pre := v } } }
  | .drivePost => { p with chain := { p.chain with drive := { p.chain.drive with post := v } } }
  | .powerPre => { p with chain := { p.chain with power := { p.chain.power with pre := v } } }
  | .powerPost => { p with chain := { p.chain with power := { p.chain.power with post := v } } }
  | .laneLevel => { p with chain := { p.chain with level := v } }
  | .delayWet => { p with chain := { p.chain with delay := { p.chain.delay with wet := v } } }
  | .delayFeedback => { p with chain := { p.chain with delay := { p.chain.delay with feedback := v } } }
  | .fohLevel => { p with levels := { p.levels with foh := v } }
  | .monLevel => { p with levels := { p.levels with mon := v } }
  | .ampLevel => { p with levels := { p.levels with amp := v } }

/-- The value of a target in a parameter set. -/
def Params.target (p : Params) : Target → Nat
  | .drivePre => p.chain.drive.pre
  | .drivePost => p.chain.drive.post
  | .powerPre => p.chain.power.pre
  | .powerPost => p.chain.power.post
  | .laneLevel => p.chain.level
  | .delayWet => p.chain.delay.wet
  | .delayFeedback => p.chain.delay.feedback
  | .fohLevel => p.levels.foh
  | .monLevel => p.levels.mon
  | .ampLevel => p.levels.amp

/-- Put a target's value into a pending set. -/
def PendingSet.setTarget (p : PendingSet) (t : Target) (v : Nat) : PendingSet :=
  match t with
  | .drivePre => { p with drivePre := some v }
  | .drivePost => { p with drivePost := some v }
  | .powerPre => { p with powerPre := some v }
  | .powerPost => { p with powerPost := some v }
  | .laneLevel => { p with level := some v }
  | .delayWet => { p with wet := some v }
  | .delayFeedback => { p with feedback := some v }
  | .fohLevel => { p with foh := some v }
  | .monLevel => { p with mon := some v }
  | .ampLevel => { p with amp := some v }

/-! ### Pedals and effective values (R96 to R99) -/

/-- The smoothed position of a history (R96). -/
def History.smoothed (h : History) : Nat := (h.p0 + h.p1 + h.p2 + h.p3) / 4
/-- A position enters at the newest end (R96). -/
def History.push (h : History) (p : Nat) : History := ⟨h.p1, h.p2, h.p3, p⟩
/-- The history of a source. -/
def Control.history (c : Control) : Source → History
  | .exp1 => c.exp1
  | .exp2 => c.exp2
/-- Replace the history of a source. -/
def Control.setHistory (c : Control) (src : Source) (h : History) : Control :=
  match src with
  | .exp1 => { c with exp1 := h }
  | .exp2 => { c with exp2 := h }

/-- The clamp a target puts on an effective value (R98). -/
def Target.clampValue (t : Target) (v : Nat) : Nat :=
  match t with
  | .delayFeedback => min v Config.feedbackMax
  | _ => v

/-- The effective value of an assignment at a smoothed position: low + (high − low)·P / 1023, truncated toward zero, then
the target's clamp (R98). -/
def Assign.valueAt (x : Assign) (p : Nat) : Nat :=
  x.target.clampValue ((x.low : Int) + (((x.high : Int) - x.low) * p).tdiv 1023).toNat

/-- The effective value of an assignment from the present smoothed positions. -/
def Control.effective (c : Control) (x : Assign) : Nat := x.valueAt (c.history x.source).smoothed

/-- The assignments of a scene with their effective values (R98). -/
def Scene.assigned (sc : Scene) : List (Assign × Nat) := sc.preset.expression.zip sc.effective

/-- The base parameter set of one chain of a scene (R54). -/
def Scene.baseParams (sc : Scene) (c : ChainId) : Params := ⟨sc.preset.chain c, sc.preset.levels⟩

/-- The parameter set a lane carrying a chain is loaded with: base values, and effective values where an assignment names
the parameter on the chain (R54). -/
def Scene.params (sc : Scene) (c : ChainId) : Params :=
  (sc.assigned.filter (fun xv => xv.1.onChain c)).foldl (fun p xv => p.setTarget xv.1.target xv.2) (sc.baseParams c)

/-- Whether a list of assignments names a target on a chain (R99). -/
def namesTarget (xs : List Assign) (c : ChainId) (t : Target) : Bool := xs.any (fun x => x.target == t && x.onChain c)

/-- Write the effective values of the assignments that satisfy f toward the carrying lanes they reach (R99). -/
def pendEffective (f : Assign → Bool) (sc : Scene) (s : State) : State :=
  pendLanes (fun c p =>
    (sc.assigned.filter (fun xv => f xv.1 && xv.1.onChain c)).foldl (fun p xv => p.setTarget xv.1.target xv.2) p) s

/-- Replace the working scene. -/
def setScene (sc : Scene) (s : State) : State := s.withEngine { s.engine with scene := some sc }

/-- PEDAL (R97): source; position (2). -/
def pedal (body : List Byte) (s : State) : Result × State :=
  match sourceOf (byte1 (num body 0 1)) with
  | none => (.badRequest, s)
  | some src =>
    let pos := clamp 0 1023 (num body 1 2)
    let ctl := s.control.setHistory src ((s.control.history src).push pos)
    let s := s.withControl ctl
    let result := okOr (decide (pos ≠ num body 1 2))
    match s.engine.scene with
    | none => (result, s)
    | some sc =>
      let sc := { sc with effective := sc.preset.expression.zipWith
                            (fun x v => if x.source = src then ctl.effective x else v) sc.effective }
      (result, pendEffective (fun x => x.source == src) sc (setScene sc s))

/-- An accepted EDIT of the EXPRESSION group reaches the unit (R101): `old` is the list before, the scene holds the new
one. Each target either list names on a lane's chain is written: the new effective value, or the base value. -/
def expressionChange (old : List Assign) (sc : Scene) (s : State) : State :=
  let xs := sc.preset.expression
  let sc := { sc with effective := xs.map s.control.effective }
  pendLanes (fun c p =>
    targets.foldl (fun p t =>
      match sc.assigned.find? (fun xv => xv.1.target == t && xv.1.onChain c) with
      | some xv => p.setTarget t xv.2
      | none => if namesTarget old c t then p.setTarget t ((sc.baseParams c).target t) else p) p) (setScene sc s)

/-! ### Delay lengths (R109, R110) -/

/-- The division of a code, numerator and denominator (R109). -/
def division : Nat → Nat × Nat
  | 0 => (4, 1)
  | 1 => (2, 1)
  | 2 => (3, 2)
  | 3 => (1, 1)
  | 4 => (3, 4)
  | 5 => (2, 3)
  | 6 => (1, 2)
  | 7 => (1, 3)
  | _ => (1, 4)

/-- The delay length of a chain and its delay clamped indication (R109). -/
def deriveLength (period : Nat) (d : Delay) : Nat × Bool :=
  match d.mode with
  | .tempo =>
    let len := period * (division d.division).1 / (division d.division).2
    (clamp 48 Config.delayEntries len, decide (clamp 48 Config.delayEntries len ≠ len))
  | _ => (clamp 48 Config.delayEntries d.fixedLength, false)

/-- After a change of period, every carrying lane is written its length (R110). -/
def pendLengths (s : State) : State :=
  match s.engine.scene with
  | none => s
  | some sc => pendLanes (fun c p => { p with length := some (deriveLength s.control.period (sc.preset.chain c).delay) }) s

/-! ### Tempo (R103 to R107) -/

/-- The period of bpm×100 b, and the bpm×100 of a period b: 288,000,000 / b rounded half up (R103, R105). -/
def tempoQuotient (b : Nat) : Nat := (576000000 + b) / (2 * b)

/-- Write the tempo record, raise TEMPO, and write the lengths that follow (R108, R110). -/
def writeTempo (ctl : Control) (s : State) : State := pendLengths (raiseNotice .tempo (s.withControl ctl))

/-- The interval list with one more interval: the oldest leaves a full list first (R104). -/
def addInterval (xs : List Nat) (i : Nat) : List Nat := (if 4 ≤ xs.length then xs.drop 1 else xs) ++ [i]

/-- TAP (R104). -/
def tap (s : State) : Result × State :=
  let now := s.frontEnd.frameCount
  let restart := s.withControl { s.control with prevTap := some now, intervals := [] }
  if s.control.locked then (.locked, s)
  else
    match s.control.prevTap with
    | none => (.ok, restart)
    | some prev =>
      let i := (now - prev).toNat
      if i < 12000 ∨ 144000 < i then (.ok, restart)
      else
        let xs := addInterval s.control.intervals i
        (.ok, writeTempo { s.control with period := xs.sum / xs.length, source := .tap, prevTap := some now, intervals := xs }
          s)

/-- TEMPO (R105): bpm×100 (2); lock. -/
def tempo (body : List Byte) (s : State) : Result × State :=
  match flagOf (byte1 (num body 2 1)) with
  | none => (.badRequest, s)
  | some lock =>
    let b := clamp 2000 24000 (num body 0 2)
    (okOr (decide (b ≠ num body 0 2)),
      writeTempo { s.control with period := tempoQuotient b, source := .showSystem, locked := lock, prevTap := none,
                                  intervals := [] } s)

/-- A preset's TEMPO group is applied at a load step, unless it is absent or the record is locked (R107). The loaded lanes
take their lengths at the load itself (R110). -/
def applyPresetTempo (t : Option Nat) (s : State) : State :=
  match t with
  | none => s
  | some b =>
    if s.control.locked then s
    else
      raiseNotice .tempo
        (s.withControl { s.control with period := tempoQuotient b, source := .preset, prevTap := none, intervals := [] })

end Sys2Proof.Machine
end

