-- ==== Sys2Proof/Machine/Mixer.lean ====
section
/-! DEFINITION. Output Mixer (chapter 7): summing the lanes, the mute and protection ramps, MUTE, the safety timer. -/

namespace Sys2Proof.Machine

/-- The three contributions a lane delivers (R22). -/
structure Contribution where
  foh : Int
  mon : Int
  amp : Int
deriving DecidableEq, Repr

/-- What a lane of a role adds to a bus (R140); the halving is an arithmetic shift. -/
def Contribution.onBus (c : Contribution) (role : Role) (b : Bus) : Int :=
  match role, b with
  | .single, .fohL => c.foh
  | .single, .fohR => c.foh
  | .single, .mon => c.mon
  | .single, .amp => c.amp
  | .dualA, .fohL => c.foh
  | .dualA, .fohR => 0
  | .dualB, .fohL => 0
  | .dualB, .fohR => c.foh
  | _, .mon => c.mon / 2
  | _, .amp => c.amp / 2

/-- The bus sum of the two lanes' contributions (R140). -/
def busSum (roles : PerLane Role) (c : PerLane Contribution) (b : Bus) : Int :=
  saturate (c.a.onBus roles.a b + c.b.onBus roles.b b)

/-- Whether a bus is held silent (R142). -/
def Mixer.heldSilent (m : Mixer) (b : Bus) : Bool := m.mask.has b || (m.tunerMute && m.tunerSet.has b)

/-- The mixer's ramps after one step (R142, R143). -/
def Mixer.stepRamps (m : Mixer) : Mixer :=
  { m with
    ramps := PerBus.build (fun b =>
      if m.heldSilent b then rampDown (m.ramps.get b) else rampUp Config.rampTop (m.ramps.get b))
    monRamp := if m.monRequest then rampDown m.monRamp else rampUp Config.rampTop m.monRamp }

/-- The protection gain of MON (R141). -/
def Mixer.protectionGain (m : Mixer) : Nat :=
  m.attenuation + (Config.weightUnity - m.attenuation) * m.monRamp / Config.rampTop

/-- The finished sample of a bus from its sum (R141). -/
def Mixer.finished (m : Mixer) (b : Bus) (sum : Int) : Int :=
  let muted := rhs (sum * rampGain (m.ramps.get b)) 15
  match b with
  | .mon => rhs (muted * m.protectionGain) 15
  | _ => muted

/-- The muted indication of a bus (R151). -/
def Mixer.muted (m : Mixer) (b : Bus) : Bool := m.ramps.get b == 0

/-- One frame of the mixer (R140 to R143): the ramps step, the finished samples are formed and sent on the output port. -/
def mixerFrame (roles : PerLane Role) (c : PerLane Contribution) (s : State) : State × PerBus Int :=
  let m := s.mixer.stepRamps
  let finished := PerBus.build (fun b => m.finished b (busSum roles c b))
  (s.withMixer { m with output := finished.map sampleSlot }, finished)

/-- MUTE (R144, R145). -/
def mute (body : List Byte) (s : State) : Result × State :=
  match busMaskOf (num body 0 1) with
  | none => (.badRequest, s)
  | some m =>
    let timer :=
      if m.isEmpty then none
      else if s.mixer.mask.isEmpty then
        (if s.mixer.safetySetting = 0 then none else some (1000 * s.mixer.safetySetting))
      else s.mixer.timer
    (.ok, raiseNotice .mute (s.withMixer { s.mixer with mask := m, expired := false, timer := timer }))

/-- The safety timer's expiry (R146). -/
def safetyExpiry (s : State) : State :=
  raiseNotice .mute (s.withMixer { s.mixer with mask := .none, timer := none, expired := true })

/-- A new safety timer setting (R147); MUTE is raised when the timer starts, restarts or stops. R148 speaks of a MUTE for the
request in each order, R147 and R152 of none while the mask is empty: where the expiry has emptied the mask first, a setting
that comes together with it raises none of its own, and the expiry's MUTE stands for both (DESIGN CHOICE, log 30). -/
def setSafetyTimer (v : Nat) (s : State) : State :=
  let m := { s.mixer with safetySetting := v }
  if s.mixer.mask.isEmpty then s.withMixer m
  else if v = 0 then
    (if s.mixer.timer.isNone then s.withMixer m else raiseNotice .mute (s.withMixer { m with timer := none }))
  else raiseNotice .mute (s.withMixer { m with timer := some (1000 * v) })

end Sys2Proof.Machine
end

