-- ==== Sys2Proof/Machine/Lanes.lean ====
section
/-! DEFINITION. Input Front End and Tone Lanes (chapter 1): the trim and the input meter, the chain of a lane stage by stage,
block boundaries, loads, and the end of a lane's use. -/

namespace Sys2Proof.Machine

/-! ### Input Front End (R3 to R6) -/

/-- Whether the frame to come opens with a block boundary that has not been taken (R6). -/
def FrontEnd.boundaryFalls (f : FrontEnd) : Bool := f.phase == 15 && !f.boundaryTaken

/-- A block boundary of the front end: what is pending becomes active (R6). -/
def FrontEnd.latch (f : FrontEnd) : FrontEnd :=
  { f with trim := f.pendingTrim.getD f.trim, pendingTrim := none, floor := f.pendingFloor.getD f.floor,
           pendingFloor := none }

/-- The front end takes one sample: the frame count advances, a boundary that falls is taken first, the trimmed sample is
formed, the meter moves and presence is judged (R3, R5, R6). -/
def FrontEnd.frame (f : FrontEnd) (x : Int) : FrontEnd × Int :=
  let f := if f.boundaryFalls then f.latch else f
  let t := rhs (x * f.trim) 12
  let meter := peakEnvelope 10 f.meter t
  ({ f with frameCount := f.frameCount + 1, meter := meter, presence := decide (f.floor ≤ meter),
            phase := (f.phase + 1) % Config.blockLength, boundaryTaken := false }, t)

/-! ### The stages of a lane (R10 to R22) -/

/-- The gate's comparator after the envelope has come to e (R10). -/
def gateNext (g : Gate) (st : GateState) (e : Nat) : GateState :=
  if g.openAt = 0 then .opened
  else match st with
    | .closed => if g.openAt ≤ e then .opened else .closed
    | .opened => if e < g.closeAt then .closed else .opened

/-- The gate ramp after one frame (R11). -/
def gateRampNext (st : GateState) (j : Nat) : Nat :=
  match st with
  | .opened => rampUp Config.gateRampTop j
  | .closed => rampDown j

/-- The gate gain in level format (R11). -/
def gateGain (g : Gate) (j : Nat) : Nat := if g.openAt = 0 then Config.levelUnity else 64 * j

/-- The gate stage (R10, R11). -/
def Lane.gateFrame (l : Lane) (x : Int) : Lane × Int :=
  let g := l.params.chain.gate
  let e := peakEnvelope g.release l.gateEnv x
  let st := gateNext g l.gateState e
  let j := gateRampNext st l.gateRamp
  ({ l with gateEnv := e, gateState := st, gateRamp := j }, rhs (x * gateGain g j) 12)

/-- A curve lookup (R13). -/
def curveLookup (y : Nat → Int) (u : Int) : Int :=
  let v := (u + 8388608).toNat
  let k := v / 262144
  let f := v % 262144
  y k + ((y (k + 1) - y k) * f + 131072) / 262144

/-- The drive or power stage (R12, R15). -/
def shape (st : Stores) (p : Shaper) (g : Int) : Int :=
  rhs (curveLookup (tableGet 0 (st.curve p.curve).values) (rhs (g * p.pre) 8) * p.post) 12

/-- A tone section's exact sum (R14). -/
def biquadSum (c : Coefs) (h : BiquadHist) (x0 : Int) : Int :=
  c.b0 * x0 + c.b1 * h.x1 + c.b2 * h.x2 - c.a1 * h.y1 - c.a2 * h.y2

/-- A tone section (R14): its output and its history moved on. -/
def biquad (c : Coefs) (h : BiquadHist) (x0 : Int) : Int × BiquadHist :=
  let y := rhs (biquadSum c h x0) 22
  (y, ⟨x0, h.x1, y, h.y1⟩)

/-- The three tone sections in series (R14). -/
def Lane.toneFrame (l : Lane) (x : Int) : Lane × Int :=
  let (y1, h1) := biquad l.params.chain.tone1 l.hist1 x
  let (y2, h2) := biquad l.params.chain.tone2 l.hist2 y1
  let (y3, h3) := biquad l.params.chain.tone3 l.hist3 y2
  ({ l with hist1 := h1, hist2 := h2, hist3 := h3 }, y3)

/-- The sum of taps times past samples, newest sample first, from tap i on (R16). -/
def firSum (h : Nat → Int) : Nat → List Int → Int
  | _, [] => 0
  | i, p :: ps => h i * p + firSum h (i + 1) ps

/-- The cab stage (R16): P enters the FIR history, and the named impulse runs over it. -/
def Lane.cabFrame (st : Stores) (l : Lane) (p : Int) : Lane × Int :=
  let fir := (p :: l.fir).take Config.firLength
  let c := match l.params.chain.cab with
    | none => p
    | some i => rhs (firSum (tableGet 0 (st.impulse i).values) 0 fir) 23
  ({ l with fir := fir }, c)

/-- The delay read (R18). -/
def Lane.delayRead (l : Lane) : Int :=
  if l.params.chain.delay.mode = .off then 0
  else if l.delayLength ≤ l.fill then
    tableGet 0 l.delayHalf ((l.writePos + Config.delayEntries - l.delayLength) % Config.delayEntries)
  else 0

/-- The value the delay writes (R19). -/
def Lane.delayFeed (l : Lane) (cw r : Int) : Int :=
  if l.params.chain.delay.mode = .off then 0 else saturate (cw + rhs (r * l.params.chain.delay.feedback) 12)

/-- The delay write: one entry, the write position and the fill count move on (R19). -/
def Lane.delayWrite (l : Lane) (v : Int) : Lane :=
  { l with delayHalf := tablePut 0 l.delayHalf l.writePos v, writePos := (l.writePos + 1) % Config.delayEntries
           fill := if l.fill < Config.delayEntries then l.fill + 1 else l.fill }

/-- The mix (R20). -/
def Lane.mix (l : Lane) (cw r : Int) : Int :=
  saturate (rhs (cw * l.params.chain.delay.dry) 12 + rhs (r * l.params.chain.delay.wet) 12)

/-- The output ramp falls on a frame on which the lane is CUTTING or is being dipped out (R21, R65). -/
def Lane.stepOutRamp (l : Lane) (dipping : Bool) : Lane :=
  match l.state with
  | .cutting => { l with outRamp := rampDown l.outRamp }
  | .live => if dipping then { l with outRamp := rampDown l.outRamp } else l
  | .tailing => if dipping then { l with outRamp := rampDown l.outRamp } else l
  | _ => l

/-- The three contributions (R21, R22), from the lane with its output ramp stepped, the pre-level signal after the lane
level and the weighted pre-cab signal. -/
def Lane.contribution (l : Lane) (lp pw : Int) : Contribution :=
  let gain := rampGain l.outRamp
  let lm := rhs (lp * gain) 15
  { foh := rhs (lm * l.params.levels.foh) 12
    mon := rhs (lm * l.params.levels.mon) 12
    amp := rhs (rhs (rhs (pw * l.params.chain.level) 12 * l.params.levels.amp) 12 * gain) 15 }

/-- The tail envelope, floor counter and tail timer of a frame (R23). -/
def Lane.tailFrame (l : Lane) (lp : Int) : Lane :=
  let e := peakEnvelope 10 l.tailEnv lp
  if l.state = .tailing then
    { l with tailEnv := e
             floorCount := if e < Config.tailFloorLevel then min (l.floorCount + 1) Config.tailFloorEnd else 0
             tailTimer := l.tailTimer - 1 }
  else { l with tailEnv := e }

/-! ### Block boundaries (R24, R25) -/

/-- Whether the frame to come opens with a block boundary of the lane that has not been taken (R24). -/
def Lane.boundaryFalls (l : Lane) : Bool := l.phase == 15 && !l.boundaryTaken

/-- The gate thresholds as latched: a close threshold above the open threshold is latched equal to it (R24). -/
def Gate.latched (g : Gate) : Gate := { g with closeAt := min g.closeAt g.openAt }

/-- A shaper's parameters after the pending ones are taken in. -/
def Shaper.take (p : Shaper) (pre curve post : Option Nat) : Shaper :=
  ⟨pre.getD p.pre, curve.getD p.curve, post.getD p.post⟩

/-- A parameter set after the pending set is taken in, feedback latched at 3,891 at most (R24). -/
def Params.latch (p : Params) (n : PendingSet) : Params :=
  { chain :=
      { gate := match n.gate with
          | some g => g.latched
          | none => p.chain.gate
        drive := p.chain.drive.take n.drivePre n.driveCurve n.drivePost
        tone1 := n.tone1.getD p.chain.tone1
        tone2 := n.tone2.getD p.chain.tone2
        tone3 := n.tone3.getD p.chain.tone3
        power := p.chain.power.take n.powerPre n.powerCurve n.powerPost
        cab := n.cab.getD p.chain.cab
        delay := { p.chain.delay with
          mode := n.delayMode.getD p.chain.delay.mode
          feedback := match n.feedback with
            | some v => min v Config.feedbackMax
            | none => p.chain.delay.feedback
          dry := n.dry.getD p.chain.delay.dry
          wet := n.wet.getD p.chain.delay.wet }
        level := n.level.getD p.chain.level }
    levels := ⟨n.foh.getD p.levels.foh, n.mon.getD p.levels.mon, n.amp.getD p.levels.amp⟩ }

/-- A block boundary of a lane: the pending set is taken in and emptied (R24, R25); a boundary that latches O = 0 sets the
gate ramp to 64 (R11). -/
def Lane.latch (l : Lane) : Lane :=
  { l with
    params := l.params.latch l.pendingSet
    delayLength := (l.pendingSet.length.map Prod.fst).getD l.delayLength
    delayClamped := (l.pendingSet.length.map Prod.snd).getD l.delayClamped
    gateRamp := match l.pendingSet.gate with
      | some g => if g.openAt = 0 then Config.gateRampTop else l.gateRamp
      | none => l.gateRamp
    pendingSet := .empty }

/-! ### One frame of a lane (R8, R9) -/

/-- The chain of a lane on one trimmed sample, in the order of R9. -/
def Lane.compute (st : Stores) (dipping : Bool) (l : Lane) (x : Int) : Lane × Contribution :=
  let (l, g) := l.gateFrame x
  let d := shape st l.params.chain.drive g
  let (l, t) := l.toneFrame d
  let p := shape st l.params.chain.power t
  let (l, c) := l.cabFrame st p
  let cw := rhs (c * l.weight) 15
  let pw := rhs (p * l.weight) 15
  let r := l.delayRead
  let mixed := l.mix cw r
  let l := l.delayWrite (l.delayFeed cw r)
  let lp := rhs (mixed * l.params.chain.level) 12
  let l := l.stepOutRamp dipping
  (l.tailFrame lp, l.contribution lp pw)

/-- One frame of a lane: IDLE computes nothing and contributes 0; any other lane takes a boundary that falls, computes its
chain and counts the frame (R8, R9, R24). -/
def Lane.frame (st : Stores) (dipping : Bool) (x : Int) (l : Lane) : Lane × Contribution :=
  if l.state = .idle then (l, ⟨0, 0, 0⟩)
  else
    let l := if l.boundaryFalls then l.latch else l
    let (l, c) := l.compute st dipping x
    ({ l with phase := (l.phase + 1) % Config.blockLength, boundaryTaken := false }, c)

/-! ### Changes of lane state (R26 to R28) -/

/-- A lane becomes IDLE (R28). -/
def Lane.toIdle (l : Lane) : Lane := { l with state := .idle, pendingSet := .empty, delayClamped := false }

/-- A lane is loaded with a chain and a role, and becomes INCOMING (R27, R61, R66). -/
def Lane.load (l : Lane) (p : Params) (role : Role) (length : Nat × Bool) (meter : Nat) : Lane :=
  let open' := p.chain.gate.openAt == 0 || decide (p.chain.gate.openAt ≤ meter)
  { l with
    state := .incoming, role := role, params := p, pendingSet := .empty, phase := 0, boundaryTaken := false
    gateEnv := meter, gateState := if open' then .opened else .closed, gateRamp := if open' then Config.gateRampTop else 0
    hist1 := .zero, hist2 := .zero, hist3 := .zero, fir := List.replicate Config.firLength 0
    weight := 0, writePos := 0, fill := 0, delayLength := length.1, delayClamped := length.2
    outRamp := Config.rampTop, tailEnv := 0, floorCount := 0, tailTimer := 0 }

/-- A LIVE lane becomes OUTGOING, its pending set emptied (R61, R26). -/
def Lane.freeze (l : Lane) : Lane :=
  if l.state = .live then { l with state := .outgoing, pendingSet := .empty } else l

/-- A TAILING lane becomes CUTTING (R59, R64). -/
def Lane.cut (l : Lane) : Lane := { l with state := .cutting }

/-- An OUTGOING lane at the completion of a FADE becomes TAILING for the tail hold, or CUTTING (R63). -/
def Lane.endFade (hold : Option Nat) (l : Lane) : Lane :=
  if l.state = .outgoing then
    if 0 < hold.getD 0 then
      { l with state := .tailing, floorCount := 0, tailTimer := Config.framesPerMs * hold.getD 0 }
    else { l with state := .cutting }
  else l

/-- An INCOMING lane becomes LIVE (R63, R68). -/
def Lane.arrive (l : Lane) : Lane := if l.state = .incoming then { l with state := .live } else l

end Sys2Proof.Machine
end

