-- ==== Sys2Proof/Machine/Stores.lean ====
section
/-! DEFINITION. Model Stores (chapter 2): the in-use rule, the loading of curves, impulses and presets, the Bank Map and the
instrument profiles. Each request answers a result and the new state; a refusal leaves the state as it was. -/

namespace Sys2Proof.Machine

/-! ### The in-use rule (R36) -/

/-- Whether a chain names a curve for its drive or power stage. -/
def Chain.namesCurve (c : Chain) (i : Nat) : Bool := c.drive.curve == i || c.power.curve == i
/-- Whether a chain names an impulse. -/
def Chain.namesImpulse (c : Chain) (i : Nat) : Bool := c.cab == some i
/-- Whether any chain of a preset's content satisfies f. -/
def Preset.anyChain (p : Preset) (f : Chain → Bool) : Bool :=
  f p.chainA || match p.chainB with
    | none => false
    | some c => f c

/-- Whether a lane that is not IDLE names a curve, in its parameter set or its pending set. -/
def Lane.namesCurve (l : Lane) (i : Nat) : Bool :=
  l.state != .idle &&
    (l.params.chain.namesCurve i || l.pendingSet.driveCurve == some i || l.pendingSet.powerCurve == some i)

/-- Whether a lane that is not IDLE names an impulse, in its parameter set or its pending set. -/
def Lane.namesImpulse (l : Lane) (i : Nat) : Bool :=
  l.state != .idle && (l.params.chain.namesImpulse i || l.pendingSet.cab == some (some i))

/-- Whether a chain of the working scene or of the transition's copied preset satisfies f (R36). -/
def Engine.anyChain (e : Engine) (f : Chain → Bool) : Bool :=
  (match e.scene with
    | none => false
    | some sc => sc.preset.anyChain f) ||
  (match e.transition with
    | none => false
    | some t => t.copied.anyChain f)

/-- Whether a curve record is in use (R36). -/
def curveInUse (s : State) (i : Nat) : Bool :=
  s.lanes.a.namesCurve i || s.lanes.b.namesCurve i || s.engine.anyChain (fun c => c.namesCurve i)

/-- Whether an impulse record is in use (R36). -/
def impulseInUse (s : State) (i : Nat) : Bool :=
  s.lanes.a.namesImpulse i || s.lanes.b.namesImpulse i || s.engine.anyChain (fun c => c.namesImpulse i)

/-! ### Curves and impulses (R33, R34, R35) -/

/-- A record opened for loading: FILLING with an empty received-part set, its values left in place (R33). -/
def WaveRec.opened (r : WaveRec) : WaveRec := { r with state := .filling, parts := 0 }

/-- A record that takes part p of n values each; it becomes READY when every part of `full` has come (R34). -/
def WaveRec.takePart (r : WaveRec) (full : BitVec 16) (p n : Nat) (values : List Int) : WaveRec :=
  let parts := r.parts ||| (1#16 <<< p)
  { state := if parts = full then .ready else .filling, parts := parts, values := tablePutAll 0 r.values (p * n) values }

/-- The 3-byte values of a part, from offset off of a body. -/
def partValues (body : List Byte) (off n : Nat) : List Int := (List.range n).map (fun i => num24 body (off + 3 * i))

/-- Replace a curve record. -/
def putCurve (i : Nat) (r : WaveRec) (s : State) : State :=
  s.withStores { s.stores with curves := tablePut .initial s.stores.curves i r }
/-- Replace an impulse record. -/
def putImpulse (i : Nat) (r : WaveRec) (s : State) : State :=
  s.withStores { s.stores with impulses := tablePut .initial s.stores.impulses i r }

/-- CURVE_BEGIN (R33, R35). -/
def curveBegin (body : List Byte) (s : State) : Result × State :=
  let i := num body 0 1
  if 8 ≤ i then (.badRequest, s)
  else if curveInUse s i then (.inUse, s)
  else (.ok, putCurve i (s.stores.curve i).opened s)

/-- IMPULSE_BEGIN (R33, R35). -/
def impulseBegin (body : List Byte) (s : State) : Result × State :=
  let i := num body 0 1
  if 16 ≤ i then (.badRequest, s)
  else if impulseInUse s i then (.inUse, s)
  else (.ok, putImpulse i (s.stores.impulse i).opened s)

/-- CURVE_PUT (R34, R35, R210): part p carries the thirteen points from 13p on. -/
def curvePut (body : List Byte) (s : State) : Result × State :=
  let i := num body 0 1
  let p := num body 1 1
  if 8 ≤ i ∨ 5 ≤ p then (.badRequest, s)
  else if curveInUse s i then (.inUse, s)
  else if (s.stores.curve i).state ≠ .filling then (.badRequest, s)
  else (.ok, putCurve i ((s.stores.curve i).takePart 0x1F p 13 (partValues body 2 13)) s)

/-- IMPULSE_PUT (R34, R35, R210): part p carries the sixteen taps from 16p on. -/
def impulsePut (body : List Byte) (s : State) : Result × State :=
  let i := num body 0 1
  let p := num body 1 1
  if 16 ≤ i ∨ 16 ≤ p then (.badRequest, s)
  else if impulseInUse s i then (.inUse, s)
  else if (s.stores.impulse i).state ≠ .filling then (.badRequest, s)
  else (.ok, putImpulse i ((s.stores.impulse i).takePart 0xFFFF p 16 (partValues body 2 16)) s)

/-! ### Preset Library (R39, R40, R44, R45) -/

/-- Replace a preset record. -/
def putPreset (i : Nat) (r : PresetRec) (s : State) : State :=
  s.withStores { s.stores with presets := tablePut .empty s.stores.presets i r }

/-- A library write to the working scene's source record sets the dirty flag (R45). -/
def markDirty (i : Nat) (s : State) : State :=
  match s.engine.scene with
  | some sc => if sc.source = i then s.withEngine { s.engine with scene := some { sc with dirty := true } } else s
  | none => s

/-- PRESET_BEGIN (R39). -/
def presetBegin (body : List Byte) (s : State) : Result × State :=
  let i := num body 0 1
  match kindOf (byte1 (num body 1 1)) with
  | some k => if i < 128 then (.ok, markDirty i (putPreset i (.filling (.default k)) s)) else (.badRequest, s)
  | none => (.badRequest, s)

/-- PRESET_PUT (R40). -/
def presetPut (body : List Byte) (s : State) : Result × State :=
  let i := num body 0 1
  let code := num body 1 1
  if 128 ≤ i then (.badRequest, s)
  else
    match s.stores.preset i, groupChainOf code (byte1 (num body 2 1)), groupOf code (body.drop 3) with
    | .filling p, some c, some (g, acted) =>
      if groupFits p.kind code c g then (okOr acted, markDirty i (putPreset i (.filling (p.putGroup c g)) s))
      else (.badRequest, s)
    | _, _, _ => (.badRequest, s)

/-- PRESET_END (R44). -/
def presetEnd (body : List Byte) (s : State) : Result × State :=
  let i := num body 0 1
  if 128 ≤ i then (.badRequest, s)
  else
    match s.stores.preset i with
    | .filling p => (.ok, markDirty i (putPreset i (.valid p) s))
    | _ => (.badRequest, s)

/-- PRESET_ERASE (R44). -/
def presetErase (body : List Byte) (s : State) : Result × State :=
  let i := num body 0 1
  if 128 ≤ i then (.badRequest, s) else (.ok, markDirty i (putPreset i .empty s))

/-! ### Bank Map (R46) -/

/-- MAP_SET (R46): the entry value is a preset index, or 255 for EMPTY. -/
def mapSet (body : List Byte) (s : State) : Result × State :=
  let bank := num body 0 1
  let slot := num body 1 1
  let v := num body 2 1
  if 32 ≤ bank ∨ 4 ≤ slot ∨ (128 ≤ v ∧ v ≠ 255) then (.badRequest, s)
  else
    let entry := if v = 255 then none else some v
    (.ok, s.withStores { s.stores with bankMap := tablePut none s.stores.bankMap (4 * bank + slot) entry })

/-! ### Instrument Profiles (R48, R49) -/

/-- Write a trim as pending to the Input Front End (R6). -/
def pendTrim (v : Nat) (s : State) : State := s.withFrontEnd { s.frontEnd with pendingTrim := some v }

/-- PROFILE_PUT (R48): label (12), string count, notes, trim (2). -/
def profilePut (body : List Byte) (s : State) : Result × State :=
  let i := num body 0 1
  let n := num body 13 1
  let notes := ((body.drop 14).take n).map BitVec.toNat
  let old := s.stores.profile i
  let new : Profile := ⟨(body.drop 1).take 12, notes.map (clamp 0 127), num body (14 + n) 2⟩
  if 8 ≤ i then (.badRequest, s)
  else if n < 4 ∨ 8 < n ∨ body.length ≠ 16 + n then (.badRequest, s)
  else if i = s.stores.active ∧ s.tuner.state ≠ .off then (.busy, s)
  else
    let s' := s.withStores { s.stores with profiles := tablePut .standard s.stores.profiles i new }
    (okOr (notes.any (fun v => decide (127 < v))),
      if i = s.stores.active ∧ new.trim ≠ old.trim then pendTrim new.trim s' else s')

/-- INSTRUMENT_SELECT (R49, R134). -/
def instrumentSelect (body : List Byte) (s : State) : Result × State :=
  let i := num body 0 1
  if 8 ≤ i then (.badRequest, s)
  else if s.tuner.state ≠ .off then (.busy, s)
  else (.ok, pendTrim (s.stores.profile i).trim (s.withStores { s.stores with active := i }))

end Sys2Proof.Machine
end

