-- ==== Sys2Proof/Machine/Scene.lean ====
section
/-! DEFINITION. Scene Engine (chapter 3): the grant's checks, the start of a transition, the load step, the movement of the
weights, EDIT and STORE. What completes a transition stands in Arbiter.lean, since the completion goes on to the arbiter. -/

namespace Sys2Proof.Machine

/-! ### The load step (R60, R61, R66) -/

/-- Load one lane with a chain of a scene, at the tempo and pedal positions as they stand (R27, R60). R27 lets a load on the
frame of a meter update seed the gate from the meter before or after it: a load that a frame brings about is a step after that
frame and takes the meter after it (DESIGN CHOICE, log 27). -/
def loadLane (s : State) (sc : Scene) (c : ChainId) (role : Role) (l : Lane) : Lane :=
  l.load (sc.params c) role (deriveLength s.control.period (sc.preset.chain c).delay) s.frontEnd.meter

/-- Load the lanes of a transition from the new working scene (R61 for a FADE, R66 for a DIP). -/
def loadLanes (t : Transition) (sc : Scene) (s : State) : State :=
  match t.kind, sc.preset.kind with
  | .fade, _ =>
    match t.target with
    | some x => s.setLane x (loadLane s sc .a .single (s.lanes.get x))
    | none => s
  | .dip, .single => s.setLane .a (loadLane s sc .a .single s.lanes.a)
  | .dip, .dual => s.withLanes ⟨loadLane s sc .a .dualA s.lanes.a, loadLane s sc .b .dualB s.lanes.b⟩

/-- The working scene a transition brings (R60, step 3), with the effective values of step 5. -/
def sceneOf (t : Transition) (c : Control) : Scene :=
  { preset := t.copied, source := t.index, dirty := false, effective := t.copied.expression.map c.effective }

/-- The load step (R60): EDITS_DISCARDED and the outgoing tail hold are taken from the old scene, the LIVE lane of a FADE
is frozen, the new scene replaces the old, its TEMPO group is applied, and the lanes are loaded. -/
def loadStep (t : Transition) (s : State) : State :=
  let t' := { t with
    editsDiscarded := t.editsDiscarded || (match s.engine.scene with
      | some sc => sc.dirty
      | none => false)
    tailHold := s.engine.scene.map (fun sc => sc.preset.tailHold)
    phase := match t.kind with
      | .fade => .cross
      | .dip => .dipIn
    j := 0 }
  let s := applyPresetTempo t.copied.tempo (s.withLanes (s.lanes.map Lane.freeze))
  let sc := sceneOf t s.control
  loadLanes t' sc (s.withEngine { s.engine with scene := some sc, transition := some t' })

/-! ### Grant (R56 to R59, R65) -/

/-- Whether every curve and impulse a chain names is READY (R56, R70). -/
def Stores.chainReady (st : Stores) (c : Chain) : Bool :=
  (st.curve c.drive.curve).state == .ready && (st.curve c.power.curve).state == .ready &&
    match c.cab with
    | none => true
    | some i => (st.impulse i).state == .ready

/-- Whether every curve and impulse a preset names is READY (R56, check 2). -/
def Stores.presetReady (st : Stores) (p : Preset) : Bool := !(p.anyChain (fun c => !(st.chainReady c)))

/-- Whether the working scene is DUAL. -/
def Engine.dual (e : Engine) : Bool :=
  match e.scene with
  | some sc => sc.preset.kind == .dual
  | none => false

/-- Whether a grant of an index is answered SAME (R57). -/
def Engine.same (e : Engine) (i : Nat) : Bool :=
  match e.scene with
  | some sc => sc.source == i && !sc.dirty
  | none => false

/-- The target lane of a FADE: the lane that is not LIVE, lane A when neither is (R58). -/
def fadeTarget (lanes : PerLane Lane) : LaneId := if lanes.a.state = .live then .b else .a

/-- Whether DIP_OUT is over: every lane is IDLE or has output ramp 0 (R65). -/
def dipOutOver (lanes : PerLane Lane) : Bool :=
  (lanes.a.state == .idle || lanes.a.outRamp == 0) && (lanes.b.state == .idle || lanes.b.outRamp == 0)

/-- The end of DIP_OUT: every lane becomes IDLE and the load step is taken (R66). -/
def dipOutEnd (t : Transition) (s : State) : State := loadStep t (s.withLanes (s.lanes.map Lane.toIdle))

/-- Entry to DIP_OUT (R65): TAIL_CUT if a lane is TAILING; with both lanes IDLE or silent it ends at once. -/
def enterDipOut (t : Transition) (s : State) : State :=
  let t := { t with tailCut := t.tailCut || s.lanes.a.state == .tailing || s.lanes.b.state == .tailing }
  if dipOutOver s.lanes then dipOutEnd t s else s.withEngine { s.engine with transition := some t }

/-- Entry to PREPARE (R59): an IDLE target is loaded at once, a TAILING one is cut with TAIL_CUT set, a CUTTING one is left
to its cut. -/
def enterPrepare (t : Transition) (x : LaneId) (s : State) : State :=
  match (s.lanes.get x).state with
  | .idle => loadStep t s
  | .tailing =>
    (s.setLane x (s.lanes.get x).cut).withEngine { s.engine with transition := some { t with tailCut := true } }
  | _ => s.withEngine { s.engine with transition := some t }

/-- A transition begins (R58): the record is made, SCENE is raised, and the first step of its phase is taken. -/
def beginTransition (origin : Link) (i : Nat) (p : Preset) (s : State) : State :=
  let dip := s.engine.dual || p.kind == .dual
  let x := fadeTarget s.lanes
  let t : Transition :=
    { origin := origin, index := i, copied := p, kind := if dip then .dip else .fade
      phase := if dip then .dipOut else .prepare, fade := p.fade, j := 0, target := if dip then none else some x
      tailHold := none, tailCut := false, editsDiscarded := false }
  let s := raiseNotice .scene s
  if dip then enterDipOut t s else enterPrepare t x s

/-- The engine's answer to a grant (R56, R57, R58): a result at once, or none when a transition begins. -/
def engineGrant (origin : Link) (i : Nat) (s : State) : Option Result × State :=
  match s.stores.preset i with
  | .valid p =>
    if !s.stores.presetReady p then (some .loadFail, writeFault ⟨.loadFail, some origin, none, some i⟩ s)
    else if s.engine.same i then (some .same, s)
    else (none, beginTransition origin i p s)
  | _ => (some .noPreset, writeFault ⟨.noPreset, some origin, none, some i⟩ s)

/-! ### Frames of a transition (R62, R67) -/

/-- The incoming weight at ramp position j of F (R62, R67). -/
def crossWeight (j f : Nat) : Nat := Config.weightUnity * j / f

/-- Write the weights of CROSS or DIP_IN to a lane. -/
def Lane.writeWeight (w : Nat) (l : Lane) : Lane :=
  match l.state with
  | .incoming => { l with weight := w }
  | .outgoing => { l with weight := Config.weightUnity - w }
  | _ => l

/-- Whether the lanes that are LIVE or TAILING are being dipped out (R65). -/
def Engine.dipping (e : Engine) : Bool :=
  match e.transition with
  | some t => t.phase == .dipOut
  | none => false

/-- After the lanes have computed a frame: in CROSS and DIP_IN j rises by one and the weights are written (R62, R67). -/
def engineFrame (s : State) : State :=
  match s.engine.transition with
  | some t =>
    if (t.phase = .cross ∨ t.phase = .dipIn) ∧ t.j < t.fade then
      (s.withLanes (s.lanes.map (Lane.writeWeight (crossWeight (t.j + 1) t.fade)))).withEngine
        { s.engine with transition := some { t with j := t.j + 1 } }
    else s
  | none => s

/-! ### Ends of tails and cuts (R64, R59) -/

/-- A lane becomes IDLE; a PREPARE that waits for it takes the load step in the same handling (R59, R64). -/
def laneIdle (x : LaneId) (s : State) : State :=
  let s := s.setLane x (s.lanes.get x).toIdle
  match s.engine.transition with
  | some t => if t.phase = .prepare ∧ t.target = some x then loadStep t s else s
  | none => s

/-! ### EDIT (R70, R71) -/

/-- Write a target's base value toward a lane unless an assignment of the scene names it on the lane's chain (R71, R100). -/
def pendBase (xs : List Assign) (c : ChainId) (t : Target) (v : Nat) (p : PendingSet) : PendingSet :=
  if namesTarget xs c t then p else p.setTarget t v

/-- What an accepted EDIT of a group on chain `named` writes toward the pending set of a lane that carries chain c (R71). -/
def editWrite (period : Nat) (xs : List Assign) (named : ChainId) (g : Group) (c : ChainId) (p : PendingSet) : PendingSet :=
  match g with
  | .levels v => pendBase xs c .fohLevel v.foh (pendBase xs c .monLevel v.mon (pendBase xs c .ampLevel v.amp p))
  | .header _ _ _ _ => p
  | .expression _ => p
  | .tempo _ => p
  | .gate v => if c = named then { p with gate := some v } else p
  | .drive v =>
    if c = named then
      pendBase xs c .drivePre v.pre (pendBase xs c .drivePost v.post { p with driveCurve := some v.curve })
    else p
  | .tone1 v => if c = named then { p with tone1 := some v } else p
  | .tone2 v => if c = named then { p with tone2 := some v } else p
  | .tone3 v => if c = named then { p with tone3 := some v } else p
  | .power v =>
    if c = named then
      pendBase xs c .powerPre v.pre (pendBase xs c .powerPost v.post { p with powerCurve := some v.curve })
    else p
  | .cab v => if c = named then { p with cab := some v } else p
  | .delay v =>
    if c = named then
      pendBase xs c .delayWet v.wet (pendBase xs c .delayFeedback v.feedback
        { p with delayMode := some v.mode, dry := some v.dry, length := some (deriveLength period v) })
    else p
  | .lane v => if c = named then pendBase xs c .laneLevel v p else p

/-- Whether the curve or impulse a group names is READY (R70, check 4). -/
def Stores.groupReady (st : Stores) : Group → Bool
  | .drive v => (st.curve v.curve).state == .ready
  | .power v => (st.curve v.curve).state == .ready
  | .cab (some i) => (st.impulse i).state == .ready
  | _ => true

/-- An accepted EDIT: the group of the working scene is replaced, dirty is set, and the change is passed on (R71). -/
def carryEdit (sc : Scene) (c : ChainId) (g : Group) (s : State) : State :=
  let new : Scene := { sc with preset := sc.preset.putGroup c g, dirty := true }
  match g with
  | .expression _ => expressionChange sc.preset.expression new s
  | _ => pendLanes (editWrite s.control.period sc.preset.expression c g) (setScene new s)

/-- EDIT (R70): group; chain; content. -/
def edit (body : List Byte) (s : State) : Result × State :=
  let code := num body 0 1
  match groupChainOf code (byte1 (num body 1 1)), groupOf code (body.drop 2) with
  | some c, some (g, acted) =>
    match s.engine.scene with
    | none => (.noScene, s)
    | some sc =>
      if !groupFits sc.preset.kind code c g then (.badRequest, s)
      else if !s.stores.groupReady g then (.notReady, s)
      else (okOr acted, carryEdit sc c g s)
  | _, _ => (.badRequest, s)

/-! ### STORE (R73) -/

/-- STORE (R73): preset index. R73 gives both refusals and no order: an index out of range is refused first, before the
absence of a working scene (DESIGN CHOICE, log 29). -/
def store (body : List Byte) (s : State) : Result × State :=
  let i := num body 0 1
  if 128 ≤ i then (.badRequest, s)
  else
    match s.engine.scene with
    | none => (.noScene, s)
    | some sc => (.ok, setScene { sc with source := i, dirty := false } (putPreset i (.valid sc.preset) s))

end Sys2Proof.Machine
end

