-- ==== Sys2Proof/Machine/Tuner.lean ====
section
/-! DEFINITION. Tuner (chapter 6): engagement, decimation, crossings, periods and groups, readings, and the tuner mute it
hands to the Output Mixer. Logarithms are decided exactly, by comparing powers of whole numbers. -/

namespace Sys2Proof.Machine

/-! ### Engagement and tuner mute (R114 to R117, R132, R149) -/

/-- Whether the tuner is engaged (R114). -/
def Tuner.engaged (t : Tuner) : Bool := t.state != .off

/-- Whether tuner mute is active (R132). -/
def Tuner.muteActive (t : Tuner) : Bool := t.engaged && t.muteFlag

/-- The tuner with its detection state started afresh and no reading (R115). -/
def Tuner.fresh (t : Tuner) : Tuner :=
  { t with sum := 0, count := 0, index := 0, prevSample := none, polarity := .low, prevCrossing := none, group := [],
           stale := 0, current := none }

/-- The Tuner hands the mixer its tuner mute request and set; MUTE is raised when the request changes (R132, R149). -/
def handTunerMute (s : State) : State :=
  let s' := s.withMixer { s.mixer with tunerMute := s.tuner.muteActive, tunerSet := s.tuner.muteSet }
  if s.tuner.muteActive = s.mixer.tunerMute then s' else raiseNotice .mute s'

/-- TUNER_ENGAGE (R115): mode; mute flag. -/
def tunerEngage (body : List Byte) (s : State) : Result × State :=
  match tunerModeOf (byte1 (num body 0 1)), flagOf (byte1 (num body 1 1)) with
  | some mode, some mute =>
    let t := if s.tuner.engaged then s.tuner else { s.tuner.fresh with state := .listening }
    (.ok, handTunerMute (raiseNotice .tuner (s.withTuner { t with mode := mode, muteFlag := mute })))
  | _, _ => (.badRequest, s)

/-- An engaged tuner goes OFF: detection state and reading discarded, tuner mute inactive, TUNER raised; a tuner that is
OFF is left as it is (R116, R117). -/
def tunerOff (s : State) : State :=
  if s.tuner.engaged then handTunerMute (raiseNotice .tuner (s.withTuner { s.tuner.fresh with state := .off })) else s

/-- TUNER_RELEASE (R116). -/
def tunerRelease (s : State) : Result × State := (.ok, tunerOff s)

/-! ### Readings (R126 to R131) -/

/-- The frequency f of a reading from S is 12,288,000 / S Hz, so f·100 / ref is this numerator over S·ref (R126). -/
def pitchNumerator : Nat := 1228800000

/-- 2 to the power e, e of either sign, is at most a / b. -/
def powLe (e : Int) (a b : Nat) : Bool := decide (b * 2 ^ e.toNat ≤ a * 2 ^ (-e).toNat)

/-- The floor of n·log2(a / b), a and b positive, n at most 32,767: a search by halves in the 2·n values from n·(log2 a −
log2 b − 1), both logarithms floored, on. -/
def floorLog2 (n a b : Nat) : Int :=
  (List.range 16).foldr (fun i k => if powLe (k + 2 ^ i) (a ^ n) (b ^ n) then k + 2 ^ i else k)
    ((n : Int) * (a.log2 - b.log2 - 1))

/-- The reported centihertz (R126). -/
def centihertz (sum : Nat) : Nat := (2457600000 + sum) / (2 * sum)

/-- The whole number nearest to 12,000·log2(f·100 / ref): the position of f relative to note 69 in tenths of a cent
(R129). No value lies halfway: (a / b) to the power 24,000 is no odd power of 2. -/
def pitchTenths (ref sum : Nat) : Int :=
  (floorLog2 24000 pitchNumerator (sum * ref) + 1) / 2

/-- The FREE target: floor(x + 1/2) with x = 69 + 12·log2(f·100 / ref) (R127). -/
def freeNote (ref sum : Nat) : Int :=
  69 + (floorLog2 24 pitchNumerator (sum * ref) + 1) / 2

/-- Whether f lies strictly nearer to note m than to note n: with L = 12·log2(f·100 / ref), |L − (m − 69)| < |L − (n − 69)|
(R128). For m below n that is 2L below the sum of the two, for m above n it is 2L above it. -/
def strictlyNearer (ref sum : Nat) (m n : Nat) : Bool :=
  let both : Int := (m : Int) + n - 138
  let a := pitchNumerator ^ 24
  let b := (sum * ref) ^ 24
  if m < n then !powLe both a b
  else if n < m then decide (b * 2 ^ both.toNat < a * 2 ^ (-both).toNat)
  else false

/-- The STRING target: the string, numbered from 1, whose note is nearest; the lowest number among equals (R128). `best` is
the string chosen so far and its note, `next` the number of the first note of the list that remains. -/
def nearestString (ref sum : Nat) : Nat × Nat → Nat → List Nat → Nat × Nat
  | best, _, [] => best
  | best, next, n :: rest =>
    nearestString ref sum (if strictlyNearer ref sum n best.2 then (next, n) else best) (next + 1) rest

/-- The deviation from note n, clamped to −9,999..+9,999 (R129): 12,000·log2(f / f_n) is the position of f less
1,000·(n − 69). -/
def deviation (ref sum : Nat) (n : Int) : Int :=
  max (-9999) (min 9999 (pitchTenths ref sum - 1000 * (n - 69)))

/-- The band of a deviation (R130). -/
def bandOf (wIn wNear : Nat) (dev : Int) : Band :=
  if dev < -(wNear : Int) then .flat
  else if dev < -(wIn : Int) then .nearFlat
  else if dev ≤ (wIn : Int) then .inTune
  else if dev ≤ (wNear : Int) then .nearSharp
  else .sharp

/-- The reading made from S (R131). -/
def readingOf (t : Tuner) (notes : List Nat) (sum : Nat) : Reading :=
  let target : Int × Option Nat :=
    match t.mode, notes with
    | .string, n :: rest =>
      let best := nearestString t.reference sum (1, n) 2 rest
      ((best.2 : Int), some best.1)
    | _, _ => (freeNote t.reference sum, none)
  let dev := deviation t.reference sum target.1
  { mode := t.mode, centihertz := centihertz sum, note := target.1.toNat, string := target.2, deviation := dev
    band := bandOf t.wIn t.wNear dev }

/-! ### Decimation, crossings, periods (R119 to R125) -/

/-- The decimator takes the trimmed sample of a frame while the tuner is engaged (R119). When the count has come to 8 the
decimated sample is due, and is handled as a step of its own (log 4). -/
def Tuner.takeSample (t : Tuner) (x : Int) : Tuner :=
  if t.engaged then { t with sum := t.sum + x, count := t.count + 1 } else t

/-- The crossing time of a rising crossing (R121). -/
def crossingTime (m : Nat) (h : Int) (prev d : Int) : BitVec 32 :=
  BitVec.ofInt 32 (((m + 16777215) % 16777216 : Nat) * 256 + ((h - prev) * 256) / (d - prev))

/-- The polarity after a decimated sample (R120). -/
def nextPolarity (p : Polarity) (h d : Int) : Polarity :=
  match p with
  | .high => if d < -h then .low else .high
  | .low => if h < d then .high else .low

/-- The period group after a period, and the sum of a completed group (R124, R125). -/
def addPeriod (group : List Nat) (p : Nat) : List Nat × Option Nat :=
  if p < 1024 ∨ 61440 < p then ([], none)
  else
    match group.getLast? with
    | none => ([p], none)
    | some q =>
      if q / 8 < (max p q) - (min p q) then ([], none)
      else if group.length = 7 then ([], some (group.sum + p))
      else (group ++ [p], none)

/-- What the detector does with a decimated sample when presence is true: the crossing time, if one is taken, the group
after it, and the sum of a completed group (R120, R121, R123). -/
def Tuner.detect (t : Tuner) (d : Int) : Option (BitVec 32) × List Nat × Option Nat :=
  match t.polarity, nextPolarity t.polarity t.hysteresis d, t.prevSample with
  | .low, .high, some prev =>
    let now := crossingTime t.index t.hysteresis prev d
    match t.prevCrossing with
    | none => (some now, [], none)
    | some before =>
      let next := addPeriod t.group (now - before).toNat
      (some now, next.1, next.2)
  | _, _, _ => (t.prevCrossing, t.group, none)

/-- The decimated sample that the eight samples of the sum make: the sum shifted right by 3 (R119). -/
def Tuner.decimated (t : Tuner) : Int := t.sum / 8

/-- The tuner after it has handled a decimated sample whole (R119, R122), and the sum of a completed group. -/
def Tuner.handle (t : Tuner) (presence : Bool) : Tuner × Option Nat :=
  let d := t.decimated
  let found := if presence then t.detect d else (none, [], none)
  let stale := if found.2.2.isNone && t.state == .reading then min (t.stale + 1) Config.staleEnd else t.stale
  ({ t with sum := 0, count := 0, index := (t.index + 1) % 16777216, prevSample := some d,
            polarity := nextPolarity t.polarity t.hysteresis d, prevCrossing := found.1, group := found.2.1, stale := stale },
    found.2.2)

/-- The decimated sample's whole handling: detector, periods, and a reading when a group is complete (R119 to R131). -/
def decimatedSample (s : State) : State :=
  let (t, group) := s.tuner.handle s.frontEnd.presence
  match group with
  | none => s.withTuner t
  | some sum =>
    raiseNotice .tuner
      (s.withTuner { t with current := some (readingOf t s.stores.activeProfile.notes sum), state := .reading, stale := 0 })

/-- The stale count's end: back to LISTENING with no reading, TUNER raised (R118). -/
def tunerStale (s : State) : State :=
  raiseNotice .tuner (s.withTuner { s.tuner with state := .listening, current := none, stale := 0 })

end Sys2Proof.Machine
end

