-- ==== Sys2Proof/Machine/Arbiter.lean ====
section
/-! DEFINITION. Recall Arbiter (chapter 4): windows, pending slots, rank and grant, the completion of a transition, tenure. -/

namespace Sys2Proof.Machine

/-! ### Windows (R78) -/

/-- WINDOW_SET (R78): link; base bank; size. -/
def windowSet (body : List Byte) (s : State) : Result × State :=
  let base := num body 1 1
  let size := num body 2 1
  match linkOf (byte1 (num body 0 1)) with
  | none => (.badRequest, s)
  | some l =>
    if ¬ (size ∈ [1, 2, 4, 8, 16, 32]) then (.badRequest, s)
    else if 32 ≤ base ∨ base % size ≠ 0 then (.badRequest, s)
    else (.ok, s.withArbiter { s.arbiter with windows := s.arbiter.windows.set l ⟨base, size⟩ })

/-! ### Bars, rank and grant (R84, R85, R89) -/

/-- Whether the running tenure bars a link: its owner ranks higher (R89). -/
def Arbiter.barred (a : Arbiter) (l : Link) : Bool :=
  match a.tenure with
  | some t => decide (linkRank t.owner < linkRank l)
  | none => false

/-- Whether a link's slot is occupied and no tenure bars it. -/
def Arbiter.grantable (a : Arbiter) (l : Link) : Bool := (a.slots.get l).isSome && !a.barred l

/-- The occupied, unbarred slot of the highest rank (R84). -/
def Arbiter.choice (a : Arbiter) : Option Link :=
  if a.grantable .player then some .player
  else if a.grantable .showControl then some .showControl
  else if a.grantable .crew then some .crew
  else none

/-- Grant the recall that waits in a link's slot (R85, R92): the slot is emptied, a PLAYER grant disengages the tuner, and
the engine answers. A result at once is the recall's response; a transition makes the grant record. -/
def grantRecall (l : Link) (w : Waiting) (s : State) : State :=
  let s := s.withArbiter { s.arbiter with slots := s.arbiter.slots.set l none }
  let s := if l = .player then tunerOff s else s
  let (result, s) := engineGrant l w.index s
  match result with
  | some r => respond l (recallType w.place.isNone) w.tag r s
  | none => s.withArbiter { s.arbiter with grant := some ⟨l, w.tag, w.place.isNone, true⟩ }

/-- The arbiter looks for a grant (R84), and again after each grant that ends at once (R85); each grant empties a slot, so
three looks are enough. -/
def look : Nat → State → State
  | 0, s => s
  | n + 1, s =>
    if s.engine.transition.isSome then s
    else
      match s.arbiter.choice with
      | none => s
      | some l =>
        match s.arbiter.slots.get l with
        | none => s
        | some w => look n (grantRecall l w s)

/-- A look at the three slots. -/
def arbiterLook (s : State) : State := look 3 s

/-! ### Taking a recall (R79 to R83) -/

/-- Whether a link's recall cannot be granted at once (R83). -/
def cannotGrantNow (l : Link) (s : State) : Bool :=
  s.engine.transition.isSome || s.arbiter.barred l ||
    [Link.player, .crew, .showControl].any (fun h => decide (linkRank h < linkRank l) && (s.arbiter.slots.get h).isSome)

/-- A recall that has passed its checks enters its link's slot, a recall waiting there is answered SUPERSEDED, and the
arbiter looks for a grant (R82, R84). -/
def enterSlot (l : Link) (w : Waiting) (s : State) : State :=
  let s' := match s.arbiter.slots.get l with
    | some old => respond l (recallType old.place.isNone) old.tag .superseded s
    | none => s
  arbiterLook (s'.withArbiter { s'.arbiter with slots := s'.arbiter.slots.set l (some w) })

/-- What the arrival checks of a RECALL find (R79): the preset index, or the refusal and the fault it writes. -/
def recallCheck (l : Link) (pos slot : Nat) (s : State) : Except (Result × Option FaultRec) Nat :=
  let win := s.arbiter.windows.get l
  if win.size ≤ pos then .error (.outOfWindow, some ⟨.outOfWindow, some l, some (pos, slot), none⟩)
  else if 4 ≤ slot then .error (.badRequest, none)
  else
    match s.stores.mapEntry (win.base + pos) slot with
    | none => .error (.emptySlot, some ⟨.emptySlot, some l, some (win.base + pos, slot), none⟩)
    | some i =>
      match s.stores.preset i with
      | .valid _ => .ok i
      | _ => .error (.noPreset, some ⟨.noPreset, some l, none, some i⟩)

/-- A refusal on arrival: the fault, if it writes one, and the response (R79). -/
def refuseRecall (l : Link) (byIndex : Bool) (tag : Byte) (r : Result) (f : Option FaultRec) (s : State) : State :=
  respond l (recallType byIndex) tag r (match f with
    | some rec => writeFault rec s
    | none => s)

/-- RECALL, its slot reserved (R79, R82, R83): bank position; slot; flags, bit 0 IMMEDIATE. -/
def takeRecall (l : Link) (tag : Byte) (body : List Byte) (s : State) : State :=
  let pos := num body 0 1
  let slot := num body 1 1
  let immediate := (num body 2 1).testBit 0
  match recallCheck l pos slot s with
  | .error (r, f) => refuseRecall l false tag r f s
  | .ok i =>
    if immediate && cannotGrantNow l s then respond l .recall tag .heldOff s
    else enterSlot l ⟨i, some (pos, slot), tag⟩ s

/-- RECALL_INDEX, its slot reserved (R80): preset index. -/
def takeRecallIndex (l : Link) (tag : Byte) (body : List Byte) (s : State) : State :=
  let i := num body 0 1
  if 128 ≤ i then refuseRecall l true tag .badRequest none s
  else
    match s.stores.preset i with
    | .valid _ => enterSlot l ⟨i, none, tag⟩ s
    | _ => refuseRecall l true tag .noPreset (some ⟨.noPreset, some l, none, some i⟩) s

/-! ### Completion (R63, R68, R69, R86, R89) -/

/-- The tenure that stands after a completion from a link (R86, step 2; R88, R89). -/
def Arbiter.tenureAfter (a : Arbiter) (l : Link) : Option Tenure :=
  if a.tenureSetting.get l = 0 then a.tenure else some ⟨l, 8 * a.tenureSetting.get l⟩

/-- The arbiter takes a completion from an origin link (R86). -/
def arbiterCompletion (origin : Link) (s : State) : State :=
  let s := match s.arbiter.grant with
    | some g => if g.owed then respond g.origin (recallType g.byIndex) g.tag .done s else s
    | none => s
  arbiterLook (s.withArbiter { s.arbiter with tenure := s.arbiter.tenureAfter origin, grant := none })

/-- The completion actions of a transition (R69): the record becomes the last report, the engine goes READY, SCENE is
raised, and the arbiter takes the completion. -/
def completeTransition (t : Transition) (s : State) : State :=
  arbiterCompletion t.origin (raiseNotice .scene
    (s.withEngine { s.engine with transition := none, report := some ⟨t.origin, t.kind, t.tailCut, t.editsDiscarded⟩ }))

/-- A FADE completes (R63). -/
def fadeComplete (t : Transition) (s : State) : State :=
  completeTransition t (s.withLanes (s.lanes.map (fun l => (l.endFade t.tailHold).arrive)))

/-- A DIP completes (R68). -/
def dipComplete (t : Transition) (s : State) : State :=
  completeTransition t (s.withLanes (s.lanes.map Lane.arrive))

/-- A tenure expires (R88): it ends and the arbiter looks. -/
def tenureExpiry (s : State) : State := arbiterLook (s.withArbiter { s.arbiter with tenure := none })

/-- A drop of a link reaches the arbiter (R93): the link's slot is emptied and the response-owed flag of a grant it
originated is cleared. -/
def Arbiter.drop (a : Arbiter) (l : Link) : Arbiter :=
  { a with slots := a.slots.set l none
           grant := a.grant.map (fun g => if g.origin = l then { g with owed := false } else g) }

end Sys2Proof.Machine
end

