-- ==== Sys2Proof/Machine/Protection.lean ====
section
/-! DEFINITION. Bus Protection (chapter 8): envelopes, DC windows, conditions, counts and flags, the MON attenuation request,
ACK and FORCE. -/

namespace Sys2Proof.Machine

/-- The buses, in the order FOH L, FOH R, MON, AMP. -/
def buses : List Bus := [.fohL, .fohR, .mon, .amp]
/-- The classes, in the order OVER, DC, LOSS. -/
def protClasses : List ProtClass := [.overLevel, .dc, .loss]

/-- The pair of a bus and a class. -/
def Protection.pair (p : Protection) (b : Bus) (c : ProtClass) : Pair := (p.pairs.get b).get c
/-- Replace the pair of a bus and a class. -/
def Protection.setPair (p : Protection) (b : Bus) (c : ProtClass) (x : Pair) : Protection :=
  { p with pairs := p.pairs.set b ((p.pairs.get b).set c x) }

/-- The count at which a class's timer latches (R160). -/
def Protection.limit (p : Protection) (c : ProtClass) : Nat := Config.framesPerMs * p.timers.get c

/-- One frame of a pair whose condition has been judged, its class's timer being t milliseconds (R160, R161). With a timer
above 0, a count that comes to t·48 with the flag clear makes the latch due; with a timer of 0 the flag follows. -/
def Pair.step (x : Pair) (t : Nat) (cond : Bool) : Pair :=
  if t = 0 then { cond := cond, count := 0, flag := cond, latchDue := false }
  else
    let limit := Config.framesPerMs * t
    let count := if cond then (if x.count < limit then x.count + 1 else limit) else 0
    { cond := cond, count := count, flag := x.flag, latchDue := cond && count == limit && !x.flag }

/-- Whether a pair's step raises GUARD: a following flag changed (R161). -/
def Pair.stepRaises (x : Pair) (t : Nat) (cond : Bool) : Bool := t == 0 && x.flag != cond

/-- The pairs of the classes chosen by f, moved one frame by their conditions. -/
def Protection.stepPairs (p : Protection) (f : ProtClass → Bool) (cond : Bus → ProtClass → Bool) : Protection :=
  let one (b : Bus) (c : ProtClass) : Pair := if f c then (p.pair b c).step (p.timers.get c) (cond b c) else p.pair b c
  { p with pairs := PerBus.build (fun b => ⟨one b .overLevel, one b .dc, one b .loss⟩) }

/-- Whether any of those moves raises GUARD. -/
def Protection.stepRaises (p : Protection) (f : ProtClass → Bool) (cond : Bus → ProtClass → Bool) : Bool :=
  buses.any (fun b => protClasses.any (fun c => f c && (p.pair b c).stepRaises (p.timers.get c) (cond b c)))

/-- The MON attenuation request the flags call for (R162). -/
def Protection.wanted (p : Protection) : Bool := (p.pair .mon .overLevel).flag || p.forced.overLevel

/-- The MON attenuation request is formed again and handed to the mixer (R162). -/
def formRequest (s : State) : State :=
  (s.withProtection { s.protection with request := s.protection.wanted }).withMixer
    { s.mixer with monRequest := s.protection.wanted }

/-- Whether LOSS holds on a bus (R159). -/
def lossHolds (presence sceneExists muted : Bool) (env floor : Nat) : Bool :=
  presence && sceneExists && !muted && decide (env < floor)

/-- Whether DC holds for a mean (R158). -/
def dcHolds (mean : Int) (threshold : Nat) : Bool := decide (threshold ≤ mean.natAbs)

/-- The pairs' moves, with GUARD when a following flag changed and the request formed again (steps 4 and 5 of R156). -/
def movePairs (f : ProtClass → Bool) (cond : Bus → ProtClass → Bool) (s : State) : State :=
  let s' := s.withProtection (s.protection.stepPairs f cond)
  formRequest (if s.protection.stepRaises f cond then raiseNotice .guard s' else s')

/-- The conditions of a frame: OVER and LOSS as judged from the envelopes just updated, DC as it stands (R157 to R159). -/
def Protection.conditions (p : Protection) (presence sceneExists : Bool) (muted : Bus → Bool) (b : Bus) :
    ProtClass → Bool
  | .overLevel => decide (p.overThreshold ≤ p.env.get b)
  | .dc => (p.pair b .dc).cond
  | .loss => lossHolds presence sceneExists (muted b) (p.env.get b) p.lossFloor

/-- One frame of Bus Protection (R156). On a frame that ends a window the DC pairs move with the window's end, which is a
step of its own (R158, log 4); the pairs are independent of one another. -/
def protectionFrame (finished : PerBus Int) (s : State) : State :=
  let p := s.protection
  let p := { p with env := PerBus.build (fun b => peakEnvelope 10 (p.env.get b) (finished.get b))
                    sum := PerBus.build (fun b => p.sum.get b + finished.get b)
                    phase := p.phase + 1 }
  let endsWindow := decide (Config.dcWindow ≤ p.phase)
  movePairs (fun c => c != .dc || !endsWindow)
    (p.conditions s.frontEnd.presence s.engine.scene.isSome s.mixer.muted) (s.withProtection p)

/-- Whether the frame judged last is still being handled: its window's end or a latch is due (log 4). -/
def Protection.judging (p : Protection) : Bool :=
  decide (Config.dcWindow ≤ p.phase) || buses.any (fun b => protClasses.any (fun c => (p.pair b c).latchDue))

/-- A window's end (R158): the DC means and DC conditions of all buses are formed and the DC pairs move. -/
def dcWindowEnd (s : State) : State :=
  let p := s.protection
  let mean := p.sum.map (fun v => v / 4096)
  movePairs (fun c => c == .dc) (fun b _ => dcHolds (mean.get b) p.dcThreshold)
    (s.withProtection { p with mean := mean, sum := ⟨0, 0, 0, 0⟩, phase := 0 })

/-- A flag latches (R160): GUARD is raised and the request formed again. -/
def flagLatch (b : Bus) (c : ProtClass) (s : State) : State :=
  formRequest (raiseNotice .guard
    (s.withProtection (s.protection.setPair b c { s.protection.pair b c with flag := true, latchDue := false })))

/-- ACK (R164): bus; class. -/
def ack (body : List Byte) (s : State) : Result × State :=
  match busOf (byte1 (num body 0 1)), protClassOf (byte1 (num body 1 1)) with
  | some b, some c =>
    (.ok, raiseNotice .guard (formRequest
      (s.withProtection (s.protection.setPair b c { s.protection.pair b c with flag := false, count := 0, latchDue := false }))))
  | _, _ => (.badRequest, s)

/-- FORCE (R166): class; on flag. -/
def force (body : List Byte) (s : State) : Result × State :=
  match protClassOf (byte1 (num body 0 1)), flagOf (byte1 (num body 1 1)) with
  | some c, some on =>
    (.ok, raiseNotice .guard (formRequest
      (s.withProtection { s.protection with forced := s.protection.forced.set c on })))
  | _, _ => (.badRequest, s)

/-- A new timer setting of a class (R168): a change to 0 sets the class's counts to 0; the flags move from the next frame. -/
def setTimer (c : ProtClass) (v : Nat) (s : State) : State :=
  let p := { s.protection with timers := s.protection.timers.set c v }
  let clear (q : Protection) (b : Bus) : Protection := q.setPair b c { q.pair b c with count := 0, latchDue := false }
  formRequest (s.withProtection (if v = 0 then buses.foldl clear p else p))

end Sys2Proof.Machine
end

