-- ==== Sys2Proof/Machine/Notices.lean ====
section
/-! DEFINITION. The content of each notice (R184, R211), and what a link's transmitter chooses to send (R182). -/

namespace Sys2Proof.Machine

/-- Four bits, one for each bus, from bit n on. -/
def busBits (p : PerBus Bool) (n : Nat) : Nat := bit p.fohL n + bit p.fohR (n + 1) + bit p.mon (n + 2) + bit p.amp (n + 3)

/-- Two bytes laid out as the first two of the GUARD body, from a bit of each pair: OVER in bits 0..3 and DC in bits 4..7,
then LOSS in bits 0..3 (R211). -/
def pairBytes (p : Protection) (f : Pair → Bool) : List Byte :=
  [byte1 (busBits (p.pairs.map (fun x => f x.overLevel)) 0 + busBits (p.pairs.map (fun x => f x.dc)) 4),
   byte1 (busBits (p.pairs.map (fun x => f x.loss)) 0)]

/-- The body of GUARD (R169, R211). -/
def guardBody (p : Protection) : List Byte :=
  pairBytes p (fun x => x.flag) ++ [byte1 (bit p.forced.overLevel 0 + bit p.forced.dc 1 + bit p.forced.loss 2)]

/-- The code of a fault class (R211). -/
def FaultClass.code : FaultClass → Byte
  | .outOfWindow => 0
  | .emptySlot => 1
  | .noPreset => 2
  | .badFrame => 3
  | .badCheck => 4
  | .overrun => 5
  | .loadFail => 6
  | .powerOn => 7
  | .softReset => 8

/-- The body of FAULT, and the capture's answer to QUERY (R172, R184, R211): 0 in every byte for an empty capture. -/
def faultBody (c : Option FaultRec) : List Byte :=
  match c with
  | none => [0, 0, 0, 0, 0, 0, 0, 0]
  | some r =>
    [1, r.cls.code, flagByte r.cls.major, byte1 (bit r.link.isSome 0 + bit r.place.isSome 1 + bit r.preset.isSome 2),
     byte1 ((r.link.map linkNumber).getD 0), byte1 ((r.place.map Prod.fst).getD 0), byte1 ((r.place.map Prod.snd).getD 0),
     byte1 (r.preset.getD 0)]

/-- The code of a transition kind (R211). -/
def TransKind.code : TransKind → Nat
  | .fade => 0
  | .dip => 1

/-- Origin, kind, TAIL_CUT and EDITS_DISCARDED of the transition in flight, or of the last transition report (R74). -/
def Engine.shown (e : Engine) : Option Report :=
  match e.transition with
  | some t => some ⟨t.origin, t.kind, t.tailCut, t.editsDiscarded⟩
  | none => e.report

/-- The body of SCENE (R74, R211). -/
def sceneBody (e : Engine) : List Byte :=
  [indexByte (e.scene.map (fun sc => sc.source)), flagByte (e.scene.any (fun sc => sc.dirty)),
   indexByte (e.shown.map (fun r => r.kind.code)), flagByte e.transition.isSome,
   indexByte (e.shown.map (fun r => linkNumber r.origin)),
   byte1 (bit (e.shown.any (fun r => r.tailCut)) 0 + bit (e.shown.any (fun r => r.editsDiscarded)) 1)]

/-- The body of MUTE (R152, R211). -/
def muteBody (m : Mixer) : List Byte :=
  [byte1 m.mask.number, flagByte m.tunerMute,
   byte1 (BusMask.mk (m.heldSilent .fohL) (m.heldSilent .mon) (m.heldSilent .amp)).number, flagByte m.timer.isSome,
   flagByte m.expired]

/-- The code of a tuner state (R211). -/
def TunerState.code : TunerState → Byte
  | .off => 0
  | .listening => 1
  | .reading => 2

/-- The code of a band (R211). -/
def Band.code : Band → Byte
  | .inTune => 0
  | .nearFlat => 1
  | .nearSharp => 2
  | .flat => 3
  | .sharp => 4

/-- The body of TUNER (R136, R211). -/
def tunerBody (t : Tuner) : List Byte :=
  [t.state.code, t.mode.code, indexByte (t.current.map (fun r => r.note)), indexByte (t.current.bind (fun r => r.string))] ++
    byte3 ((t.current.map (fun r => r.centihertz)).getD 0) ++
    signed2 ((t.current.map (fun r => r.deviation)).getD (-32768)) ++
    [(t.current.map (fun r => r.band.code)).getD 255]

/-- The code of a tempo source (R211). -/
def TempoSource.code : TempoSource → Byte
  | .default => 0
  | .tap => 1
  | .showSystem => 2
  | .preset => 3

/-- The body of TEMPO (R108, R211). -/
def tempoBody (c : Control) : List Byte :=
  byte3 c.period ++ byte2 (tempoQuotient c.period) ++ [c.source.code, flagByte c.locked]

/-- The last discard cause as LINK carries it (R211). -/
def causeByte : Option DiscardCause → Byte
  | none => 0
  | some .badFrame => 1
  | some .badCheck => 2
  | some .overrun => 3

/-- The type of a notice (R211). -/
def NoticeClass.code : NoticeClass → Byte
  | .guard => 0xF0
  | .fault => 0xF1
  | .scene => 0xF2
  | .mute => 0xF3
  | .tuner => 0xF4
  | .tempo => 0xF5
  | .link => 0xF6

/-- The content of a notice of a class on a link, read from its owner as it stands (R184). -/
def noticeBody (s : State) (x : LinkIf) : NoticeClass → List Byte
  | .guard => guardBody s.protection
  | .fault => faultBody s.capture
  | .scene => sceneBody s.engine
  | .mute => muteBody s.mixer
  | .tuner => tunerBody s.tuner
  | .tempo => tempoBody s.control
  | .link => [causeByte x.cause]

/-- The notice classes in the order of their priority (R179). -/
def noticeClasses : List NoticeClass := [.guard, .fault, .scene, .mute, .tuner, .tempo, .link]

/-- The class of highest priority whose pending flag is set (R182). -/
def NoticeSet.first (f : NoticeSet) : Option NoticeClass := noticeClasses.find? (fun c => f.has c)

/-- Whether a drop of the link is due: the break count has come to 10 and this break has not been judged (R202). -/
def LinkIf.dropDue (x : LinkIf) : Bool := x.lineLow && decide (Config.breakEnd ≤ x.breakCount) && !x.breakJudged

/-- Whether a link may start no notice for now: its drop is due, and a class raised together with the drop and taken first is
cleared by it, so that no notice comes of it (R204); or Bus Protection is still handling a frame, which it handles whole, so that
a GUARD shows every flag that the frame latches (R156). -/
def LinkIf.held (s : State) (x : LinkIf) : Bool := x.dropDue || s.protection.judging

/-- A free transmitter chooses: the oldest queued response, else the notice of highest priority, whose flag is cleared and
whose content is read in the same step, else nothing (R182). A link that is held starts no notice. -/
def LinkIf.choose (s : State) (x : LinkIf) : LinkIf :=
  match x.tx, x.queue, x.flags.first with
  | .free, m :: _, _ => { x with tx := .response (frameBytes m) }
  | .free, [], some c =>
    if x.held s then x
    else { x with tx := .notice c (frameBytes ⟨c.code, 0, noticeBody s x c⟩), flags := x.flags.put c false }
  | _, _, _ => x

/-- Every link whose transmitter is free chooses what to send, at the end of each step (R182, log 9); the CREW link chooses
nothing once the soft reset is due (R205). Of two raisings of one class that come together a free link so starts the first one's
notice before the second, and they do not coalesce there as R165 and R148 have them do (DESIGN CHOICE, log 32). -/
def pump (s : State) : State :=
  s.withLinks ⟨s.links.player.choose s, if s.resetDue then s.links.crew else s.links.crew.choose s,
    s.links.showControl.choose s⟩

end Sys2Proof.Machine
end

