-- ==== Sys2Proof/Machine/Queries.lean ====
section
/-! DEFINITION. The answers of QUERY (R30, R50, R75, R95, R112, R137, R153, R170, R178, R201), in the layouts of R212 and
R213. Each answers a result, and the answer's bytes when the result is OK. -/

namespace Sys2Proof.Machine

/-- What a query item's owner answers. -/
abbrev Answer := Result × List Byte

/-- An answer of bytes. -/
def answered (bytes : List Byte) : Answer := (.ok, bytes)
/-- A refusal. -/
def refusedAs (r : Result) : Answer := (r, [])

/-- The chain byte of a group answer, 0 for a group that is not a chain group (R213). -/
def chainByte (code : Nat) (c : ChainId) : Byte := if isChainGroup code then c.code else 0

/-- The code of a curve or impulse record's state (R213). -/
def LoadState.code : LoadState → Byte
  | .empty => 0
  | .filling => 1
  | .ready => 2

/-- The code of a preset record's state (R213). -/
def PresetRec.code : PresetRec → Byte
  | .empty => 0
  | .filling _ => 1
  | .valid _ => 2

/-- The content of a preset record, none for EMPTY. -/
def PresetRec.content : PresetRec → Option Preset
  | .empty => none
  | .filling p => some p
  | .valid p => some p

/-- The kind byte of a preset record, 255 when EMPTY (R213). -/
def PresetRec.kindByte (r : PresetRec) : Byte :=
  match r.content with
  | some p => p.kind.code
  | none => 255

/-- Working scene group (R75): group; chain. -/
def answerSceneGroup (args : List Byte) (s : State) : Answer :=
  match args with
  | g :: ch :: _ =>
    let code := g.toNat
    match isGroup code, groupChainOf code ch with
    | true, some c =>
      match s.engine.scene with
      | none => refusedAs .noScene
      | some sc =>
        if isChainGroup code ∧ c = .b ∧ sc.preset.kind = .single then refusedAs .badRequest
        else answered ([byte1 sc.source, flagByte sc.dirty, g, chainByte code c] ++ sc.preset.groupBytes code c)
    | _, _ => refusedAs .badRequest
  | _ => refusedAs .badRequest

/-- Library group (R50): preset index; group; chain. R50 names only chain B of a SINGLE record among the refusals: a chain group
with chain byte 2, BOTH, names no chain of a record and is refused BAD_REQUEST, an EMPTY record's too (DESIGN CHOICE, log 31); and
an EMPTY record takes chain B (DESIGN CHOICE, log 17). -/
def answerLibraryGroup (args : List Byte) (s : State) : Answer :=
  match args with
  | i :: g :: ch :: _ =>
    let code := g.toNat
    let r := s.stores.preset i.toNat
    match decide (i.toNat < 128) && isGroup code, groupChainOf code ch with
    | true, some c =>
      match r.content with
      | none => answered [r.code, r.kindByte, g, chainByte code c]
      | some p =>
        if isChainGroup code ∧ c = .b ∧ p.kind = .single then refusedAs .badRequest
        else answered ([r.code, r.kindByte, g, chainByte code c] ++ p.groupBytes code c)
    | _, _ => refusedAs .badRequest
  | _ => refusedAs .badRequest

/-- Store record state (R50): store; record index. -/
def answerRecordState (args : List Byte) (s : State) : Answer :=
  match args with
  | st :: i :: _ =>
    let n := i.toNat
    if st = 0 ∧ n < 8 then
      answered ([st, i, (s.stores.curve n).state.code] ++ byte2 (s.stores.curve n).parts.toNat ++
        [flagByte (curveInUse s n), 255])
    else if st = 1 ∧ n < 16 then
      answered ([st, i, (s.stores.impulse n).state.code] ++ byte2 (s.stores.impulse n).parts.toNat ++
        [flagByte (impulseInUse s n), 255])
    else if st = 2 ∧ n < 128 then
      answered [st, i, (s.stores.preset n).code, 0, 0, 0, (s.stores.preset n).kindByte]
    else refusedAs .badRequest
  | _ => refusedAs .badRequest

/-- Map entry (R50): bank; slot. -/
def answerMapEntry (args : List Byte) (s : State) : Answer :=
  match args with
  | bank :: slot :: _ =>
    if bank.toNat < 32 ∧ slot.toNat < 4 then
      answered [bank, slot, indexByte (s.stores.mapEntry bank.toNat slot.toNat)]
    else refusedAs .badRequest
  | _ => refusedAs .badRequest

/-- Profile (R50): profile index. -/
def answerProfile (args : List Byte) (s : State) : Answer :=
  match args with
  | i :: _ =>
    if i.toNat < 8 then
      let p := s.stores.profile i.toNat
      answered ([i] ++ p.label ++ [byte1 p.notes.length] ++ p.notes.map byte1 ++ byte2 p.trim ++
        [flagByte (i.toNat == s.stores.active)])
    else refusedAs .badRequest
  | _ => refusedAs .badRequest

/-- Active profile (R50). -/
def answerActiveProfile (s : State) : Answer := answered [byte1 s.stores.active]

/-- Window (R95): link. Fields whose presence bit is clear are 0 (R207). -/
def answerWindow (args : List Byte) (s : State) : Answer :=
  match args with
  | b :: _ =>
    match linkOf b with
    | none => refusedAs .badRequest
    | some l =>
      let w := s.arbiter.windows.get l
      let slot := s.arbiter.slots.get l
      let place := slot.bind (fun x => x.place)
      answered ([b, byte1 w.base, byte1 w.size, byte1 (s.arbiter.tenureSetting.get l),
        byte1 (bit slot.isSome 0 + bit place.isSome 1 + bit s.arbiter.tenure.isSome 2 + bit s.arbiter.grant.isSome 3),
        byte1 ((slot.map (fun x => x.index)).getD 0), byte1 ((place.map Prod.fst).getD 0),
        byte1 ((place.map Prod.snd).getD 0), byte1 ((s.arbiter.tenure.map (fun t => linkNumber t.owner)).getD 0)] ++
        byte2 ((s.arbiter.tenure.map (fun t => t.count)).getD 0) ++
        [byte1 ((s.arbiter.grant.map (fun g => linkNumber g.origin)).getD 0)])
  | _ => refusedAs .badRequest

/-- Tempo (R112). -/
def answerTempo (s : State) : Answer :=
  let c := s.control
  answered (byte3 c.period ++ byte2 (tempoQuotient c.period) ++
    [c.source.code, flagByte c.locked, flagByte c.prevTap.isSome, byte1 c.intervals.length] ++
    byte2 c.exp1.smoothed ++ byte2 c.exp2.smoothed)

/-- The reading fields of the tuner answer, 0 when there is no reading (R213). -/
def readingBytes (r : Option Reading) : List Byte :=
  match r with
  | none => [0, 0, 0, 0, 0, 0, 0, 0, 0]
  | some r => [r.mode.code] ++ byte3 r.centihertz ++ [byte1 r.note, indexByte r.string] ++ signed2 r.deviation ++ [r.band.code]

/-- Tuner (R137): while OFF the counts are reported 0 and the reading absent. -/
def answerTuner (s : State) : Answer :=
  let t := if s.tuner.engaged then s.tuner else s.tuner.fresh
  answered ([t.state.code, t.mode.code, flagByte t.muteFlag, flagByte t.muteActive, flagByte t.current.isSome] ++
    readingBytes t.current ++ [byte1 t.group.length] ++ byte2 t.stale ++ byte2 t.reference ++ byte3 t.hysteresis ++
    [byte1 t.wIn] ++ byte2 t.wNear ++ [byte1 t.muteSet.number])

/-- Mute (R153). -/
def answerMute (s : State) : Answer :=
  let m := s.mixer
  answered ([byte1 m.mask.number, flagByte m.tunerMute, byte1 m.tunerSet.number] ++ m.ramps.toList.map byte1 ++
    [byte1 m.monRamp, flagByte m.monRequest, flagByte m.timer.isSome] ++ byte3 (m.timer.getD 0) ++ [flagByte m.expired] ++
    byte2 m.safetySetting ++ byte2 m.attenuation)

/-- Protection flags (R170, R212, R213), by part: every part begins with its number, the part count and the window phase. -/
def answerProtection (part : Nat) (s : State) : Answer :=
  let p := s.protection
  let head := [byte1 part, 3] ++ byte2 p.phase
  if part = 0 then answered (head ++ guardBody p ++ pairBytes p (fun x => x.cond))
  else if part = 1 then
    answered (head ++ (protClasses.map (fun c => (buses.map (fun b => byte3 (p.pair b c).count)).flatten)).flatten)
  else
    answered (head ++ (p.env.toList.map byte3).flatten ++ (p.mean.toList.map signed3).flatten ++ [flagByte p.request] ++
      byte3 p.overThreshold ++ byte3 p.dcThreshold ++ byte3 p.lossFloor ++ byte2 p.timers.overLevel ++ byte2 p.timers.dc ++
      byte2 p.timers.loss)

/-- Capture (R178). -/
def answerCapture (s : State) : Answer := answered (faultBody s.capture)

/-- The code of a lane state (R213). -/
def LaneState.code : LaneState → Byte
  | .idle => 0
  | .incoming => 1
  | .live => 2
  | .outgoing => 3
  | .tailing => 4
  | .cutting => 5

/-- The code of a role (R213). -/
def Role.code : Role → Byte
  | .single => 0
  | .dualA => 1
  | .dualB => 2

/-- The code of a gate state (R213). -/
def GateState.code : GateState → Byte
  | .closed => 0
  | .opened => 1

/-- What the lane states answer says of one lane (R30, R213). -/
def laneBytes (l : Lane) : List Byte :=
  [l.state.code, l.role.code] ++ byte3 l.delayLength ++ [flagByte l.delayClamped, l.gateState.code] ++ byte2 l.weight ++
    [byte1 l.outRamp]

/-- Lane states (R30). -/
def answerLaneStates (s : State) : Answer := answered (laneBytes s.lanes.a ++ laneBytes s.lanes.b)

/-- The present value of a setting (R201): for the presence floor the pending one where one is held. -/
def settingValue (s : State) : Setting → Nat
  | .presenceFloor => s.frontEnd.pendingFloor.getD s.frontEnd.floor
  | .tenure l => s.arbiter.tenureSetting.get l
  | .referencePitch => s.tuner.reference
  | .hysteresis => s.tuner.hysteresis
  | .wIn => s.tuner.wIn
  | .wNear => s.tuner.wNear
  | .tunerMuteSet => s.tuner.muteSet.number
  | .safetyTimer => s.mixer.safetySetting
  | .attenuation => s.mixer.attenuation
  | .overThreshold => s.protection.overThreshold
  | .dcThreshold => s.protection.dcThreshold
  | .lossFloor => s.protection.lossFloor
  | .tOver => s.protection.timers.overLevel
  | .tDc => s.protection.timers.dc
  | .tLoss => s.protection.timers.loss

/-- Setting (R201): setting identifier. -/
def answerSetting (args : List Byte) (s : State) : Answer :=
  match args with
  | i :: _ =>
    match settingOf i with
    | some t => answered ([i] ++ byte3 (settingValue s t))
    | none => refusedAs .badRequest
  | _ => refusedAs .badRequest

/-- Link (R201): link. A link that queries itself counts its own slot as queued, with the answer; `asker` holds that slot
reserved while the answer is read. -/
def answerLink (asker : Link) (args : List Byte) (s : State) : Answer :=
  match args with
  | b :: _ =>
    match linkOf b with
    | none => refusedAs .badRequest
    | some l =>
      let x := s.link l
      let own := if l = asker then 1 else 0
      answered [b, byte1 x.mask.number, byte1 x.flags.number, byte1 (x.reserved - own), byte1 (x.queue.length + own),
        causeByte x.cause, flagByte x.lineLow, flagByte x.breakJudged, flagByte (l == .crew && x.closing)]
  | _ => refusedAs .badRequest

end Sys2Proof.Machine
end

