-- ==== Sys2Proof/Machine/Requests.lean ====
section
/-! DEFINITION. What an accepted request does: SETTING, SUBSCRIBE, CAPTURE_CLEAR and RESET, the delivery of each request to its
owning block, and the link's own checks before it (R193, R195, R196, R199, R200). -/

namespace Sys2Proof.Machine

/-! ### SETTING (R199, R214) -/

/-- A number kept to a range, with OK or CLAMPED (R199, check 4). -/
def inRange (lo hi v : Nat) : Nat × Result := (clamp lo hi v, okOr (decide (clamp lo hi v ≠ v)))

/-- The range of a setting as it stands (R214, R133). -/
def settingRange (s : State) : Setting → Nat × Nat
  | .presenceFloor => (0, 8388607)
  | .tenure _ => (0, 250)
  | .referencePitch => (40000, 46600)
  | .hysteresis => (0, 8388607)
  | .wIn => (1, min 100 s.tuner.wNear)
  | .wNear => (s.tuner.wIn, 500)
  | .tunerMuteSet => (0, 7)
  | .safetyTimer => (0, 600)
  | .attenuation => (0, 32768)
  | .overThreshold => (0, 8388608)
  | .dcThreshold => (0, 8388608)
  | .lossFloor => (0, 8388608)
  | .tOver => (0, 4000)
  | .tDc => (0, 4000)
  | .tLoss => (0, 4000)

/-- Store a setting's value, already in its range, with the effect its owner's rule gives (R5, R87, R133, R147, R150, R167,
R168). -/
def putSetting (t : Setting) (v : Nat) (s : State) : State :=
  match t with
  | .presenceFloor => s.withFrontEnd { s.frontEnd with pendingFloor := some v }
  | .tenure l => s.withArbiter { s.arbiter with tenureSetting := s.arbiter.tenureSetting.set l v }
  | .referencePitch => s.withTuner { s.tuner with reference := v }
  | .hysteresis => s.withTuner { s.tuner with hysteresis := v }
  | .wIn => s.withTuner { s.tuner with wIn := v }
  | .wNear => s.withTuner { s.tuner with wNear := v }
  | .tunerMuteSet => handTunerMute (s.withTuner { s.tuner with muteSet := ⟨v.testBit 0, v.testBit 1, v.testBit 2⟩ })
  | .safetyTimer => setSafetyTimer v s
  | .attenuation => s.withMixer { s.mixer with attenuation := v }
  | .overThreshold => s.withProtection { s.protection with overThreshold := v }
  | .dcThreshold => s.withProtection { s.protection with dcThreshold := v }
  | .lossFloor => s.withProtection { s.protection with lossFloor := v }
  | .tOver => setTimer .overLevel v s
  | .tDc => setTimer .dc v s
  | .tLoss => setTimer .loss v s

/-- SETTING of a known setting (R199, checks 2 to 4). -/
def setting (t : Setting) (v : Nat) (s : State) : Result × State :=
  if t.ofTuner && s.tuner.engaged then (.busy, s)
  else if t = .tunerMuteSet ∧ 8 ≤ v then (.badRequest, s)
  else
    let r := inRange (settingRange s t).1 (settingRange s t).2 v
    (r.2, putSetting t r.1 s)

/-! ### SUBSCRIBE, CAPTURE_CLEAR, RESET -/

/-- The pending flag of a class after SUBSCRIBE (R181). -/
def resubscribed (old new flag : Bool) : Bool := new && (flag || !old)

/-- The pending flags after SUBSCRIBE (R181). -/
def NoticeSet.resubscribe (old new flags : NoticeSet) : NoticeSet :=
  ⟨resubscribed old.guard new.guard flags.guard, resubscribed old.fault new.fault flags.fault,
   resubscribed old.scene new.scene flags.scene, resubscribed old.mute new.mute flags.mute,
   resubscribed old.tuner new.tuner flags.tuner, resubscribed old.tempo new.tempo flags.tempo,
   resubscribed old.link new.link flags.link⟩

/-- SUBSCRIBE (R181): class mask. -/
def subscribe (l : Link) (body : List Byte) (s : State) : Result × State :=
  match noticeSetOf (num body 0 1) with
  | none => (.badRequest, s)
  | some m =>
    (.ok, s.setLink l { s.link l with mask := m, flags := (s.link l).mask.resubscribe m (s.link l).flags })

/-- CAPTURE_CLEAR (R176). -/
def captureClear (s : State) : Result × State := (.ok, s.withCapture none)

/-- RESET (R205): the CREW link is closing from here on. -/
def resetRequest (l : Link) (s : State) : Result × State := (.ok, s.setLink l { s.link l with closing := true })

/-! ### QUERY (R200) -/

/-- The answer of an item's owner to a part that the item has. -/
def answerItem (asker : Link) (it : Item) (part : Nat) (args : List Byte) (s : State) : Answer :=
  match it with
  | .sceneGroup => answerSceneGroup args s
  | .libraryGroup => answerLibraryGroup args s
  | .recordState => answerRecordState args s
  | .mapEntry => answerMapEntry args s
  | .profile => answerProfile args s
  | .activeProfile => answerActiveProfile s
  | .window => answerWindow args s
  | .tempo => answerTempo s
  | .tuner => answerTuner s
  | .mute => answerMute s
  | .protection => answerProtection part s
  | .capture => answerCapture s
  | .laneStates => answerLaneStates s
  | .setting => answerSetting args s
  | .link => answerLink asker args s

/-- QUERY of a known item (R200): a part number at or above the item's part count is refused. -/
def queryItem (asker : Link) (it : Item) (part : Nat) (args : List Byte) (s : State) : Answer :=
  if it.parts ≤ part then refusedAs .badRequest else answerItem asker it part args s

/-! ### Delivery (R195) -/

/-- The owner's result and effect for every request whose response carries a result alone and is final at acceptance. -/
def deliver (t : ReqType) (l : Link) (body : List Byte) (s : State) : Result × State :=
  match t with
  | .windowSet => windowSet body s
  | .edit => edit body s
  | .store => store body s
  | .curveBegin => curveBegin body s
  | .curvePut => curvePut body s
  | .impulseBegin => impulseBegin body s
  | .impulsePut => impulsePut body s
  | .presetBegin => presetBegin body s
  | .presetPut => presetPut body s
  | .presetEnd => presetEnd body s
  | .presetErase => presetErase body s
  | .mapSet => mapSet body s
  | .profilePut => profilePut body s
  | .instrumentSelect => instrumentSelect body s
  | .pedal => pedal body s
  | .tap => tap s
  | .tempo => tempo body s
  | .tunerEngage => tunerEngage body s
  | .tunerRelease => tunerRelease s
  | .mute => mute body s
  | .ack => ack body s
  | .force => force body s
  | .captureClear => captureClear s
  | .subscribe => subscribe l body s
  | .setting =>
    match settingOf (byte1 (num body 0 1)) with
    | some x => setting x (num body 1 3) s
    | none => (.badRequest, s)
  | .reset => resetRequest l s
  | .recall => (.badRequest, s)
  | .recallIndex => (.badRequest, s)
  | .query => (.badRequest, s)

/-- The answer of a QUERY body: item; part number; arguments (R200, R212). -/
def answerQuery (l : Link) (body : List Byte) (s : State) : Answer :=
  match itemOf (byte1 (num body 0 1)) with
  | some it => queryItem l it (num body 1 1) (body.drop 2) s
  | none => refusedAs .badRequest

/-- A permitted request of an allowed length, its slot reserved, is carried out by its owner (R195). The recalls give their
responses themselves (R91), a QUERY's response carries its answer (R197). -/
def carryOut (t : ReqType) (l : Link) (tag : Byte) (body : List Byte) (s : State) : State :=
  match t with
  | .recall => takeRecall l tag body s
  | .recallIndex => takeRecallIndex l tag body s
  | .query =>
    let a := answerQuery l body s
    queueMessage l ⟨t.responseCode, tag, a.1.code :: a.2⟩ s
  | _ =>
    let r := deliver t l body s
    respond l t tag r.1 r.2

/-- A request of a known type whose slot is reserved: permission, then body length, then its owner (R195). -/
def checkRequest (t : ReqType) (l : Link) (tag : Byte) (body : List Byte) (s : State) : State :=
  if !t.permitted l then respond l t tag .notPermitted s
  else if !t.lengthOk body.length then respond l t tag .badRequest s
  else carryOut t l tag body s

/-- A sound frame of a TYPE comes to acceptance (R187, R190, R193): a body no frame can carry is a bad LEN, a tag of 0 is a bad
frame, a link without a free slot discards the request as OVERRUN, and otherwise a slot is reserved. -/
def acceptance (l : Link) (tag : Byte) (body : List Byte) (carry : State → State) (s : State) : State :=
  if Config.bodyMax < body.length then discard l .badFrame s
  else if tag = 0 then discard l .badFrame s
  else if Config.responseSlots ≤ (s.link l).occupied then discard l .overrun s
  else carry (reserveSlot l s)

/-- The response to a frame of unknown type (R195, R211). -/
def unknownType (l : Link) (tag : Byte) (s : State) : State := queueMessage l ⟨0xFF, tag, [Result.badRequest.code]⟩ s

/-- A sound frame with a TYPE byte is accepted or discarded (R193, R195). -/
def acceptFrame (l : Link) (type tag : Byte) (body : List Byte) (s : State) : State :=
  acceptance l tag body (fun s =>
    match reqTypeOf type with
    | some t => checkRequest t l tag body s
    | none => unknownType l tag s) s

end Sys2Proof.Machine
end

