-- ==== Sys2Proof/Machine/Links.lean ====
section
/-! DEFINITION. The Link Interfaces (chapter 10): reception byte by byte, breaks, control milliseconds, the end of a message,
link drop, and the two resets. -/

namespace Sys2Proof.Machine

/-! ### Resets (R7, R29, R52, R76, R94, R113, R138, R154, R171, R177, R185, R206) -/

/-- A Link Interface after a soft reset (R206): a break in progress goes on being measured. -/
def LinkIf.softReset (x : LinkIf) : LinkIf :=
  { LinkIf.initial with lineLow := x.lineLow, breakPartial := x.breakPartial, breakCount := x.breakCount,
                        breakJudged := x.breakJudged }

/-- The front end after a soft reset (R7, R5). -/
def FrontEnd.softReset (f : FrontEnd) (trim : Nat) : FrontEnd :=
  { FrontEnd.initial with frameCount := f.frameCount, trim := trim, floor := f.pendingFloor.getD f.floor,
                          presence := decide (f.pendingFloor.getD f.floor = 0) }

/-- The arbiter after a soft reset (R94). -/
def Arbiter.softReset (a : Arbiter) : Arbiter := { a with slots := ⟨none, none, none⟩, tenure := none, grant := none }

/-- The tuner after a soft reset (R138). -/
def Tuner.softReset (t : Tuner) : Tuner := { t.fresh with state := .off, mode := .free, muteFlag := false }

/-- The mixer after a soft reset (R154): the ramps keep their positions. -/
def Mixer.softReset (m : Mixer) : Mixer :=
  { m with mask := .none, timer := none, expired := false, tunerMute := false, monRequest := false }

/-- Bus Protection after a soft reset (R171): the six settings keep their values. -/
def Protection.softReset (p : Protection) : Protection :=
  { Protection.initial with overThreshold := p.overThreshold, dcThreshold := p.dcThreshold, lossFloor := p.lossFloor,
                            timers := p.timers }

/-- The soft reset of every block and link, in one step (R206); the stores keep everything (R52), and the capture holds
SOFT_RESET with link 1 (R177). -/
def softReset (s : State) : State :=
  { pending := s.pending
    frontEnd := s.frontEnd.softReset s.stores.activeProfile.trim
    lanes := ⟨.initial, .initial⟩
    stores := s.stores
    engine := .initial
    arbiter := s.arbiter.softReset
    control := .initial
    tuner := s.tuner.softReset
    mixer := s.mixer.softReset
    protection := s.protection.softReset
    capture := some ⟨.softReset, some .crew, none, none⟩
    links := s.links.map LinkIf.softReset
    resetDue := false }

/-- Power-on (R177 and each block's power-on rule). The level of each receiving line is the far end's and stays; a line that
is low has stood so from power-on (R202). -/
def powerOn (s : State) : State :=
  { State.reset with pending := s.pending, links := s.links.map (fun x => { LinkIf.initial with lineLow := x.lineLow }) }

/-! ### Reception (R188, R189) -/

/-- Whether a frame is in assembly. -/
def Receiver.assembling : Receiver → Bool
  | .hunt => false
  | _ => true

/-- The receiver of a link in a state, its gap count 0. -/
def setReceiver (l : Link) (r : Receiver) (s : State) : State := s.setLink l { s.link l with rx := r, gap := 0 }

/-- A byte taken by the receiver of a link that is not closing (R188). -/
def receive (l : Link) (b : Byte) (s : State) : State :=
  match (s.link l).rx with
  | .hunt => if b = Config.syncByte then setReceiver l .length s else s
  | .length =>
    if 2 ≤ b.toNat ∧ b.toNat ≤ 62 then setReceiver l (.content b.toNat []) s else discard l .badFrame s
  | .content len bytes =>
    let bytes := bytes ++ [b]
    if len ≤ bytes.length then setReceiver l (.check len bytes) s else setReceiver l (.content len bytes) s
  | .check len bytes =>
    if (frameSum len bytes + b.toNat) % 256 = 0 then
      match bytes with
      | type :: tag :: body => acceptFrame l type tag body (setReceiver l .hunt s)
      | _ => setReceiver l .hunt s
    else discard l .badCheck s

/-! ### Breaks and link drop (R189, R202, R203) -/

/-- The receiving line falls to the break level (R202). -/
def breakBegins (l : Link) (s : State) : State :=
  if (s.link l).lineLow then s
  else s.setLink l { s.link l with lineLow := true, breakPartial := true, breakCount := 0 }

/-- The receiving line returns to idle: the break count is 0, break judged is clear, and a frame in assembly is discarded as
BAD_FRAME (R189, R202). A line at idle level stays so. -/
def breakEnd (l : Link) (s : State) : State :=
  if (s.link l).lineLow then
    let s := s.setLink l { s.link l with lineLow := false, breakPartial := false, breakCount := 0, breakJudged := false }
    if (s.link l).rx.assembling then discard l .badFrame s else s
  else s

/-- The response queue after a drop: every response not yet started is lost (R203, step 3). -/
def LinkIf.keptQueue (x : LinkIf) : List Message :=
  match x.tx with
  | .response _ => x.queue.take 1
  | _ => []

/-- A drop of a link (R203); on the closing CREW link it brings the soft reset (step 5). -/
def linkDrop (l : Link) (s : State) : State :=
  let s := (s.setLink l { s.link l with rx := .hunt, gap := 0, reserved := 0, queue := (s.link l).keptQueue,
                                        flags := .none, breakJudged := true }).withArbiter (s.arbiter.drop l)
  if l = .crew ∧ (s.link l).closing then softReset s else s

/-! ### Control milliseconds (R88, R145, R189, R202) -/

/-- A control millisecond on a link: the break count rises if the line has stood low the whole time, the gap count rises
while a frame is in assembly and the line is idle. -/
def LinkIf.millisecond (x : LinkIf) : LinkIf :=
  if x.lineLow then
    (if x.breakPartial then { x with breakPartial := false }
     else { x with breakCount := min (x.breakCount + 1) Config.breakEnd })
  else if x.rx.assembling then { x with gap := min (x.gap + 1) Config.gapEnd }
  else x

/-- A control millisecond, short of any expiry: gap and break counts rise, the tenure and the safety timer run down. -/
def controlMillisecond (s : State) : State :=
  ((s.withLinks (s.links.map LinkIf.millisecond)).withArbiter
    { s.arbiter with tenure := s.arbiter.tenure.map (fun t => { t with count := t.count - 1 }) }).withMixer
    { s.mixer with timer := s.mixer.timer.map (fun n => n - 1) }

/-! ### The end of a message (R182, R192, R205) -/

/-- Whether a message is the OK of a RESET. -/
def isResetOk (m : Message) : Bool := m.type == ReqType.reset.responseCode && m.body == [Result.ok.code]

/-- The message a link is sending ends: the transmitter is free, and a response's slot with it. The end of the RESET's OK on
the closing CREW link makes the soft reset due (R205). -/
def messageEnds (l : Link) (s : State) : State :=
  let x := s.link l
  match x.tx with
  | .free => s
  | .notice _ _ => s.setLink l { x with tx := .free }
  | .response _ =>
    let s' := s.setLink l { x with tx := .free, queue := x.queue.drop 1 }
    if l = .crew ∧ x.closing ∧ (x.queue.take 1).any isResetOk then s'.withResetDue true else s'

end Sys2Proof.Machine
end

