-- ==== Sys2Proof/Machine/Events.lean ====
section
/-! DEFINITION. The part's own events: what makes each of them due, what it does, and how all that are due are taken. A frame
or a control millisecond moves the counters; an event that a counter brings about is then due until it is taken, as a step
of its own (log 2, log 4). -/

namespace Sys2Proof.Machine

/-- The events that come about inside the part. -/
inductive Event where
  | dcWindowEnd
  | flagLatch (bus : Bus) (cls : ProtClass)
  | decimatedSample
  | tunerStale
  | tailTimerExpiry (lane : LaneId)
  | tailFloorEnd (lane : LaneId)
  | cutEnd (lane : LaneId)
  | dipOutEnd
  | fadeComplete
  | dipComplete
  | gapTimeout (link : Link)
  | linkDrop (link : Link)
  | safetyTimerExpiry
  | tenureExpiry
  | softReset
deriving DecidableEq, Repr

/-- Whether the transition in flight satisfies f. -/
def Engine.transitionIs (e : Engine) (f : Transition → Bool) : Bool :=
  match e.transition with
  | some t => f t
  | none => false

/-- Whether a running tenure's count has come to 0 (R88). -/
def Arbiter.tenureOver (a : Arbiter) : Bool :=
  match a.tenure with
  | some t => t.count == 0
  | none => false

/-- Whether an event is due. -/
def due (e : Event) (s : State) : Bool :=
  match e with
  | .dcWindowEnd => decide (Config.dcWindow ≤ s.protection.phase)
  | .flagLatch b c => (s.protection.pair b c).latchDue
  | .decimatedSample => s.tuner.engaged && decide (8 ≤ s.tuner.count)
  | .tunerStale => s.tuner.state == .reading && decide (Config.staleEnd ≤ s.tuner.stale)
  | .tailTimerExpiry x => (s.lanes.get x).state == .tailing && (s.lanes.get x).tailTimer == 0
  | .tailFloorEnd x => (s.lanes.get x).state == .tailing && decide (Config.tailFloorEnd ≤ (s.lanes.get x).floorCount)
  | .cutEnd x => (s.lanes.get x).state == .cutting && (s.lanes.get x).outRamp == 0
  | .dipOutEnd => s.engine.dipping && dipOutOver s.lanes
  | .fadeComplete => s.engine.transitionIs (fun t => t.phase == .cross && decide (t.fade ≤ t.j))
  | .dipComplete => s.engine.transitionIs (fun t => t.phase == .dipIn && decide (t.fade ≤ t.j))
  | .gapTimeout l => (s.link l).rx.assembling && decide (Config.gapEnd ≤ (s.link l).gap)
  | .linkDrop l => (s.link l).dropDue
  | .safetyTimerExpiry => s.mixer.timer == some 0
  | .tenureExpiry => s.arbiter.tenureOver
  | .softReset => s.resetDue

/-- What happens to the transition in flight, where there is one. -/
def onTransition (f : Transition → State → State) (s : State) : State :=
  match s.engine.transition with
  | some t => f t s
  | none => s

/-- What an event does. -/
def effect (e : Event) (s : State) : State :=
  match e with
  | .dcWindowEnd => dcWindowEnd s
  | .flagLatch b c => flagLatch b c s
  | .decimatedSample => decimatedSample s
  | .tunerStale => tunerStale s
  | .tailTimerExpiry x => s.setLane x (s.lanes.get x).cut
  | .tailFloorEnd x => laneIdle x s
  | .cutEnd x => laneIdle x s
  | .dipOutEnd => onTransition dipOutEnd s
  | .fadeComplete => onTransition fadeComplete s
  | .dipComplete => onTransition dipComplete s
  | .gapTimeout l => discard l .badFrame s
  | .linkDrop l => linkDrop l s
  | .safetyTimerExpiry => safetyExpiry s
  | .tenureExpiry => tenureExpiry s
  | .softReset => softReset s

/-- An event is taken if it is due; the transmitters choose at the end of the step (log 9), so on a free
link its notice does not wait for a raising that comes together with it (DESIGN CHOICE, log 32). An event that is not due does
not happen: the state stays as it is (log 2). -/
def happen (e : Event) (s : State) : State := if due e s then pump (effect e s) else s

/-- The part's own events in the order in which those that are due together are taken (DESIGN CHOICE, log 2: the spec lets
events that come together be taken in either order). -/
def events : List Event :=
  [.dcWindowEnd,
   .flagLatch .fohL .overLevel, .flagLatch .fohL .dc, .flagLatch .fohL .loss,
   .flagLatch .fohR .overLevel, .flagLatch .fohR .dc, .flagLatch .fohR .loss,
   .flagLatch .mon .overLevel, .flagLatch .mon .dc, .flagLatch .mon .loss,
   .flagLatch .amp .overLevel, .flagLatch .amp .dc, .flagLatch .amp .loss,
   .decimatedSample, .tunerStale,
   .tailTimerExpiry .a, .tailFloorEnd .a, .cutEnd .a, .tailTimerExpiry .b, .tailFloorEnd .b, .cutEnd .b,
   .dipOutEnd, .fadeComplete, .dipComplete,
   .gapTimeout .player, .gapTimeout .crew, .gapTimeout .showControl,
   .linkDrop .player, .linkDrop .crew, .linkDrop .showControl,
   .safetyTimerExpiry, .tenureExpiry, .softReset]

/-- Every event that is due is taken, one after the other. -/
def settle (s : State) : State := events.foldl (fun s e => happen e s) s

end Sys2Proof.Machine
end

