-- ==== Sys2Proof/Machine/Frame.lean ====
section
/-! DEFINITION. What a command from outside does around its own effect: an input frame's work in the order of 1.4 of
00_scope.md, the block boundaries, and the arrival of a whole frame or a byte on a link. -/

namespace Sys2Proof.Machine

/-! ### Input frames (R3) -/

/-- The lanes' and the mixer's work on a trimmed sample: both lanes compute, the engine moves the weights, the mixer forms
the buses, Bus Protection watches them (R8, R62, R67, R140, R156). -/
def audioFrame (x : Int) (s : State) : State :=
  let dipping := s.engine.dipping
  let a := s.lanes.a.frame s.stores dipping x
  let b := s.lanes.b.frame s.stores dipping x
  let roles : PerLane Role := ⟨a.1.role, b.1.role⟩
  let s := engineFrame (s.withLanes ⟨a.1, b.1⟩)
  let m := mixerFrame roles ⟨a.2, b.2⟩ s
  protectionFrame m.2 m.1

/-- One input frame whose channel 0 carries a sample (R3): the front end, the lanes and what follows them, the tuner's
decimator. Channel 1 is ignored. -/
def inputFrame (x : Int) (s : State) : State :=
  let f := s.frontEnd.frame x
  let s := audioFrame f.2 (s.withFrontEnd f.1)
  s.withTuner (s.tuner.takeSample f.2)

/-! ### Block boundaries (R6, R24) -/

/-- The front end's block boundary of the coming frame, taken as a step of its own (log 3). -/
def frontEndBoundary (s : State) : State :=
  if s.frontEnd.boundaryFalls then s.withFrontEnd { s.frontEnd.latch with boundaryTaken := true } else s

/-- A lane's block boundary of the coming frame, taken as a step of its own (log 3); an IDLE lane has none. -/
def laneBoundary (x : LaneId) (s : State) : State :=
  let l := s.lanes.get x
  if l.state ≠ .idle ∧ l.boundaryFalls then s.setLane x { l.latch with boundaryTaken := true } else s

/-! ### What is due, and what comes from outside -/

/-- Something from outside happens: what is due is taken first, then the happening, then the transmitters choose. -/
def outside (f : State → State) (s : State) : State := pump (f (settle s))

/-- Whether an event is the drop of a link other than the one that a row is on, if it is on one. -/
def Event.dropElsewhere (own : Option Link) : Event → Bool
  | .linkDrop l => own != some l
  | _ => false

/-- Whether nothing is due but drops of other links. -/
def dropsAlone (own : Option Link) (s : State) : Bool := events.all (fun e => !due e s || e.dropElsewhere own)

/-- The drops that were due in s are taken, from t; with another event due in t they stay due beside it. -/
def takeDrops (s t : State) : State :=
  if dropsAlone none t then
    [Link.player, .crew, .showControl].foldl (fun u l => if due (.linkDrop l) s then happen (.linkDrop l) u else u) t
  else t

/-- Something from outside that may raise a notice happens, on a link of its own or on none. Where nothing is due but drops of
other links it comes together with them and is taken first, so that a drop clears what it raises on that link; to have the drop
first, LINK_DROP stands before it in the queue (R204; DESIGN CHOICE, log 2). Otherwise what is due is taken first. -/
def beside (own : Option Link) (f : State → State) (s : State) : State :=
  if dropsAlone own s then takeDrops s (pump (f s)) else outside f s

/-! ### Arrivals on a link -/

/-- A byte or a frame that arrives on a line at break level says that the line has returned to idle (log 6). -/
def lineUp (l : Link) (s : State) : State := if (s.link l).lineLow then pump (breakEnd l s) else s

/-- A whole frame arrives on a link (log 5): a closing link takes nothing (R205); the receiver is in HUNT afterward. -/
def frameArrives (l : Link) (f : State → State) (s : State) : State :=
  beside (some l) (fun s =>
    let s := lineUp l s
    if (s.link l).closing then s else f (setReceiver l .hunt s)) s

/-- A byte arrives on a link (R188). -/
def byteArrives (l : Link) (b : Byte) (s : State) : State :=
  beside (some l) (fun s =>
    let s := lineUp l s
    if (s.link l).closing then s else receive l b s) s

/-- A request of a known type arrives in a sound frame (R193, R195). -/
def requestArrives (t : ReqType) (l : Link) (tag : Byte) (body : List Byte) (s : State) : State :=
  frameArrives l (acceptance l tag body (checkRequest t l tag body)) s

/-- A SETTING of a known setting arrives (R199): permission, then the owner. -/
def settingArrives (t : Setting) (l : Link) (tag : Byte) (value : BitVec 24) (s : State) : State :=
  frameArrives l (acceptance l tag (t.code :: byte3 value.toNat) (fun s =>
    if !ReqType.setting.permitted l then respond l .setting tag .notPermitted s
    else
      let r := setting t value.toNat s
      respond l .setting tag r.1 r.2)) s

/-- A QUERY of a known item arrives (R200): the body length, then the owner. -/
def queryArrives (it : Item) (l : Link) (tag part : Byte) (args : List Byte) (s : State) : State :=
  frameArrives l (acceptance l tag (it.code :: part :: args) (fun s =>
    if 3 < args.length then respond l .query tag .badRequest s
    else
      let a := queryItem l it part.toNat args s
      queueMessage l ⟨ReqType.query.responseCode, tag, a.1.code :: a.2⟩ s)) s

end Sys2Proof.Machine
end

