-- ==== Sys2Proof/Machine/CommandsLine.lean ====
section
/-! DEFINITION. The meanings of the commands: what happens on the lines of the links, and the control millisecond. One definition per row of the table. -/

namespace Sys2Proof.Machine

/-- A request that finds all eight response slots occupied is discarded as OVERRUN (R193). -/
def overrunCheck (link : Link) (s : State) : State :=
  if Config.responseSlots ≤ (s.link link).occupied then discard link .overrun s else s

/-- BREAK_END (R189, R202): the receiving line returns to idle. -/
def execBreakEnd (link : Link) (s : State) : Host.Outcome State Fault Refusal :=
  .next (beside (some link) (breakEnd link) s)

/-- BREAK_BEGINS (R202): the receiving line falls to break level. -/
def execBreakBegins (link : Link) (s : State) : Host.Outcome State Fault Refusal :=
  .next (outside (breakBegins link) s)

/-- BYTE_RECEIVED (R188): a character with a sound stop bit. -/
def execByteReceived (link : Link) (byte : Byte) (s : State) : Host.Outcome State Fault Refusal :=
  .next (byteArrives link byte s)

/-- BAD_FRAME (R191): a frame with a bad LEN, or with a tag of 0, arrives. -/
def execBadFrame (link : Link) (s : State) : Host.Outcome State Fault Refusal :=
  .next (frameArrives link (discard link .badFrame) s)

/-- BAD_CHECK (R191): a frame whose sum is not a multiple of 256 arrives. -/
def execBadCheck (link : Link) (s : State) : Host.Outcome State Fault Refusal :=
  .next (frameArrives link (discard link .badCheck) s)

/-- OVERRUN (R193): a request that finds no free response slot arrives. On a link with a free slot a request is no overrun, and
the row does not happen (log 2). -/
def execOverrun (link : Link) (s : State) : Host.Outcome State Fault Refusal :=
  .next (frameArrives link (overrunCheck link) s)

/-- UNKNOWN_REQUEST (R195): a sound frame arrives whose TYPE is no request type. With a TYPE that is one, the row does not happen
(log 2). -/
def execUnknownRequest (link : Link) (type tag : Byte) (body : List Byte) (s : State) : Host.Outcome State Fault Refusal :=
  .next (if (reqTypeOf type).isSome then settle s else frameArrives link (acceptance link tag body (unknownType link tag)) s)

/-- MESSAGE_SENT (R182): the message that a link is sending ends. -/
def execMessageSent (link : Link) (s : State) : Host.Outcome State Fault Refusal :=
  .next (outside (messageEnds link) s)

/-- CONTROL_MILLISECOND (R88, R145, R189, R202): a control millisecond passes. -/
def execControlMillisecond (s : State) : Host.Outcome State Fault Refusal :=
  .next (outside controlMillisecond s)

end Sys2Proof.Machine
end

