-- ==== Sys2Proof/Machine/CommandsQuery.lean ====
section
/-! DEFINITION. The meanings of the commands: the queries. One definition per row of the table. -/

namespace Sys2Proof.Machine

/-- QUERY_WORKING_SCENE_GROUP (R75; checks R200, answer R213). -/
def execQueryWorkingSceneGroup (link : Link) (tag part : Byte) (args : List Byte) (s : State) : Host.Outcome State Fault Refusal :=
  .next (queryArrives .sceneGroup link tag part args s)

/-- QUERY_LIBRARY_GROUP (R50; checks R200, answer R213). -/
def execQueryLibraryGroup (link : Link) (tag part : Byte) (args : List Byte) (s : State) : Host.Outcome State Fault Refusal :=
  .next (queryArrives .libraryGroup link tag part args s)

/-- QUERY_STORE_RECORD_STATE (R50; checks R200, answer R213). -/
def execQueryStoreRecordState (link : Link) (tag part : Byte) (args : List Byte) (s : State) : Host.Outcome State Fault Refusal :=
  .next (queryArrives .recordState link tag part args s)

/-- QUERY_MAP_ENTRY (R50; checks R200, answer R213). -/
def execQueryMapEntry (link : Link) (tag part : Byte) (args : List Byte) (s : State) : Host.Outcome State Fault Refusal :=
  .next (queryArrives .mapEntry link tag part args s)

/-- QUERY_PROFILE (R50; checks R200, answer R213). -/
def execQueryProfile (link : Link) (tag part : Byte) (args : List Byte) (s : State) : Host.Outcome State Fault Refusal :=
  .next (queryArrives .profile link tag part args s)

/-- QUERY_ACTIVE_PROFILE (R50; checks R200, answer R213). -/
def execQueryActiveProfile (link : Link) (tag part : Byte) (args : List Byte) (s : State) : Host.Outcome State Fault Refusal :=
  .next (queryArrives .activeProfile link tag part args s)

/-- QUERY_WINDOW (R95; checks R200, answer R213). -/
def execQueryWindow (link : Link) (tag part : Byte) (args : List Byte) (s : State) : Host.Outcome State Fault Refusal :=
  .next (queryArrives .window link tag part args s)

/-- QUERY_TEMPO (R112; checks R200, answer R213). -/
def execQueryTempo (link : Link) (tag part : Byte) (args : List Byte) (s : State) : Host.Outcome State Fault Refusal :=
  .next (queryArrives .tempo link tag part args s)

/-- QUERY_TUNER (R137; checks R200, answer R213). -/
def execQueryTuner (link : Link) (tag part : Byte) (args : List Byte) (s : State) : Host.Outcome State Fault Refusal :=
  .next (queryArrives .tuner link tag part args s)

/-- QUERY_MUTE (R153; checks R200, answer R213). -/
def execQueryMute (link : Link) (tag part : Byte) (args : List Byte) (s : State) : Host.Outcome State Fault Refusal :=
  .next (queryArrives .mute link tag part args s)

/-- QUERY_PROTECTION_FLAGS (R170; checks R200, answer R213). -/
def execQueryProtectionFlags (link : Link) (tag part : Byte) (args : List Byte) (s : State) : Host.Outcome State Fault Refusal :=
  .next (queryArrives .protection link tag part args s)

/-- QUERY_CAPTURE (R178; checks R200, answer R213). -/
def execQueryCapture (link : Link) (tag part : Byte) (args : List Byte) (s : State) : Host.Outcome State Fault Refusal :=
  .next (queryArrives .capture link tag part args s)

/-- QUERY_LANE_STATES (R30; checks R200, answer R213). -/
def execQueryLaneStates (link : Link) (tag part : Byte) (args : List Byte) (s : State) : Host.Outcome State Fault Refusal :=
  .next (queryArrives .laneStates link tag part args s)

/-- QUERY_SETTING (R201; checks R200, answer R213). -/
def execQuerySetting (link : Link) (tag part : Byte) (args : List Byte) (s : State) : Host.Outcome State Fault Refusal :=
  .next (queryArrives .setting link tag part args s)

/-- QUERY_LINK (R201; checks R200, answer R213). -/
def execQueryLink (link : Link) (tag part : Byte) (args : List Byte) (s : State) : Host.Outcome State Fault Refusal :=
  .next (queryArrives .link link tag part args s)

end Sys2Proof.Machine
end

