-- ==== Sys2Proof/Machine/CommandsRequest.lean ====
section
/-! DEFINITION. The meanings of the commands: the requests. One definition per row of the table. -/

namespace Sys2Proof.Machine

/-- RECALL (R79; checks R195, body R208). -/
def execRecall (link : Link) (tag : Byte) (body : List Byte) (s : State) : Host.Outcome State Fault Refusal :=
  .next (requestArrives .recall link tag body s)

/-- RECALL_INDEX (R80; checks R195, body R208). -/
def execRecallIndex (link : Link) (tag : Byte) (body : List Byte) (s : State) : Host.Outcome State Fault Refusal :=
  .next (requestArrives .recallIndex link tag body s)

/-- WINDOW_SET (R78; checks R195, body R208). -/
def execWindowSet (link : Link) (tag : Byte) (body : List Byte) (s : State) : Host.Outcome State Fault Refusal :=
  .next (requestArrives .windowSet link tag body s)

/-- EDIT (R70; checks R195, body R208). -/
def execEdit (link : Link) (tag : Byte) (body : List Byte) (s : State) : Host.Outcome State Fault Refusal :=
  .next (requestArrives .edit link tag body s)

/-- STORE (R73; checks R195, body R208). -/
def execStore (link : Link) (tag : Byte) (body : List Byte) (s : State) : Host.Outcome State Fault Refusal :=
  .next (requestArrives .store link tag body s)

/-- CURVE_BEGIN (R33; checks R195, body R208). -/
def execCurveBegin (link : Link) (tag : Byte) (body : List Byte) (s : State) : Host.Outcome State Fault Refusal :=
  .next (requestArrives .curveBegin link tag body s)

/-- CURVE_PUT (R34; checks R195, body R208). -/
def execCurvePut (link : Link) (tag : Byte) (body : List Byte) (s : State) : Host.Outcome State Fault Refusal :=
  .next (requestArrives .curvePut link tag body s)

/-- IMPULSE_BEGIN (R33; checks R195, body R208). -/
def execImpulseBegin (link : Link) (tag : Byte) (body : List Byte) (s : State) : Host.Outcome State Fault Refusal :=
  .next (requestArrives .impulseBegin link tag body s)

/-- IMPULSE_PUT (R34; checks R195, body R208). -/
def execImpulsePut (link : Link) (tag : Byte) (body : List Byte) (s : State) : Host.Outcome State Fault Refusal :=
  .next (requestArrives .impulsePut link tag body s)

/-- PRESET_BEGIN (R39; checks R195, body R208). -/
def execPresetBegin (link : Link) (tag : Byte) (body : List Byte) (s : State) : Host.Outcome State Fault Refusal :=
  .next (requestArrives .presetBegin link tag body s)

/-- PRESET_PUT (R40; checks R195, body R208). -/
def execPresetPut (link : Link) (tag : Byte) (body : List Byte) (s : State) : Host.Outcome State Fault Refusal :=
  .next (requestArrives .presetPut link tag body s)

/-- PRESET_END (R44; checks R195, body R208). -/
def execPresetEnd (link : Link) (tag : Byte) (body : List Byte) (s : State) : Host.Outcome State Fault Refusal :=
  .next (requestArrives .presetEnd link tag body s)

/-- PRESET_ERASE (R44; checks R195, body R208). -/
def execPresetErase (link : Link) (tag : Byte) (body : List Byte) (s : State) : Host.Outcome State Fault Refusal :=
  .next (requestArrives .presetErase link tag body s)

/-- MAP_SET (R46; checks R195, body R208). -/
def execMapSet (link : Link) (tag : Byte) (body : List Byte) (s : State) : Host.Outcome State Fault Refusal :=
  .next (requestArrives .mapSet link tag body s)

/-- PROFILE_PUT (R48; checks R195, body R208). -/
def execProfilePut (link : Link) (tag : Byte) (body : List Byte) (s : State) : Host.Outcome State Fault Refusal :=
  .next (requestArrives .profilePut link tag body s)

/-- INSTRUMENT_SELECT (R49; checks R195, body R208). -/
def execInstrumentSelect (link : Link) (tag : Byte) (body : List Byte) (s : State) : Host.Outcome State Fault Refusal :=
  .next (requestArrives .instrumentSelect link tag body s)

/-- PEDAL (R97; checks R195, body R208). -/
def execPedal (link : Link) (tag : Byte) (body : List Byte) (s : State) : Host.Outcome State Fault Refusal :=
  .next (requestArrives .pedal link tag body s)

/-- TAP (R104; checks R195, body R208). -/
def execTap (link : Link) (tag : Byte) (body : List Byte) (s : State) : Host.Outcome State Fault Refusal :=
  .next (requestArrives .tap link tag body s)

/-- TEMPO (R105; checks R195, body R208). -/
def execTempo (link : Link) (tag : Byte) (body : List Byte) (s : State) : Host.Outcome State Fault Refusal :=
  .next (requestArrives .tempo link tag body s)

/-- TUNER_ENGAGE (R115; checks R195, body R208). -/
def execTunerEngage (link : Link) (tag : Byte) (body : List Byte) (s : State) : Host.Outcome State Fault Refusal :=
  .next (requestArrives .tunerEngage link tag body s)

/-- TUNER_RELEASE (R116; checks R195, body R208). -/
def execTunerRelease (link : Link) (tag : Byte) (body : List Byte) (s : State) : Host.Outcome State Fault Refusal :=
  .next (requestArrives .tunerRelease link tag body s)

/-- MUTE (R144; checks R195, body R208). -/
def execMute (link : Link) (tag : Byte) (body : List Byte) (s : State) : Host.Outcome State Fault Refusal :=
  .next (requestArrives .mute link tag body s)

/-- ACK (R164; checks R195, body R208). -/
def execAck (link : Link) (tag : Byte) (body : List Byte) (s : State) : Host.Outcome State Fault Refusal :=
  .next (requestArrives .ack link tag body s)

/-- FORCE (R166; checks R195, body R208). -/
def execForce (link : Link) (tag : Byte) (body : List Byte) (s : State) : Host.Outcome State Fault Refusal :=
  .next (requestArrives .force link tag body s)

/-- CAPTURE_CLEAR (R176; checks R195, body R208). -/
def execCaptureClear (link : Link) (tag : Byte) (body : List Byte) (s : State) : Host.Outcome State Fault Refusal :=
  .next (requestArrives .captureClear link tag body s)

/-- SUBSCRIBE (R181; checks R195, body R208). -/
def execSubscribe (link : Link) (tag : Byte) (body : List Byte) (s : State) : Host.Outcome State Fault Refusal :=
  .next (requestArrives .subscribe link tag body s)

/-- RESET (R205; checks R195, body R208). -/
def execReset (link : Link) (tag : Byte) (body : List Byte) (s : State) : Host.Outcome State Fault Refusal :=
  .next (requestArrives .reset link tag body s)

end Sys2Proof.Machine
end

