-- ==== Sys2Proof/Machine/CommandsSetting.lean ====
section
/-! DEFINITION. The meanings of the commands: the settings. One definition per row of the table. -/

namespace Sys2Proof.Machine

/-- SETTING_PRESENCE_FLOOR (R5; checks R199, range R214). -/
def execSettingPresenceFloor (link : Link) (tag : Byte) (value : BitVec 24) (s : State) : Host.Outcome State Fault Refusal :=
  .next (settingArrives .presenceFloor link tag value s)

/-- SETTING_TENURE (R87; checks R199): the tenure setting of the link `of`. -/
def execSettingTenure (link : Link) (tag : Byte) (of : Link) (value : BitVec 24) (s : State) : Host.Outcome State Fault Refusal :=
  .next (settingArrives (.tenure of) link tag value s)

/-- SETTING_REFERENCE_PITCH (R133; checks R199, range R214). -/
def execSettingReferencePitch (link : Link) (tag : Byte) (value : BitVec 24) (s : State) : Host.Outcome State Fault Refusal :=
  .next (settingArrives .referencePitch link tag value s)

/-- SETTING_HYSTERESIS (R133; checks R199, range R214). -/
def execSettingHysteresis (link : Link) (tag : Byte) (value : BitVec 24) (s : State) : Host.Outcome State Fault Refusal :=
  .next (settingArrives .hysteresis link tag value s)

/-- SETTING_W_IN (R133; checks R199, range R214). -/
def execSettingWIn (link : Link) (tag : Byte) (value : BitVec 24) (s : State) : Host.Outcome State Fault Refusal :=
  .next (settingArrives .wIn link tag value s)

/-- SETTING_W_NEAR (R133; checks R199, range R214). -/
def execSettingWNear (link : Link) (tag : Byte) (value : BitVec 24) (s : State) : Host.Outcome State Fault Refusal :=
  .next (settingArrives .wNear link tag value s)

/-- SETTING_TUNER_MUTE_SET (R133; checks R199, range R214). -/
def execSettingTunerMuteSet (link : Link) (tag : Byte) (value : BitVec 24) (s : State) : Host.Outcome State Fault Refusal :=
  .next (settingArrives .tunerMuteSet link tag value s)

/-- SETTING_SAFETY_TIMER (R147; checks R199, range R214). -/
def execSettingSafetyTimer (link : Link) (tag : Byte) (value : BitVec 24) (s : State) : Host.Outcome State Fault Refusal :=
  .next (settingArrives .safetyTimer link tag value s)

/-- SETTING_ATTENUATION (R150; checks R199, range R214). -/
def execSettingAttenuation (link : Link) (tag : Byte) (value : BitVec 24) (s : State) : Host.Outcome State Fault Refusal :=
  .next (settingArrives .attenuation link tag value s)

/-- SETTING_OVER_THRESHOLD (R167; checks R199, range R214). -/
def execSettingOverThreshold (link : Link) (tag : Byte) (value : BitVec 24) (s : State) : Host.Outcome State Fault Refusal :=
  .next (settingArrives .overThreshold link tag value s)

/-- SETTING_DC_THRESHOLD (R167; checks R199, range R214). -/
def execSettingDcThreshold (link : Link) (tag : Byte) (value : BitVec 24) (s : State) : Host.Outcome State Fault Refusal :=
  .next (settingArrives .dcThreshold link tag value s)

/-- SETTING_LOSS_FLOOR (R167; checks R199, range R214). -/
def execSettingLossFloor (link : Link) (tag : Byte) (value : BitVec 24) (s : State) : Host.Outcome State Fault Refusal :=
  .next (settingArrives .lossFloor link tag value s)

/-- SETTING_T_OVER (R168; checks R199, range R214). -/
def execSettingTOver (link : Link) (tag : Byte) (value : BitVec 24) (s : State) : Host.Outcome State Fault Refusal :=
  .next (settingArrives .tOver link tag value s)

/-- SETTING_T_DC (R168; checks R199, range R214). -/
def execSettingTDc (link : Link) (tag : Byte) (value : BitVec 24) (s : State) : Host.Outcome State Fault Refusal :=
  .next (settingArrives .tDc link tag value s)

/-- SETTING_T_LOSS (R168; checks R199, range R214). -/
def execSettingTLoss (link : Link) (tag : Byte) (value : BitVec 24) (s : State) : Host.Outcome State Fault Refusal :=
  .next (settingArrives .tLoss link tag value s)

end Sys2Proof.Machine
end

