-- ==== Sys2Proof/Machine/CommandsTime.lean ====
section
/-! DEFINITION. The meanings of the commands: power-on, audio time and the part's own events. One definition per row of the table. -/

namespace Sys2Proof.Machine

/-- POWER_ON (R177): every block at its power-on values, the capture holding POWER_ON. The levels of the lines stay (log 8), and
so do the commands that wait. -/
def execPowerOn (s : State) : Host.Outcome State Fault Refusal :=
  .next (powerOn s)

/-- INPUT_FRAME (R3): one input frame; channel 1 is ignored (1.3 of 00_scope.md). -/
def execInputFrame (ch0 _ch1 : Slot) (s : State) : Host.Outcome State Fault Refusal :=
  .next (beside none (inputFrame (slotSample ch0)) s)

/-- IFE_BLOCK_BOUNDARY (R6): the boundary that opens the coming frame, if the coming frame has one (log 3). -/
def execIfeBlockBoundary (s : State) : Host.Outcome State Fault Refusal :=
  .next (outside frontEndBoundary s)

/-- LANE_BLOCK_BOUNDARY (R24): the boundary that opens the lane's coming frame, if the coming frame has one (log 3). -/
def execLaneBlockBoundary (lane : LaneId) (s : State) : Host.Outcome State Fault Refusal :=
  .next (outside (laneBoundary lane) s)

/-- DC_WINDOW_END, taken if it is due (R158: the frame judged last was the 4,096th of the window). -/
def execDcWindowEnd (s : State) : Host.Outcome State Fault Refusal :=
  .next (happen .dcWindowEnd s)

/-- FLAG_LATCH, taken if it is due (R160: the pair's count has come to T·48 with the flag clear). -/
def execFlagLatch (bus : Bus) (cls : ProtClass) (s : State) : Host.Outcome State Fault Refusal :=
  .next (happen (.flagLatch bus cls) s)

/-- DECIMATED_SAMPLE, taken if it is due (R119: the decimator holds eight samples). -/
def execDecimatedSample (s : State) : Host.Outcome State Fault Refusal :=
  .next (happen .decimatedSample s)

/-- TUNER_STALE, taken if it is due (R118: the stale count has come to 1,500). -/
def execTunerStale (s : State) : Host.Outcome State Fault Refusal :=
  .next (happen .tunerStale s)

/-- TAIL_TIMER_EXPIRY, taken if it is due (R64: the tail timer of the TAILING lane is 0). -/
def execTailTimerExpiry (lane : LaneId) (s : State) : Host.Outcome State Fault Refusal :=
  .next (happen (.tailTimerExpiry lane) s)

/-- TAIL_FLOOR_END, taken if it is due (R64: the floor counter of the TAILING lane has come to 4,800). -/
def execTailFloorEnd (lane : LaneId) (s : State) : Host.Outcome State Fault Refusal :=
  .next (happen (.tailFloorEnd lane) s)

/-- CUT_END, taken if it is due (R64: the output ramp of the CUTTING lane is 0). -/
def execCutEnd (lane : LaneId) (s : State) : Host.Outcome State Fault Refusal :=
  .next (happen (.cutEnd lane) s)

/-- DIP_OUT_END, taken if it is due (R66: every lane is IDLE or at output ramp 0). -/
def execDipOutEnd (s : State) : Host.Outcome State Fault Refusal :=
  .next (happen .dipOutEnd s)

/-- FADE_COMPLETE, taken if it is due (R63: in phase CROSS j has come to F). -/
def execFadeComplete (s : State) : Host.Outcome State Fault Refusal :=
  .next (happen .fadeComplete s)

/-- DIP_COMPLETE, taken if it is due (R68: in phase DIP_IN j has come to F). -/
def execDipComplete (s : State) : Host.Outcome State Fault Refusal :=
  .next (happen .dipComplete s)

/-- TENURE_EXPIRY, taken if it is due (R88: the running tenure's count is 0). -/
def execTenureExpiry (s : State) : Host.Outcome State Fault Refusal :=
  .next (happen .tenureExpiry s)

/-- SAFETY_TIMER_EXPIRY, taken if it is due (R146: the safety timer has run down to 0). -/
def execSafetyTimerExpiry (s : State) : Host.Outcome State Fault Refusal :=
  .next (happen .safetyTimerExpiry s)

/-- GAP_TIMEOUT, taken if it is due (R189: the gap count has come to 3). -/
def execGapTimeout (link : Link) (s : State) : Host.Outcome State Fault Refusal :=
  .next (happen (.gapTimeout link) s)

/-- LINK_DROP, taken if it is due (R203: the break count has come to 10 and this break has not been judged). -/
def execLinkDrop (link : Link) (s : State) : Host.Outcome State Fault Refusal :=
  .next (happen (.linkDrop link) s)

/-- SOFT_RESET, taken if it is due (R205, R206: the RESET's OK has been sent). -/
def execSoftReset (s : State) : Host.Outcome State Fault Refusal :=
  .next (happen .softReset s)

end Sys2Proof.Machine
end

