-- ==== Sys2Proof/Machine/Dispatch.lean ====
section
/-! DEFINITION. The dispatch: one arm per command, each a call of that command's own meaning. -/

namespace Sys2Proof.Machine

def exec (i : Instr) (s : State) : Host.Outcome State Fault Refusal :=
  match i with
  | .powerOn => Sys2Proof.Machine.execPowerOn s
  | .inputFrame ch0 ch1 => Sys2Proof.Machine.execInputFrame ch0 ch1 s
  | .ifeBlockBoundary => Sys2Proof.Machine.execIfeBlockBoundary s
  | .laneBlockBoundary lane => Sys2Proof.Machine.execLaneBlockBoundary lane s
  | .dcWindowEnd => Sys2Proof.Machine.execDcWindowEnd s
  | .flagLatch bus cls => Sys2Proof.Machine.execFlagLatch bus cls s
  | .decimatedSample => Sys2Proof.Machine.execDecimatedSample s
  | .tunerStale => Sys2Proof.Machine.execTunerStale s
  | .fadeComplete => Sys2Proof.Machine.execFadeComplete s
  | .dipOutEnd => Sys2Proof.Machine.execDipOutEnd s
  | .dipComplete => Sys2Proof.Machine.execDipComplete s
  | .tailTimerExpiry lane => Sys2Proof.Machine.execTailTimerExpiry lane s
  | .tailFloorEnd lane => Sys2Proof.Machine.execTailFloorEnd lane s
  | .cutEnd lane => Sys2Proof.Machine.execCutEnd lane s
  | .tenureExpiry => Sys2Proof.Machine.execTenureExpiry s
  | .safetyTimerExpiry => Sys2Proof.Machine.execSafetyTimerExpiry s
  | .gapTimeout link => Sys2Proof.Machine.execGapTimeout link s
  | .breakEnd link => Sys2Proof.Machine.execBreakEnd link s
  | .linkDrop link => Sys2Proof.Machine.execLinkDrop link s
  | .badFrame link => Sys2Proof.Machine.execBadFrame link s
  | .badCheck link => Sys2Proof.Machine.execBadCheck link s
  | .overrun link => Sys2Proof.Machine.execOverrun link s
  | .unknownRequest link type tag body => Sys2Proof.Machine.execUnknownRequest link type tag body s
  | .messageSent link => Sys2Proof.Machine.execMessageSent link s
  | .softReset => Sys2Proof.Machine.execSoftReset s
  | .recall link tag body => Sys2Proof.Machine.execRecall link tag body s
  | .recallIndex link tag body => Sys2Proof.Machine.execRecallIndex link tag body s
  | .windowSet link tag body => Sys2Proof.Machine.execWindowSet link tag body s
  | .edit link tag body => Sys2Proof.Machine.execEdit link tag body s
  | .store link tag body => Sys2Proof.Machine.execStore link tag body s
  | .curveBegin link tag body => Sys2Proof.Machine.execCurveBegin link tag body s
  | .curvePut link tag body => Sys2Proof.Machine.execCurvePut link tag body s
  | .impulseBegin link tag body => Sys2Proof.Machine.execImpulseBegin link tag body s
  | .impulsePut link tag body => Sys2Proof.Machine.execImpulsePut link tag body s
  | .presetBegin link tag body => Sys2Proof.Machine.execPresetBegin link tag body s
  | .presetPut link tag body => Sys2Proof.Machine.execPresetPut link tag body s
  | .presetEnd link tag body => Sys2Proof.Machine.execPresetEnd link tag body s
  | .presetErase link tag body => Sys2Proof.Machine.execPresetErase link tag body s
  | .mapSet link tag body => Sys2Proof.Machine.execMapSet link tag body s
  | .profilePut link tag body => Sys2Proof.Machine.execProfilePut link tag body s
  | .instrumentSelect link tag body => Sys2Proof.Machine.execInstrumentSelect link tag body s
  | .pedal link tag body => Sys2Proof.Machine.execPedal link tag body s
  | .tap link tag body => Sys2Proof.Machine.execTap link tag body s
  | .tempo link tag body => Sys2Proof.Machine.execTempo link tag body s
  | .tunerEngage link tag body => Sys2Proof.Machine.execTunerEngage link tag body s
  | .tunerRelease link tag body => Sys2Proof.Machine.execTunerRelease link tag body s
  | .mute link tag body => Sys2Proof.Machine.execMute link tag body s
  | .ack link tag body => Sys2Proof.Machine.execAck link tag body s
  | .force link tag body => Sys2Proof.Machine.execForce link tag body s
  | .captureClear link tag body => Sys2Proof.Machine.execCaptureClear link tag body s
  | .subscribe link tag body => Sys2Proof.Machine.execSubscribe link tag body s
  | .reset link tag body => Sys2Proof.Machine.execReset link tag body s
  | .settingPresenceFloor link tag value => Sys2Proof.Machine.execSettingPresenceFloor link tag value s
  | .settingTenure link tag of value => Sys2Proof.Machine.execSettingTenure link tag of value s
  | .settingReferencePitch link tag value => Sys2Proof.Machine.execSettingReferencePitch link tag value s
  | .settingHysteresis link tag value => Sys2Proof.Machine.execSettingHysteresis link tag value s
  | .settingWIn link tag value => Sys2Proof.Machine.execSettingWIn link tag value s
  | .settingWNear link tag value => Sys2Proof.Machine.execSettingWNear link tag value s
  | .settingTunerMuteSet link tag value => Sys2Proof.Machine.execSettingTunerMuteSet link tag value s
  | .settingSafetyTimer link tag value => Sys2Proof.Machine.execSettingSafetyTimer link tag value s
  | .settingAttenuation link tag value => Sys2Proof.Machine.execSettingAttenuation link tag value s
  | .settingOverThreshold link tag value => Sys2Proof.Machine.execSettingOverThreshold link tag value s
  | .settingDcThreshold link tag value => Sys2Proof.Machine.execSettingDcThreshold link tag value s
  | .settingLossFloor link tag value => Sys2Proof.Machine.execSettingLossFloor link tag value s
  | .settingTOver link tag value => Sys2Proof.Machine.execSettingTOver link tag value s
  | .settingTDc link tag value => Sys2Proof.Machine.execSettingTDc link tag value s
  | .settingTLoss link tag value => Sys2Proof.Machine.execSettingTLoss link tag value s
  | .queryWorkingSceneGroup link tag part args => Sys2Proof.Machine.execQueryWorkingSceneGroup link tag part args s
  | .queryLibraryGroup link tag part args => Sys2Proof.Machine.execQueryLibraryGroup link tag part args s
  | .queryStoreRecordState link tag part args => Sys2Proof.Machine.execQueryStoreRecordState link tag part args s
  | .queryMapEntry link tag part args => Sys2Proof.Machine.execQueryMapEntry link tag part args s
  | .queryProfile link tag part args => Sys2Proof.Machine.execQueryProfile link tag part args s
  | .queryActiveProfile link tag part args => Sys2Proof.Machine.execQueryActiveProfile link tag part args s
  | .queryWindow link tag part args => Sys2Proof.Machine.execQueryWindow link tag part args s
  | .queryTempo link tag part args => Sys2Proof.Machine.execQueryTempo link tag part args s
  | .queryTuner link tag part args => Sys2Proof.Machine.execQueryTuner link tag part args s
  | .queryMute link tag part args => Sys2Proof.Machine.execQueryMute link tag part args s
  | .queryProtectionFlags link tag part args => Sys2Proof.Machine.execQueryProtectionFlags link tag part args s
  | .queryCapture link tag part args => Sys2Proof.Machine.execQueryCapture link tag part args s
  | .queryLaneStates link tag part args => Sys2Proof.Machine.execQueryLaneStates link tag part args s
  | .querySetting link tag part args => Sys2Proof.Machine.execQuerySetting link tag part args s
  | .queryLink link tag part args => Sys2Proof.Machine.execQueryLink link tag part args s
  | .byteReceived link byte => Sys2Proof.Machine.execByteReceived link byte s
  | .breakBegins link => Sys2Proof.Machine.execBreakBegins link s
  | .controlMillisecond => Sys2Proof.Machine.execControlMillisecond s

end Sys2Proof.Machine
end

