-- ==== Sys2Proof/Safety.lean ====
section
/-! DEFINITION. The terms in which claims are stated: what a step may change, what a link gives and announces, when a command
meets its plain case, and the laws that every step keeps. -/

namespace Sys2Proof.Machine

/-! ### Frames -/

/-- The parts of State a claim can name. -/
inductive Block where
  | pending
  | frontEnd
  | lanes
  | stores
  | engine
  | arbiter
  | control
  | tuner
  | mixer
  | protection
  | capture
  | links
  | resetDue
deriving DecidableEq, Repr

/-- Whether two states agree on one part. -/
def Block.same (b : Block) (s t : State) : Prop :=
  match b with
  | .pending => t.pending = s.pending
  | .frontEnd => t.frontEnd = s.frontEnd
  | .lanes => t.lanes = s.lanes
  | .stores => t.stores = s.stores
  | .engine => t.engine = s.engine
  | .arbiter => t.arbiter = s.arbiter
  | .control => t.control = s.control
  | .tuner => t.tuner = s.tuner
  | .mixer => t.mixer = s.mixer
  | .protection => t.protection = s.protection
  | .capture => t.capture = s.capture
  | .links => t.links = s.links
  | .resetDue => t.resetDue = s.resetDue

/-- From s to t nothing changes outside the parts listed. -/
def changesOnly (bs : List Block) (s t : State) : Prop := ∀ b : Block, b ∉ bs → b.same s t

/-! ### Links -/

/-- A Link Interface without its transmitter and its pending flags, which announcements move. -/
def LinkIf.core (x : LinkIf) : LinkIf := { x with tx := .free, flags := .none }

/-- Nothing of any link changes but transmitters and pending flags. -/
def linksKept (s t : State) : Prop := ∀ k : Link, (t.link k).core = (s.link k).core

/-- The links after one response on link l, apart from transmitters and pending flags: the message joins that link's queue,
its receiver stands in HUNT, and nothing else changes. -/
def respondsWith (l : Link) (m : Message) (s t : State) : Prop :=
  (t.link l).core = { (s.link l).core with rx := .hunt, gap := 0, queue := (s.link l).queue ++ [m] } ∧
    ∀ k : Link, k ≠ l → (t.link k).core = (s.link k).core

/-- Whether a notice of a class has started on link k between two states. -/
def startedNotice (k : Link) (c : NoticeClass) (s t : State) : Prop :=
  (s.link k).tx = .free ∧ ∃ frame, (t.link k).tx = .notice c frame

/-- What s to t announces: on a link subscribed to a class that is raised on it the notice is pending or has started, a
notice that was pending still is or has started, no other becomes pending, and a message being sent goes on. -/
def announces (raised : Link → NoticeClass → Bool) (s t : State) : Prop :=
  ∀ k : Link,
    ((s.link k).tx ≠ .free → (t.link k).tx = (s.link k).tx) ∧
    ∀ c : NoticeClass,
      (((s.link k).flags.has c = true ∨ (raised k c = true ∧ (s.link k).mask.has c = true)) →
        ((t.link k).flags.has c = true ∨ startedNotice k c s t)) ∧
      ((t.link k).flags.has c = true →
        ((s.link k).flags.has c = true ∨ (raised k c = true ∧ (s.link k).mask.has c = true)))

/-- No class is raised. -/
def noClass : Link → NoticeClass → Bool := fun _ _ => false

/-- One class is raised, on every link. -/
def oneClass (c : NoticeClass) : Link → NoticeClass → Bool := fun _ d => d == c

/-! ### Plain cases -/

/-- No event of the part is due. -/
def quiet (s : State) : Bool := events.all (fun e => !due e s)

/-- A link whose line is at idle level and which is not closing, in a state in which nothing is due. -/
def listening (l : Link) (s : State) : Bool := quiet s && !(s.link l).lineLow && !(s.link l).closing

/-- A link on which a request is accepted: it is listening and has a free response slot (R193). -/
def accepting (l : Link) (s : State) : Bool := listening l s && decide ((s.link l).occupied < Config.responseSlots)

/-- The command that is an event's own row. -/
def Event.command : Event → Instr
  | .dcWindowEnd => .dcWindowEnd
  | .flagLatch b c => .flagLatch b c
  | .decimatedSample => .decimatedSample
  | .tunerStale => .tunerStale
  | .tailTimerExpiry x => .tailTimerExpiry x
  | .tailFloorEnd x => .tailFloorEnd x
  | .cutEnd x => .cutEnd x
  | .dipOutEnd => .dipOutEnd
  | .fadeComplete => .fadeComplete
  | .dipComplete => .dipComplete
  | .gapTimeout l => .gapTimeout l
  | .linkDrop l => .linkDrop l
  | .safetyTimerExpiry => .safetyTimerExpiry
  | .tenureExpiry => .tenureExpiry
  | .softReset => .softReset

/-- The row of a request type other than SETTING and QUERY, with a body. -/
def ReqType.command (t : ReqType) (l : Link) (tag : Byte) (body : List Byte) : Option Instr :=
  match t with
  | .recall => some (.recall l tag body)
  | .recallIndex => some (.recallIndex l tag body)
  | .windowSet => some (.windowSet l tag body)
  | .edit => some (.edit l tag body)
  | .store => some (.store l tag body)
  | .curveBegin => some (.curveBegin l tag body)
  | .curvePut => some (.curvePut l tag body)
  | .impulseBegin => some (.impulseBegin l tag body)
  | .impulsePut => some (.impulsePut l tag body)
  | .presetBegin => some (.presetBegin l tag body)
  | .presetPut => some (.presetPut l tag body)
  | .presetEnd => some (.presetEnd l tag body)
  | .presetErase => some (.presetErase l tag body)
  | .mapSet => some (.mapSet l tag body)
  | .profilePut => some (.profilePut l tag body)
  | .instrumentSelect => some (.instrumentSelect l tag body)
  | .pedal => some (.pedal l tag body)
  | .tap => some (.tap l tag body)
  | .tempo => some (.tempo l tag body)
  | .tunerEngage => some (.tunerEngage l tag body)
  | .tunerRelease => some (.tunerRelease l tag body)
  | .mute => some (.mute l tag body)
  | .ack => some (.ack l tag body)
  | .force => some (.force l tag body)
  | .captureClear => some (.captureClear l tag body)
  | .subscribe => some (.subscribe l tag body)
  | .setting => none
  | .query => none
  | .reset => some (.reset l tag body)

/-- The row of a setting. -/
def Setting.command (t : Setting) (l : Link) (tag : Byte) (value : BitVec 24) : Instr :=
  match t with
  | .presenceFloor => .settingPresenceFloor l tag value
  | .tenure k => .settingTenure l tag k value
  | .referencePitch => .settingReferencePitch l tag value
  | .hysteresis => .settingHysteresis l tag value
  | .wIn => .settingWIn l tag value
  | .wNear => .settingWNear l tag value
  | .tunerMuteSet => .settingTunerMuteSet l tag value
  | .safetyTimer => .settingSafetyTimer l tag value
  | .attenuation => .settingAttenuation l tag value
  | .overThreshold => .settingOverThreshold l tag value
  | .dcThreshold => .settingDcThreshold l tag value
  | .lossFloor => .settingLossFloor l tag value
  | .tOver => .settingTOver l tag value
  | .tDc => .settingTDc l tag value
  | .tLoss => .settingTLoss l tag value

/-- The row of a query item. -/
def Item.command (it : Item) (l : Link) (tag part : Byte) (args : List Byte) : Instr :=
  match it with
  | .sceneGroup => .queryWorkingSceneGroup l tag part args
  | .libraryGroup => .queryLibraryGroup l tag part args
  | .recordState => .queryStoreRecordState l tag part args
  | .mapEntry => .queryMapEntry l tag part args
  | .profile => .queryProfile l tag part args
  | .activeProfile => .queryActiveProfile l tag part args
  | .window => .queryWindow l tag part args
  | .tempo => .queryTempo l tag part args
  | .tuner => .queryTuner l tag part args
  | .mute => .queryMute l tag part args
  | .protection => .queryProtectionFlags l tag part args
  | .capture => .queryCapture l tag part args
  | .laneStates => .queryLaneStates l tag part args
  | .setting => .querySetting l tag part args
  | .link => .queryLink l tag part args

/-- The response that carries a result alone (R211). -/
def resultMessage (t : ReqType) (tag : Byte) (r : Result) : Message := ⟨t.responseCode, tag, [r.code]⟩

/-- From s to t a request from link l is answered with a result, changes the parts listed, and raises the classes given. -/
def carriedOut (t : ReqType) (l : Link) (tag : Byte) (r : Result) (bs : List Block) (raised : Link → NoticeClass → Bool)
    (s s' : State) : Prop :=
  changesOnly (.links :: bs) s s' ∧ respondsWith l (resultMessage t tag r) s s' ∧ announces raised s s'

/-- From s to t a request from link l is refused: it changes nothing but the links that carry its response. -/
def refusedWith (t : ReqType) (l : Link) (tag : Byte) (r : Result) (s s' : State) : Prop :=
  carriedOut t l tag r [] noClass s s'

/-! ### Laws -/

/-- Every addressed table is in canonical form. -/
def tablesCanonical (s : State) : Bool :=
  tableWf .initial s.stores.curves && s.stores.curves.all (fun kv => tableWf 0 kv.2.values) &&
    tableWf .initial s.stores.impulses && s.stores.impulses.all (fun kv => tableWf 0 kv.2.values) &&
    tableWf .empty s.stores.presets && tableWf none s.stores.bankMap && tableWf .standard s.stores.profiles &&
    tableWf 0 s.lanes.a.delayHalf && tableWf 0 s.lanes.b.delayHalf

/-- No free transmitter has anything to send (R182), but for the CREW link once the soft reset is due (R205), and for notices on
a link whose drop is due (R204) or while Bus Protection is still handling a frame (R156). -/
def transmittersServed (s : State) : Bool :=
  [Link.player, .crew, .showControl].all (fun k =>
    (s.link k).tx != .free || ((s.link k).queue.isEmpty && ((s.link k).flags == .none || (s.link k).held s)) ||
      (k == .crew && s.resetDue))

/-- The responses that a link still owes: one for the recall that waits in its slot, one for the transition it originated. -/
def owedBy (a : Arbiter) (k : Link) : Nat :=
  (if (a.slots.get k).isSome then 1 else 0) +
    (match a.grant with
      | some g => if g.owed && g.origin == k then 1 else 0
      | none => 0)

/-- The slot law (R192): reserved slots are the responses owed, reserved and queued ones are never more than eight, and a
grant record stands only while a transition is in flight. -/
def slotLaw (s : State) : Bool :=
  [Link.player, .crew, .showControl].all (fun k =>
    (s.link k).reserved == owedBy s.arbiter k && decide ((s.link k).occupied ≤ Config.responseSlots)) &&
    (s.arbiter.grant.isNone || s.engine.transition.isSome)

/-- A value of the level or drive format: sixteen bits (R1). -/
def level16 (v : Nat) : Bool := decide (v < 65536)

/-- A value of the coefficient or tap format: the sample range (R1). -/
def coef24 (v : Int) : Bool := decide (Config.sampleMin ≤ v) && decide (v ≤ Config.sampleMax)

/-- A DRIVE or POWER group is legal (R38, R41). -/
def Shaper.legal (v : Shaper) : Bool := level16 v.pre && decide (v.curve ≤ 7) && level16 v.post

/-- A tone section's coefficients are legal (R1). -/
def Coefs.legal (v : Coefs) : Bool := coef24 v.b0 && coef24 v.b1 && coef24 v.b2 && coef24 v.a1 && coef24 v.a2

/-- The chain groups of a chain are legal (R38, R41). -/
def Chain.legal (c : Chain) : Bool :=
  decide (c.gate.openAt ≤ 8388607) && decide (c.gate.closeAt ≤ c.gate.openAt) && decide (4 ≤ c.gate.release) &&
    decide (c.gate.release ≤ 15) && c.drive.legal && c.tone1.legal && c.tone2.legal && c.tone3.legal && c.power.legal &&
    c.cab.all (fun i => decide (i ≤ 15)) && decide (c.delay.fixedLength ≤ 96000) && decide (c.delay.division ≤ 8) &&
    decide (c.delay.feedback ≤ Config.feedbackMax) && level16 c.delay.dry && level16 c.delay.wet && level16 c.level

/-- An assignment of a scene of a kind is legal (R42). -/
def Assign.legal (kind : Kind) (x : Assign) : Bool :=
  level16 x.low && level16 x.high &&
    (x.target != .delayFeedback || (decide (x.low ≤ Config.feedbackMax) && decide (x.high ≤ Config.feedbackMax))) &&
    (kind == .dual || x.chain == .a)

/-- A preset's content is legal (R38, R41, R42, R43): every field in its range, at most four assignments with no two on one
target of a common chain, chain B exactly in a DUAL. -/
def Preset.legal (p : Preset) : Bool :=
  decide (p.label.length = 12) && decide (32 ≤ p.fade) && decide (p.fade ≤ 4800) && decide (p.tailHold ≤ 10000) &&
    level16 p.levels.foh && level16 p.levels.mon && level16 p.levels.amp &&
    decide (p.expression.length ≤ 4) && p.expression.all (Assign.legal p.kind) && !anyClash p.expression &&
    p.tempo.all (fun b => decide (2000 ≤ b) && decide (b ≤ 24000)) &&
    p.chainA.legal && p.chainB.all Chain.legal && ((p.kind == .dual) == p.chainB.isSome)

/-- The content of a preset record, if it has any, satisfies f. -/
def PresetRec.holds (f : Preset → Bool) : PresetRec → Bool
  | .empty => true
  | .filling p => f p
  | .valid p => f p

/-- The law of presets (R41, R42, R43): every preset the part holds, in the library, as the working scene and in the
transition record, is legal. -/
def presetLaw (s : State) : Bool :=
  s.stores.presets.all (fun kv => kv.2.holds Preset.legal) && s.engine.scene.all (fun sc => sc.preset.legal) &&
    s.engine.transition.all (fun t => t.copied.legal)

/-- What the weight of a lane must be (R61, R62, R63, R67): unity while LIVE, and in CROSS and DIP_IN the weight that the
ramp position gives, or for the outgoing lane what is left of unity. -/
def weightLegal (e : Engine) (l : Lane) : Bool :=
  match l.state, e.transition with
  | .live, _ => l.weight == Config.weightUnity
  | .incoming, some t => (t.phase == .cross || t.phase == .dipIn) && l.weight == crossWeight t.j t.fade
  | .outgoing, some t => t.phase == .cross && l.weight == Config.weightUnity - crossWeight t.j t.fade
  | .incoming, none => false
  | .outgoing, none => false
  | _, _ => true

/-- A transition's phase and target lane fit its kind (R55, R58). -/
def Transition.legal (t : Transition) : Bool :=
  match t.kind with
  | .fade => t.target.isSome && (t.phase == .prepare || t.phase == .cross)
  | .dip => t.target.isNone && (t.phase == .dipOut || t.phase == .dipIn)

/-- The weight law: every lane's weight is legal, and the transition is legal with its ramp position at most its fade length. -/
def weightLaw (s : State) : Bool :=
  weightLegal s.engine s.lanes.a && weightLegal s.engine s.lanes.b &&
    s.engine.transition.all (fun t =>
      t.legal && decide (32 ≤ t.fade) && decide (t.fade ≤ 4800) && decide (t.j ≤ t.fade))

/-- The law of the working scene (R53): it exists exactly while a lane is INCOMING or LIVE. -/
def sceneLaw (s : State) : Bool :=
  (s.engine.scene.isSome == (s.lanes.a.state.carries || s.lanes.b.state.carries)) &&
    s.engine.transition.all Transition.legal

/-- The curve and impulse indexes in a pending set name READY records. -/
def pendingBacked (st : Stores) (p : PendingSet) : Bool :=
  p.driveCurve.all (fun i => (st.curve i).state == .ready) && p.powerCurve.all (fun i => (st.curve i).state == .ready) &&
    p.cab.all (fun c => c.all (fun i => (st.impulse i).state == .ready))

/-- The law of the Model Stores (R36): every record referenced by a lane that is not IDLE, by the working scene or by the
transition record is READY. -/
def readyLaw (s : State) : Bool :=
  [s.lanes.a, s.lanes.b].all (fun l =>
    l.state == .idle || (s.stores.chainReady l.params.chain && pendingBacked s.stores l.pendingSet)) &&
    s.engine.scene.all (fun sc => s.stores.presetReady sc.preset) &&
    s.engine.transition.all (fun t => s.stores.presetReady t.copied)

/-- A bank window is legal (R77). -/
def Window.legal (w : Window) : Bool :=
  [1, 2, 4, 8, 16, 32].contains w.size && decide (w.base < 32) && w.base % w.size == 0

/-- The range law: windows (R77), the tempo period and the interval list (R103), ramp positions (R139, R2), with the two
halves of the FOH pair together (R139), the tuner's group, reading and band limits (R124, R114, R130), and G (R139). -/
def rangeLaw (s : State) : Bool :=
  [Link.player, .crew, .showControl].all (fun k => (s.arbiter.windows.get k).legal) &&
    decide (12000 ≤ s.control.period) && decide (s.control.period ≤ 144000) &&
    s.control.intervals.all (fun i => decide (12000 ≤ i) && decide (i ≤ 144000)) &&
    decide (s.control.intervals.length ≤ 4) &&
    s.mixer.ramps.toList.all (fun j => decide (j ≤ Config.rampTop)) && (s.mixer.ramps.fohL == s.mixer.ramps.fohR) &&
    decide (s.mixer.monRamp ≤ Config.rampTop) && decide (s.mixer.attenuation ≤ Config.weightUnity) &&
    [s.lanes.a, s.lanes.b].all (fun l =>
      decide (l.outRamp ≤ Config.rampTop) && decide (l.gateRamp ≤ Config.gateRampTop) &&
        decide (l.fill ≤ Config.delayEntries) && decide (l.writePos < Config.delayEntries)) &&
    decide (1 ≤ s.tuner.wIn) && decide (s.tuner.wIn ≤ s.tuner.wNear) && decide (s.tuner.wIn ≤ 100) &&
    decide (s.tuner.wNear ≤ 500) && decide (s.tuner.group.length ≤ 7) && (s.tuner.current.isSome == (s.tuner.state == .reading))

/-- The arbiter at rest (R84): a transition is in flight, or every occupied slot belongs to a barred link. -/
def restLaw (s : State) : Bool :=
  s.engine.transition.isSome ||
    [Link.player, .crew, .showControl].all (fun k => (s.arbiter.slots.get k).isNone || s.arbiter.barred k)

/-- What is derived is up to date: the effective values of the scene (R98, R99), the tuner mute request and set that the mixer
holds (R132, R149), and the MON attenuation request, as formed and as handed over (R162). -/
def derivedLaw (s : State) : Bool :=
  s.engine.scene.all (fun sc => sc.effective == sc.preset.expression.map s.control.effective) &&
    (s.mixer.tunerMute == s.tuner.muteActive) && (s.mixer.tunerSet == s.tuner.muteSet) &&
    (s.protection.request == s.protection.wanted) && (s.mixer.monRequest == s.protection.wanted)

/-- The law of the link mute (R145, R146, R147): the safety timer runs exactly while its setting is not 0 and the mask is not
empty, and its count is never more than the setting gives. -/
def muteLaw (s : State) : Bool :=
  (s.mixer.timer.isSome == (s.mixer.safetySetting != 0 && !s.mixer.mask.isEmpty)) &&
    s.mixer.timer.all (fun n => decide (n ≤ 1000 * s.mixer.safetySetting))

/-- A MAJOR record stands in the capture (R174). -/
def captureLocked (s : State) : Bool := s.capture.any (fun r => r.cls.major)

/-! ### What an edit or a pedal writes toward a lane -/

/-- What is pending for a target. -/
def PendingSet.target (p : PendingSet) : Target → Option Nat
  | .drivePre => p.drivePre
  | .drivePost => p.drivePost
  | .powerPre => p.powerPre
  | .powerPost => p.powerPost
  | .laneLevel => p.level
  | .delayWet => p.wet
  | .delayFeedback => p.feedback
  | .fohLevel => p.foh
  | .monLevel => p.mon
  | .ampLevel => p.amp

/-- A pending set without what is pending for the targets of assignments. -/
def PendingSet.untargeted (p : PendingSet) : PendingSet :=
  { p with drivePre := none, drivePost := none, powerPre := none, powerPost := none, level := none, wet := none,
           feedback := none, foh := none, mon := none, amp := none }

/-- The base value a group carries for a target, if it carries one (R98, R209). -/
def Group.baseValue (g : Group) (t : Target) : Option Nat :=
  match g, t with
  | .drive v, .drivePre => some v.pre
  | .drive v, .drivePost => some v.post
  | .power v, .powerPre => some v.pre
  | .power v, .powerPost => some v.post
  | .lane v, .laneLevel => some v
  | .delay v, .delayWet => some v.wet
  | .delay v, .delayFeedback => some v.feedback
  | .levels v, .fohLevel => some v.foh
  | .levels v, .monLevel => some v.mon
  | .levels v, .ampLevel => some v.amp
  | _, _ => none

/-! ### Recalls and transitions -/

/-- A command that asks for a preset by way of link l: a RECALL through the link's window and the Bank Map, or a RECALL_INDEX
of the CREW link. `byIndex` says which. -/
def recallOf (l : Link) (tag : Byte) (i : Nat) (byIndex : Bool) (c : Instr) (s : State) : Prop :=
  (byIndex = false ∧ ∃ pos slot flags : Byte, c = .recall l tag [pos, slot, flags] ∧
    pos.toNat < (s.arbiter.windows.get l).size ∧ slot.toNat < 4 ∧
    s.stores.mapEntry ((s.arbiter.windows.get l).base + pos.toNat) slot.toNat = some i) ∨
  (byIndex = true ∧ l = .crew ∧ ∃ b : Byte, b.toNat = i ∧ i < 128 ∧ c = .recallIndex .crew tag [b])

/-- A recall from link l is granted in the handling in which it arrives: it is accepted, the engine is READY, no tenure bars
the link, and the arbiter is at rest (R84). -/
def grantsAtOnce (l : Link) (s : State) : Bool :=
  accepting l s && restLaw s && s.engine.transition.isNone && !s.arbiter.barred l

/-- What a grant to a link does to the tuner and the mixer (R92): a PLAYER grant disengages the tuner and releases its mute,
any other leaves both alone. -/
def tunerAfterGrant (l : Link) (s t : State) : Prop :=
  if l = .player ∧ s.tuner.state ≠ .off then
    t.tuner = { s.tuner.fresh with state := .off } ∧ t.mixer = { s.mixer with tunerMute := false, tunerSet := s.tuner.muteSet }
  else t.tuner = s.tuner ∧ t.mixer = s.mixer

/-- The notice classes a grant to a link raises besides SCENE and TEMPO: TUNER and MUTE where a PLAYER grant disengages the
tuner, MUTE only if its mute was on (R92, R132, R135). -/
def grantRaises (l : Link) (s : State) (n : NoticeClass) : Bool :=
  l == .player && s.tuner.engaged && (n == .tuner || (n == .mute && s.mixer.tunerMute))

/-- The links and the arbiter after a grant that begins a transition (R85, R86, R192): the recall's slot on its link stays
reserved, and the grant record is made. -/
def grantMade (l : Link) (tag : Byte) (byIndex : Bool) (s t : State) : Prop :=
  t.arbiter = { s.arbiter with grant := some ⟨l, tag, byIndex, true⟩ } ∧
    (t.link l).core = { (s.link l).core with rx := .hunt, gap := 0, reserved := (s.link l).reserved + 1 } ∧
    ∀ k : Link, k ≠ l → (t.link k).core = (s.link k).core

/-- The transition record a grant makes (R55, R58). -/
def grantedRecord (l : Link) (i : Nat) (p : Preset) (kind : TransKind) (target : Option LaneId) : Transition :=
  { origin := l, index := i, copied := p, kind := kind
    phase := match kind with
      | .fade => .prepare
      | .dip => .dipOut
    fade := p.fade, j := 0, target := target, tailHold := none, tailCut := false, editsDiscarded := false }

/-- A lane after a load with a chain of a scene (R27). -/
def loadedLane (old : Lane) (sc : Scene) (c : ChainId) (role : Role) (period meter : Nat) : Lane :=
  let p := sc.params c
  let o := p.chain.gate.openAt
  { state := .incoming, role := role, params := p, pendingSet := .empty, phase := 0, boundaryTaken := false
    gateEnv := meter, gateState := if o ≤ meter then .opened else .closed, gateRamp := if o ≤ meter then 64 else 0
    hist1 := .zero, hist2 := .zero, hist3 := .zero, fir := List.replicate 256 0, weight := 0
    delayHalf := old.delayHalf, writePos := 0, fill := 0, delayLength := (deriveLength period (sc.preset.chain c).delay).1
    delayClamped := (deriveLength period (sc.preset.chain c).delay).2, outRamp := 96, tailEnv := 0, floorCount := 0
    tailTimer := 0 }

/-- The tempo record after a load step applies a preset's TEMPO group (R107). -/
def tempoAfterLoad (tempo : Option Nat) (c : Control) : Control :=
  match tempo with
  | some b =>
    if c.locked then c
    else { c with period := (576000000 + b) / (2 * b), source := .preset, prevTap := none, intervals := [] }
  | none => c

/-- Whether a load step raises TEMPO (R108). -/
def loadRaises (p : Preset) (s : State) (n : NoticeClass) : Bool := n == .tempo && p.tempo.isSome && !s.control.locked

/-- The engine and the tempo record after the load step of a transition (R60, steps 1 to 5). -/
def sceneReplaced (tr : Transition) (s t : State) : Prop :=
  t.control = tempoAfterLoad tr.copied.tempo s.control ∧
    t.engine = { s.engine with
      scene := some { preset := tr.copied, source := tr.index, dirty := false
                      effective := tr.copied.expression.map t.control.effective }
      transition := some { tr with
        phase := if tr.kind = .fade then .cross else .dipIn
        j := 0, tailHold := s.engine.scene.map (fun sc => sc.preset.tailHold)
        editsDiscarded := tr.editsDiscarded || s.engine.scene.any (fun sc => sc.dirty) } }

/-- The lanes after the load step of a FADE that targets lane x (R61): x is loaded with chain A, a LIVE lane becomes OUTGOING
with an empty pending set, any other lane is left alone. -/
def fadeLoaded (x : LaneId) (s t : State) : Prop :=
  (∀ sc, t.engine.scene = some sc →
    t.lanes.get x = loadedLane (s.lanes.get x) sc .a .single t.control.period s.frontEnd.meter) ∧
  ∀ y : LaneId, y ≠ x →
    t.lanes.get y = if (s.lanes.get y).state = .live then { s.lanes.get y with state := .outgoing, pendingSet := .empty }
      else s.lanes.get y

/-- The lanes after the load step of a DIP (R66): both loaded for a DUAL scene; lane A loaded and lane B IDLE for a SINGLE. -/
def dipLoaded (s t : State) : Prop :=
  ∀ sc, t.engine.scene = some sc →
    match sc.preset.kind with
    | .dual =>
      t.lanes.a = loadedLane s.lanes.a sc .a .dualA t.control.period s.frontEnd.meter ∧
        t.lanes.b = loadedLane s.lanes.b sc .b .dualB t.control.period s.frontEnd.meter
    | .single =>
      t.lanes.a = loadedLane s.lanes.a sc .a .single t.control.period s.frontEnd.meter ∧
        t.lanes.b = { s.lanes.b with state := .idle, pendingSet := .empty, delayClamped := false }

/-- A grant of the recall that waits in a link's slot, made at a look of the arbiter from a state with the engine READY (R85): the
slot is emptied, a PLAYER grant disengages the tuner, and by the library record and the working scene the recall ends at once or
a transition begins. NO_PRESET (R56), LOAD_FAIL (R56) and SAME (R57) end it, each with its response, and are said here for a
recall that waits alone, since the arbiter then looks again. Between SINGLE scenes or from none into a SINGLE a FADE begins
(R58, R59, R61), the target lane IDLE, TAILING or CUTTING; where either is DUAL a DIP (R58, R65, R66). -/
def grantTaken (l : Link) (w : Waiting) (s t : State) : Prop :=
  let slots := s.arbiter.slots.set l none
  let ended := fun (r : Result) (bs : List Block) (raised : NoticeClass → Bool) =>
    changesOnly ([.links, .arbiter, .tuner, .mixer] ++ bs) s t ∧ t.arbiter = { s.arbiter with slots := slots } ∧
      tunerAfterGrant l s t ∧
      (t.link l).core = { (s.link l).core with
        reserved := (s.link l).reserved - 1
        queue := (s.link l).queue ++ [resultMessage (if w.place = none then .recallIndex else .recall) w.tag r] } ∧
      (∀ k : Link, k ≠ l → (t.link k).core = (s.link k).core) ∧ announces (fun _ n => grantRaises l s n || raised n) s t
  let begun := fun (bs : List Block) (raised : NoticeClass → Bool) =>
    changesOnly ([.links, .arbiter, .tuner, .mixer, .engine] ++ bs) s t ∧
      t.arbiter = { s.arbiter with slots := slots, grant := some ⟨l, w.tag, decide (w.place = none), true⟩ } ∧
      tunerAfterGrant l s t ∧ linksKept s t ∧ announces (fun _ n => grantRaises l s n || n == .scene || raised n) s t
  let alone := ∀ k : Link, k ≠ l → s.arbiter.slots.get k = none
  let x : LaneId := if s.lanes.a.state = .live then .b else .a
  let silent := ∀ y : LaneId, (s.lanes.get y).state = .idle ∨ (s.lanes.get y).outRamp = 0
  (alone → (∀ p, s.stores.preset w.index ≠ .valid p) →
    ended .noPreset [.capture] (fun n => n == .fault && s.capture.isNone) ∧
      t.capture = if s.capture = none then some ⟨.noPreset, some l, none, some w.index⟩ else s.capture) ∧
  ∀ p, s.stores.preset w.index = .valid p →
    let fade := grantedRecord l w.index p .fade (some x)
    let dip := { grantedRecord l w.index p .dip none with
      tailCut := decide (s.lanes.a.state = .tailing ∨ s.lanes.b.state = .tailing) }
    let dual := p.kind = .dual ∨ ∃ sc, s.engine.scene = some sc ∧ sc.preset.kind = .dual
    let other := ∀ sc, s.engine.scene = some sc → sc.source ≠ w.index ∨ sc.dirty = true
    (alone → s.stores.presetReady p = false →
      ended .loadFail [.capture] (fun n => n == .fault && !captureLocked s) ∧
        t.capture = if captureLocked s = true then s.capture else some ⟨.loadFail, some l, none, some w.index⟩) ∧
    (alone → s.stores.presetReady p = true → ¬other → ended .same [] (fun _ => false)) ∧
    (s.stores.presetReady p = true → other → ¬dual →
      ((s.lanes.get x).state = .idle →
        begun [.lanes, .control] (loadRaises p s) ∧ sceneReplaced fade s t ∧ fadeLoaded x s t) ∧
      ((s.lanes.get x).state = .tailing →
        begun [.lanes] (fun _ => false) ∧ t.engine = { s.engine with transition := some { fade with tailCut := true } } ∧
          t.lanes = s.lanes.set x { s.lanes.get x with state := .cutting }) ∧
      ((s.lanes.get x).state = .cutting →
        begun [] (fun _ => false) ∧ t.engine = { s.engine with transition := some fade })) ∧
    (s.stores.presetReady p = true → other → dual →
      (¬silent → begun [] (fun _ => false) ∧ t.engine = { s.engine with transition := some dip }) ∧
      (silent → begun [.lanes, .control] (loadRaises p s) ∧ sceneReplaced dip s t ∧ dipLoaded s t))

/-! ### Resets -/

/-- The state after a soft reset (R7, R29, R52, R76, R94, R113, R138, R154, R171, R177, R206): every block but the stores at its
reset values, what its rule keeps kept, and SOFT_RESET in the capture. -/
def softResetDone (s t : State) : Prop :=
  t.pending = s.pending ∧ t.stores = s.stores ∧ t.lanes = ⟨.initial, .initial⟩ ∧
  t.frontEnd = { frameCount := s.frontEnd.frameCount, trim := s.stores.activeProfile.trim, pendingTrim := none, meter := 0
                 floor := s.frontEnd.pendingFloor.getD s.frontEnd.floor, pendingFloor := none, phase := 0
                 boundaryTaken := false, presence := decide (s.frontEnd.pendingFloor.getD s.frontEnd.floor = 0) } ∧
  t.engine = ⟨none, none, none⟩ ∧
  t.arbiter = { s.arbiter with slots := ⟨none, none, none⟩, tenure := none, grant := none } ∧
  t.control = State.reset.control ∧
  t.tuner = { State.reset.tuner with
    reference := s.tuner.reference, hysteresis := s.tuner.hysteresis, wIn := s.tuner.wIn, wNear := s.tuner.wNear
    muteSet := s.tuner.muteSet } ∧
  t.mixer = { s.mixer with mask := .none, timer := none, expired := false, tunerMute := false, monRequest := false } ∧
  t.protection = { State.reset.protection with
    overThreshold := s.protection.overThreshold, dcThreshold := s.protection.dcThreshold
    lossFloor := s.protection.lossFloor, timers := s.protection.timers } ∧
  t.capture = some ⟨.softReset, some .crew, none, none⟩ ∧ t.resetDue = false ∧
  ∀ k : Link, t.link k = { LinkIf.initial with
    lineLow := (s.link k).lineLow, breakPartial := (s.link k).breakPartial, breakCount := (s.link k).breakCount
    breakJudged := (s.link k).breakJudged }

end Sys2Proof.Machine
end

