-- ==== Sys2Proof/Certificates/Slice0/Obligations.lean ====
section
/-! DEFINITION. The statements for the provers, rule by rule of spec/: the machine and its laws, the arithmetic, the audio of a
frame, the stores, the scenes and recalls, the control rate, the tuner, the outputs and their protection, the links. -/

open Sys2Proof Sys2Proof.Machine

/-! ### The machine -/

/-- A step takes the command at the front of the queue and runs it on the state with the queue's rest; with no command waiting
and nothing due it leaves the state as it is (the model's choice, log 1). -/
def Obligations.StepRunsFrontCommand : Prop :=
  (∀ (c : Instr) (rest : List Instr) (s : State), s.pending = c :: rest → step s = exec c (s.withPending rest)) ∧
    ∀ s : State, s.pending = [] → quiet s = true → step s = .next s

/-- Every command answers a next state from every state and leaves the queue of commands that wait alone; a row that is an event
of the part changes nothing while its event is not due (the model's choice, log 2). -/
def Obligations.EveryCommandAnswers : Prop :=
  (∀ (c : Instr) (s : State), ∃ t, exec c s = .next t ∧ t.pending = s.pending) ∧
    ∀ (e : Event) (s : State), due e s = false → exec e.command s = .next s

/-! ### Laws that every step keeps -/

/-- The state after power-on meets every law, and nothing is due in it. -/
def Obligations.ResetMeetsLaws : Prop :=
  tablesCanonical State.reset = true ∧ transmittersServed State.reset = true ∧ slotLaw State.reset = true ∧
    weightLaw State.reset = true ∧ sceneLaw State.reset = true ∧ restLaw State.reset = true ∧ presetLaw State.reset = true ∧
    readyLaw State.reset = true ∧ rangeLaw State.reset = true ∧ derivedLaw State.reset = true ∧ muteLaw State.reset = true ∧
    captureLocked State.reset = true ∧ quiet State.reset = true

/-- Every step keeps the canonical form of the addressed storage. -/
def Obligations.StepKeepsTables : Prop :=
  ∀ s t : State, tablesCanonical s = true → step s = .next t → tablesCanonical t = true

/-- Every step keeps the laws of the links. After every step no link has a free transmitter with a response queued or a notice
pending (R182), but for the CREW link between the end of the RESET's OK and the soft reset (R205) and for notices on a link
whose drop is due (R204) or while Bus Protection is still handling a frame (R156); that the transmitters choose at the end of a
step is the model's choice, log 9. A link's reserved slots are the responses it owes, reserved and queued ones are never more
than eight (R192), and a grant record stands only while a transition is in flight (R86). -/
def Obligations.StepKeepsLinkLaws : Prop :=
  (∀ s t : State, transmittersServed s = true → step s = .next t → transmittersServed t = true) ∧
    ∀ s t : State, slotLaw s = true → step s = .next t → slotLaw t = true

/-- Every step keeps the laws of scenes and transitions. A LIVE lane has weight 32,768, and in CROSS and DIP_IN the incoming
lanes hold floor(32,768·j / F) and the outgoing lane the rest of 32,768 (R61, R62, R63, R67), from any state whose presets are
legal. The working scene exists exactly while a lane is INCOMING or LIVE (R53). With no transition in flight every occupied
recall slot belongs to a link that a tenure bars (R84). -/
def Obligations.StepKeepsSceneLaws : Prop :=
  (∀ s t : State, weightLaw s = true → presetLaw s = true → step s = .next t → weightLaw t = true) ∧
    (∀ s t : State, sceneLaw s = true → step s = .next t → sceneLaw t = true) ∧
    ∀ s t : State, restLaw s = true → step s = .next t → restLaw t = true

/-- Every step keeps the laws of the Model Stores. Every preset the part holds, in the library, as the working scene and in the
transition record, is legal (R41, R42, R43). Every curve and impulse that a lane which is not IDLE, the working scene or the
transition record names is READY (R36), from any state whose tables are canonical. -/
def Obligations.StepKeepsStoreLaws : Prop :=
  (∀ s t : State, presetLaw s = true → step s = .next t → presetLaw t = true) ∧
    ∀ s t : State, tablesCanonical s = true → readyLaw s = true → step s = .next t → readyLaw t = true

/-- Every step keeps the ranges: windows (R77), tempo (R103), ramps and G (R139), the two halves of FOH together (R139), the
tuner's group, bands and reading (R124, R133, R114), from any state whose presets are legal; what is derived stays up to date
(R98, R132, R162); and the safety timer runs exactly while its setting is not 0 and the mask is not empty (R145 to R147). -/
def Obligations.StepKeepsValueLaws : Prop :=
  (∀ s t : State, rangeLaw s = true → presetLaw s = true → step s = .next t → rangeLaw t = true) ∧
    (∀ s t : State, derivedLaw s = true → step s = .next t → derivedLaw t = true) ∧
    ∀ s t : State, muteLaw s = true → step s = .next t → muteLaw t = true

/-- The Fault Capture (R174): an empty capture takes every fault, a MINOR record gives way to a MAJOR fault alone, a MAJOR
record to none; FAULT is raised exactly where the capture takes the fault, and nothing else of the part changes. And the lock: a
MAJOR record stands through every command, but for a CAPTURE_CLEAR of the CREW link (as a whole request or as the byte that
completes one); a soft reset, which takes effect only after the end of the RESET's OK or with a drop of the closing CREW link
that is due; and a power-on. -/
def Obligations.MajorRecordIsLocked : Prop :=
  (∀ (r : FaultRec) (s : State),
    let major := fun c : FaultClass => c = .loadFail ∨ c = .powerOn ∨ c = .softReset
    let taken := s.capture = none ∨ ∃ old, s.capture = some old ∧ ¬major old.cls ∧ major r.cls
    (taken → (writeFault r s).capture = some r ∧ ∀ (k : Link) (n : NoticeClass),
      ((writeFault r s).link k).flags.has n = ((s.link k).flags.has n || (n == .fault && (s.link k).mask.has .fault))) ∧
    (¬taken → writeFault r s = s) ∧
    changesOnly [.capture, .links] s (writeFault r s) ∧
    ∀ k : Link, ((writeFault r s).link k).core = (s.link k).core ∧ ((writeFault r s).link k).tx = (s.link k).tx) ∧
  ∀ (c : Instr) (s t : State), captureLocked s = true → exec c s = .next t →
    let crew := s.link .crew
    t.capture = s.capture ∨
    (t.capture = some ⟨.softReset, some .crew, none, none⟩ ∧
      (s.resetDue = true ∨
        (crew.closing = true ∧ crew.lineLow = true ∧ 10 ≤ crew.breakCount ∧ crew.breakJudged = false))) ∨
    (t.capture = none ∧
      ((∃ tag, c = .captureClear .crew tag [] ∧ tag ≠ 0) ∨
        ∃ (b tag : Byte) (n : Nat), c = .byteReceived .crew b ∧ crew.rx = .check n [0x55, tag] ∧ tag ≠ 0 ∧
          (n + 0x55 + tag.toNat + b.toNat) % 256 = 0)) ∨
    (t.capture = some ⟨.powerOn, none, none, none⟩ ∧ c = .powerOn)

/-! ### Arithmetic -/

/-- RHS rounding (1.8 of 00_scope.md): the product plus half a step, floored to steps of 2 to the power s and saturated; a
product by unity gives the other factor back. -/
def Obligations.RhsRoundsHalfUp : Prop :=
  (∀ (p q : Int) (s : Nat), 1 ≤ s → 2 ^ s * q ≤ p + 2 ^ (s - 1) → p + 2 ^ (s - 1) < 2 ^ s * (q + 1) →
    rhs p s = if q < -8388608 then -8388608 else if 8388607 < q then 8388607 else q) ∧
  ∀ (x : Int) (s : Nat), 1 ≤ s → -8388608 ≤ x → x ≤ 8388607 → rhs (x * 2 ^ s) s = x

/-- Peak envelopes (R4): a sample of at least the held magnitude is taken, otherwise the envelope falls by the larger of one and
its value shifted right by s, not below 0; it stays in 0..8,388,608, and falls while above 0. -/
def Obligations.PeakEnvelope : Prop :=
  (∀ (s prev : Nat) (v : Int), prev ≤ v.natAbs → peakEnvelope s prev v = v.natAbs) ∧
  (∀ (s prev : Nat) (v : Int), v.natAbs < prev →
    (peakEnvelope s prev v : Int) = max 0 ((prev : Int) - max 1 ((prev >>> s : Nat) : Int)) ∧ peakEnvelope s prev v < prev) ∧
  (∀ (s prev : Nat) (v : Int), prev ≤ 8388608 → -8388608 ≤ v → v ≤ 8388607 → peakEnvelope s prev v ≤ 8388608) ∧
  (∀ s : Nat, peakEnvelope s 0 0 = 0) ∧ peakEnvelope 10 8388608 0 = 8380416 ∧
  (-8388608 : Int).natAbs = 8388608

/-- A curve lookup (R13): the segment and the position in it, the interpolated value floored, never outside the segment's two
points; exact at the lower end, at most one step from Y[64] at the upper end of a segment that is not too steep. -/
def Obligations.CurveLookup : Prop :=
  (∀ (y : Nat → Int) (u : Int) (k f : Nat), f < 262144 → u + 8388608 = 262144 * (k : Int) + f →
    curveLookup y u = y k + ((y (k + 1) - y k) * f + 131072) / 262144 ∧
    min (y k) (y (k + 1)) ≤ curveLookup y u ∧ curveLookup y u ≤ max (y k) (y (k + 1))) ∧
  (∀ y : Nat → Int, curveLookup y (-8388608) = y 0 ∧
    y 64 - curveLookup y 8388607 = -((131072 - y 64 + y 63) / 262144) ∧
    ((y 63 - y 64).natAbs ≤ 262144 → (y 64 - curveLookup y 8388607).natAbs ≤ 1) ∧
    (y 63 = y 64 → curveLookup y 8388607 = y 64))

/-- A delay half that starts empty gives back, D frames later, what was written (R18, R19): after n writes a read at length D
gives the sample written D frames earlier, and 0 while fewer than D have been written, however often the half has wrapped. -/
def Obligations.DelayReadsBack : Prop :=
  ∀ (l : Lane) (vs : List Int), tableWf 0 l.delayHalf = true → l.writePos = 0 → l.fill = 0 →
    l.params.chain.delay.mode ≠ .off → 48 ≤ l.delayLength → l.delayLength ≤ 96000 →
    (vs.foldl Lane.delayWrite l).delayRead =
      (if l.delayLength ≤ vs.length then vs.getD (vs.length - l.delayLength) 0 else 0)

/-! ### A frame: the front end and the lanes -/

/-- One frame of a lane that computes and is not at a block boundary, stage by stage (R9 to R23): gate, drive, three tone
sections, power, cab, weight, delay, mix, level, output ramp, contributions and tail. -/
def Obligations.LaneComputesItsChain : Prop :=
  ∀ (st : Stores) (dipping : Bool) (l : Lane) (x : Int), l.state ≠ .idle → l.boundaryFalls = false → l.gateRamp ≤ 64 →
    l.fill ≤ 96000 →
    let p := l.params.chain
    let lev := l.params.levels
    let point := fun (i : Nat) => tableGet 0 (st.curve i).values
    let t := (l.frame st dipping x).1
    let c := (l.frame st dipping x).2
    ∃ g d y1 y2 y3 pre cab cw pw r mix lp lm : Int,
      t.gateEnv = peakEnvelope p.gate.release l.gateEnv x ∧
      (t.gateState = .opened ↔
        (p.gate.openAt = 0 ∨ (l.gateState = .closed ∧ p.gate.openAt ≤ t.gateEnv) ∨
          (l.gateState = .opened ∧ p.gate.closeAt ≤ t.gateEnv))) ∧
      t.gateRamp = (if t.gateState = .opened then min 64 (l.gateRamp + 1) else l.gateRamp - 1) ∧
      g = rhs (x * (if p.gate.openAt = 0 then 4096 else 64 * (t.gateRamp : Int))) 12 ∧
      d = rhs (curveLookup (point p.drive.curve) (rhs (g * p.drive.pre) 8) * p.drive.post) 12 ∧
      y1 = rhs (p.tone1.b0 * d + p.tone1.b1 * l.hist1.x1 + p.tone1.b2 * l.hist1.x2 - p.tone1.a1 * l.hist1.y1 -
        p.tone1.a2 * l.hist1.y2) 22 ∧ t.hist1 = ⟨d, l.hist1.x1, y1, l.hist1.y1⟩ ∧
      y2 = rhs (p.tone2.b0 * y1 + p.tone2.b1 * l.hist2.x1 + p.tone2.b2 * l.hist2.x2 - p.tone2.a1 * l.hist2.y1 -
        p.tone2.a2 * l.hist2.y2) 22 ∧ t.hist2 = ⟨y1, l.hist2.x1, y2, l.hist2.y1⟩ ∧
      y3 = rhs (p.tone3.b0 * y2 + p.tone3.b1 * l.hist3.x1 + p.tone3.b2 * l.hist3.x2 - p.tone3.a1 * l.hist3.y1 -
        p.tone3.a2 * l.hist3.y2) 22 ∧ t.hist3 = ⟨y2, l.hist3.x1, y3, l.hist3.y1⟩ ∧
      pre = rhs (curveLookup (point p.power.curve) (rhs (y3 * p.power.pre) 8) * p.power.post) 12 ∧
      t.fir = (pre :: l.fir).take 256 ∧
      (p.cab = none → cab = pre) ∧
      (∀ i, p.cab = some i →
        cab = rhs ((t.fir.zipIdx.map (fun e => tableGet 0 (st.impulse i).values e.2 * e.1)).sum) 23) ∧
      cw = rhs (cab * l.weight) 15 ∧ pw = rhs (pre * l.weight) 15 ∧
      r = (if p.delay.mode = .off ∨ l.fill < l.delayLength then 0
        else tableGet 0 l.delayHalf ((l.writePos + 96000 - l.delayLength) % 96000)) ∧
      t.delayHalf = tablePut 0 l.delayHalf l.writePos
        (if p.delay.mode = .off then 0 else saturate (cw + rhs (r * p.delay.feedback) 12)) ∧
      t.writePos = (l.writePos + 1) % 96000 ∧ t.fill = min 96000 (l.fill + 1) ∧
      mix = saturate (rhs (cw * p.delay.dry) 12 + rhs (r * p.delay.wet) 12) ∧
      lp = rhs (mix * p.level) 12 ∧
      t.outRamp = (if l.state = .cutting ∨ (dipping = true ∧ (l.state = .live ∨ l.state = .tailing)) then l.outRamp - 1
        else l.outRamp) ∧
      lm = rhs (lp * ((32768 * t.outRamp / 96 : Nat) : Int)) 15 ∧
      c.foh = rhs (lm * lev.foh) 12 ∧ c.mon = rhs (lm * lev.mon) 12 ∧
      c.amp = rhs (rhs (rhs (pw * p.level) 12 * lev.amp) 12 * ((32768 * t.outRamp / 96 : Nat) : Int)) 15 ∧
      t.tailEnv = peakEnvelope 10 l.tailEnv lp ∧
      t.floorCount = (if l.state = .tailing then (if t.tailEnv < 839 then min 4800 (l.floorCount + 1) else 0)
        else l.floorCount) ∧
      t.tailTimer = (if l.state = .tailing then l.tailTimer - 1 else l.tailTimer) ∧
      t.phase = (l.phase + 1) % 16 ∧ t.state = l.state ∧ t.role = l.role ∧ t.params = l.params ∧
      t.pendingSet = l.pendingSet ∧ t.weight = l.weight ∧ t.delayLength = l.delayLength ∧ t.delayClamped = l.delayClamped

/-- INPUT_FRAME, the front end and the decimator (R3, R5, R6, R119): the frame count advances, what is pending is taken in at a
boundary, the trimmed sample moves the meter and presence is judged; an engaged tuner adds the trimmed sample to its sum.
Channel 1 has no effect, and nothing outside the audio path changes. -/
def Obligations.InputFrameFrontEnd : Prop :=
  ∀ (s : State) (ch0 ch1 : Slot), quiet s = true → ∃ t, exec (.inputFrame ch0 ch1) s = .next t ∧
    exec (.inputFrame ch0 0) s = .next t ∧
    (let f := s.frontEnd
     let boundary := f.phase = 15 ∧ f.boundaryTaken = false
     let trim := if boundary then f.pendingTrim.getD f.trim else f.trim
     let floor := if boundary then f.pendingFloor.getD f.floor else f.floor
     let x := rhs (ch0.toInt / 256 * trim) 12
     let meter := peakEnvelope 10 f.meter x
     t.frontEnd =
       { frameCount := f.frameCount + 1, trim := trim, pendingTrim := if boundary then none else f.pendingTrim
         meter := meter, floor := floor, pendingFloor := if boundary then none else f.pendingFloor
         phase := (f.phase + 1) % 16, boundaryTaken := false, presence := decide (floor ≤ meter) } ∧
     t.tuner = (if s.tuner.state = .off then s.tuner
       else { s.tuner with sum := s.tuner.sum + x, count := s.tuner.count + 1 })) ∧
    changesOnly [.frontEnd, .lanes, .engine, .tuner, .mixer, .protection, .links] s t ∧ linksKept s t

/-- INPUT_FRAME, the lanes and the engine (R8, R24, R62, R67): each lane that is not IDLE takes a boundary that falls and
computes the trimmed sample, an IDLE lane is left as it is, and in CROSS and DIP_IN the ramp position then rises by one and the
new weights are written. -/
def Obligations.InputFrameMovesLanes : Prop :=
  ∀ (s : State) (ch0 ch1 : Slot), quiet s = true → ∃ t, exec (.inputFrame ch0 ch1) s = .next t ∧
    (let x := (s.frontEnd.frame (ch0.toInt / 256)).2
     let dipping := s.engine.transition.any (fun tr => tr.phase == .dipOut)
     t.engine.scene = s.engine.scene ∧ t.engine.report = s.engine.report ∧
     (∀ i : LaneId, (s.lanes.get i).state = .idle → t.lanes.get i = s.lanes.get i) ∧
     (∀ tr, s.engine.transition = some tr → (tr.phase = .cross ∨ tr.phase = .dipIn) →
       t.engine.transition = some { tr with j := tr.j + 1 } ∧
       ∀ i : LaneId,
         ((s.lanes.get i).state = .incoming →
           t.lanes.get i = { ((s.lanes.get i).frame s.stores dipping x).1 with weight := 32768 * (tr.j + 1) / tr.fade }) ∧
         ((s.lanes.get i).state = .outgoing →
           t.lanes.get i =
             { ((s.lanes.get i).frame s.stores dipping x).1 with weight := 32768 - 32768 * (tr.j + 1) / tr.fade })) ∧
     (¬(∃ tr, s.engine.transition = some tr ∧ (tr.phase = .cross ∨ tr.phase = .dipIn)) →
       t.engine.transition = s.engine.transition) ∧
     (∀ i : LaneId, (s.lanes.get i).state ≠ .idle → (s.lanes.get i).state ≠ .incoming → (s.lanes.get i).state ≠ .outgoing →
       t.lanes.get i = ((s.lanes.get i).frame s.stores dipping x).1))

/-- INPUT_FRAME, the mixer (R140 to R143): the ramps step, the lanes' contributions are placed by role, summed and saturated,
the mute gain and for MON the protection gain are taken, and the four samples leave in the upper 24 bits of their slots. -/
def Obligations.InputFrameMixes : Prop :=
  ∀ (s : State) (ch0 ch1 : Slot), quiet s = true → rangeLaw s = true → ∃ t, exec (.inputFrame ch0 ch1) s = .next t ∧
    (let x := (s.frontEnd.frame (ch0.toInt / 256)).2
     let dipping := s.engine.dipping
     let a := (s.lanes.a.frame s.stores dipping x).2
     let b := (s.lanes.b.frame s.stores dipping x).2
     let m := s.mixer
     let silent := fun bus : Bus => m.mask.has bus = true ∨ (m.tunerMute = true ∧ m.tunerSet.has bus = true)
     let foh := fun side : Role => (if s.lanes.a.role = .single ∨ s.lanes.a.role = side then a.foh else 0) +
       (if s.lanes.b.role = .single ∨ s.lanes.b.role = side then b.foh else 0)
     let half := fun (role : Role) (v : Int) => if role = .single then v else v / 2
     let sum : PerBus Int := ⟨saturate (foh .dualA), saturate (foh .dualB),
       saturate (half s.lanes.a.role a.mon + half s.lanes.b.role b.mon),
       saturate (half s.lanes.a.role a.amp + half s.lanes.b.role b.amp)⟩
     (∀ bus : Bus, t.mixer.ramps.get bus =
       (if silent bus then m.ramps.get bus - 1 else min 96 (m.ramps.get bus + 1))) ∧
     t.mixer.monRamp = (if m.monRequest = true then m.monRamp - 1 else min 96 (m.monRamp + 1)) ∧
     (let muted := fun bus : Bus => rhs (sum.get bus * ((32768 * t.mixer.ramps.get bus / 96 : Nat) : Int)) 15
      let gain := m.attenuation + (32768 - m.attenuation) * t.mixer.monRamp / 96
      ∀ bus : Bus, (t.mixer.output.get bus).toInt = 256 * (if bus = .mon then rhs (muted .mon * gain) 15 else muted bus)) ∧
     t.mixer.mask = m.mask ∧ t.mixer.timer = m.timer ∧ t.mixer.expired = m.expired ∧
     t.mixer.safetySetting = m.safetySetting ∧ t.mixer.attenuation = m.attenuation ∧ t.mixer.tunerMute = m.tunerMute ∧
     t.mixer.tunerSet = m.tunerSet)

/-- INPUT_FRAME, Bus Protection (R156, R157, R159 to R162): envelopes and window sums take the finished samples, the conditions
are judged, the counts and flags move, a latch comes due, a following flag that changes raises GUARD, and the MON attenuation
request is formed and handed over. On the frame that ends a DC window the DC pairs alone stand still: they move with
DC_WINDOW_END. That this is a step of its own, and the mark `latchDue`, are the model's (log 4). -/
def Obligations.InputFrameProtects : Prop :=
  ∀ (s : State) (ch0 ch1 : Slot), quiet s = true → ∃ t, exec (.inputFrame ch0 ch1) s = .next t ∧
    (let p := s.protection
     let q := t.protection
     let sample := fun bus : Bus => slotSample (t.mixer.output.get bus)
     let still := fun c : ProtClass => c = .dc ∧ p.phase = 4095
     p.phase ≤ 4095 ∧
     (∀ bus : Bus, q.env.get bus = peakEnvelope 10 (p.env.get bus) (sample bus) ∧
       q.sum.get bus = p.sum.get bus + sample bus ∧ q.mean.get bus = p.mean.get bus ∧
       ((q.pair bus .overLevel).cond = true ↔ p.overThreshold ≤ q.env.get bus) ∧
       (q.pair bus .dc).cond = (p.pair bus .dc).cond ∧
       ((q.pair bus .loss).cond = true ↔
         (t.frontEnd.presence = true ∧ t.engine.scene.isSome = true ∧ t.mixer.ramps.get bus ≠ 0 ∧
           q.env.get bus < p.lossFloor))) ∧
     q.phase = p.phase + 1 ∧ q.forced = p.forced ∧ q.overThreshold = p.overThreshold ∧ q.dcThreshold = p.dcThreshold ∧
     q.lossFloor = p.lossFloor ∧ q.timers = p.timers ∧
     (∀ (bus : Bus) (c : ProtClass), still c → q.pair bus c = p.pair bus c) ∧
     (∀ (bus : Bus) (c : ProtClass), ¬still c → 0 < p.timers.get c →
       (q.pair bus c).count = (if (q.pair bus c).cond = true then min (48 * p.timers.get c) ((p.pair bus c).count + 1) else 0) ∧
       (q.pair bus c).flag = (p.pair bus c).flag ∧
       ((q.pair bus c).latchDue = true ↔
         ((q.pair bus c).cond = true ∧ (q.pair bus c).count = 48 * p.timers.get c ∧ (p.pair bus c).flag = false))) ∧
     (∀ (bus : Bus) (c : ProtClass), ¬still c → p.timers.get c = 0 →
       q.pair bus c = ⟨(q.pair bus c).cond, 0, (q.pair bus c).cond, false⟩) ∧
     q.request = ((q.pair .mon .overLevel).flag || p.forced.overLevel) ∧ t.mixer.monRequest = q.request ∧
     announces (fun _ n => n == .guard &&
       buses.any (fun bus => protClasses.any (fun c =>
         p.timers.get c == 0 && !decide (still c) && (p.pair bus c).flag != (q.pair bus c).cond))) s t)

/-- A clean rig passes the sample (R3, R11, R12, R14, R16, R17, R20 to R22, R140, R141): with lane A LIVE in role SINGLE on a
new preset's chain, curve 0 a straight line, unity everywhere and all ramps open, every output slot carries the input sample up
to the upper half of the curve's top segment. -/
def Obligations.CleanRigPassesTheSample : Prop :=
  ∀ (s : State) (ch0 ch1 : Slot), quiet s = true →
    s.frontEnd.trim = 4096 → s.frontEnd.boundaryFalls = false →
    s.lanes.a.state = .live → s.lanes.a.role = .single → s.lanes.a.boundaryFalls = false → s.lanes.b.state = .idle →
    s.lanes.a.params = ⟨Chain.default, ⟨4096, 4096, 4096⟩⟩ → s.lanes.a.weight = 32768 → s.lanes.a.outRamp = 96 →
    (∀ k : Nat, k < 64 → tableGet 0 (s.stores.curve 0).values k = -8388608 + 262144 * (k : Int)) →
    tableGet 0 (s.stores.curve 0).values 64 = 8388607 →
    s.engine.transition = none → s.mixer.ramps = ⟨96, 96, 96, 96⟩ → s.mixer.monRamp = 96 → s.mixer.mask = .none →
    s.mixer.tunerMute = false → s.mixer.monRequest = false → s.mixer.attenuation ≤ 32768 →
    ch0.toInt / 256 ≤ 8257536 →
    ∃ t, exec (.inputFrame ch0 ch1) s = .next t ∧ ∀ bus : Bus, (t.mixer.output.get bus).toInt = 256 * (ch0.toInt / 256)

/-- IFE_BLOCK_BOUNDARY and LANE_BLOCK_BOUNDARY (R6, R24, R25, R11): on the frame before a boundary the row takes in what is
pending, a close threshold and a feedback limited as they are latched, O = 0 opening the gate ramp; and the coming frame is the
same whether the row comes before it or not (the boundary as a row of its own is the model's choice, log 3). -/
def Obligations.BlockBoundaryRows : Prop :=
  (∀ s : State, quiet s = true → s.frontEnd.phase = 15 → s.frontEnd.boundaryTaken = false →
    ∃ t, exec .ifeBlockBoundary s = .next t ∧ changesOnly [.frontEnd, .links] s t ∧ linksKept s t ∧ announces noClass s t ∧
      t.frontEnd = { s.frontEnd with
        trim := s.frontEnd.pendingTrim.getD s.frontEnd.trim, pendingTrim := none
        floor := s.frontEnd.pendingFloor.getD s.frontEnd.floor, pendingFloor := none, boundaryTaken := true } ∧
      (transmittersServed s = true → ∀ c0 c1, exec (.inputFrame c0 c1) t = exec (.inputFrame c0 c1) s)) ∧
  ∀ (i : LaneId) (s : State), quiet s = true → (s.lanes.get i).state ≠ .idle → (s.lanes.get i).phase = 15 →
    (s.lanes.get i).boundaryTaken = false →
    ∃ t, exec (.laneBlockBoundary i) s = .next t ∧ changesOnly [.lanes, .links] s t ∧ linksKept s t ∧ announces noClass s t ∧
      (∀ k : LaneId, k ≠ i → t.lanes.get k = s.lanes.get k) ∧
      (let l := s.lanes.get i
       let n := l.pendingSet
       let p := l.params.chain
       let v := l.params.levels
       t.lanes.get i = { l with
         params :=
           { chain :=
               { gate := (n.gate.map (fun g => ⟨g.openAt, min g.closeAt g.openAt, g.release⟩)).getD p.gate
                 drive := ⟨n.drivePre.getD p.drive.pre, n.driveCurve.getD p.drive.curve, n.drivePost.getD p.drive.post⟩
                 tone1 := n.tone1.getD p.tone1, tone2 := n.tone2.getD p.tone2, tone3 := n.tone3.getD p.tone3
                 power := ⟨n.powerPre.getD p.power.pre, n.powerCurve.getD p.power.curve, n.powerPost.getD p.power.post⟩
                 cab := n.cab.getD p.cab
                 delay := ⟨n.delayMode.getD p.delay.mode, p.delay.fixedLength, p.delay.division,
                   (n.feedback.map (fun w => min w 3891)).getD p.delay.feedback, n.dry.getD p.delay.dry,
                   n.wet.getD p.delay.wet⟩
                 level := n.level.getD p.level }
             levels := ⟨n.foh.getD v.foh, n.mon.getD v.mon, n.amp.getD v.amp⟩ }
         delayLength := (n.length.map (fun w => w.1)).getD l.delayLength
         delayClamped := (n.length.map (fun w => w.2)).getD l.delayClamped
         gateRamp := if n.gate.any (fun g => g.openAt == 0) then 64 else l.gateRamp
         pendingSet := .empty, boundaryTaken := true }) ∧
      (transmittersServed s = true → ∀ c0 c1, exec (.inputFrame c0 c1) t = exec (.inputFrame c0 c1) s)

/-! ### The stores -/

/-- CURVE_BEGIN and IMPULSE_BEGIN (R33, R35, R36). A curve or impulse is in use exactly while a lane that is not IDLE, the
working scene or the transition's copied preset names it. On a CREW link that accepts a record in range and not in use becomes
FILLING with no part received and its values left in place; a record in use is refused IN_USE, an index out of range
BAD_REQUEST. -/
def Obligations.BeginOpensRecord : Prop :=
  ((∀ (s : State) (i : Nat), curveInUse s i = true ↔
      ((∃ x : LaneId, (s.lanes.get x).state ≠ .idle ∧
          ((s.lanes.get x).params.chain.drive.curve = i ∨ (s.lanes.get x).params.chain.power.curve = i ∨
            (s.lanes.get x).pendingSet.driveCurve = some i ∨ (s.lanes.get x).pendingSet.powerCurve = some i)) ∨
        ∃ (p : Preset) (c : Chain), ((∃ sc, s.engine.scene = some sc ∧ p = sc.preset) ∨
            ∃ t, s.engine.transition = some t ∧ p = t.copied) ∧
          (c = p.chainA ∨ p.chainB = some c) ∧ (c.drive.curve = i ∨ c.power.curve = i))) ∧
    ∀ (s : State) (i : Nat), impulseInUse s i = true ↔
      ((∃ x : LaneId, (s.lanes.get x).state ≠ .idle ∧
          ((s.lanes.get x).params.chain.cab = some i ∨ (s.lanes.get x).pendingSet.cab = some (some i))) ∨
        ∃ (p : Preset) (c : Chain), ((∃ sc, s.engine.scene = some sc ∧ p = sc.preset) ∨
            ∃ t, s.engine.transition = some t ∧ p = t.copied) ∧
          (c = p.chainA ∨ p.chainB = some c) ∧ c.cab = some i)) ∧
  ∀ (s : State) (tag i : Byte), accepting .crew s = true → tag ≠ 0 → tablesCanonical s = true →
    (∃ t, exec (.curveBegin .crew tag [i]) s = .next t ∧
      (8 ≤ i.toNat → refusedWith .curveBegin .crew tag .badRequest s t) ∧
      (i.toNat < 8 → curveInUse s i.toNat = true → refusedWith .curveBegin .crew tag .inUse s t) ∧
      (i.toNat < 8 → curveInUse s i.toNat = false →
        carriedOut .curveBegin .crew tag .ok [.stores] noClass s t ∧
        t.stores.curve i.toNat = { s.stores.curve i.toNat with state := .filling, parts := 0 } ∧
        (∀ j, j ≠ i.toNat → t.stores.curve j = s.stores.curve j) ∧ t.stores = { s.stores with curves := t.stores.curves })) ∧
    ∃ t, exec (.impulseBegin .crew tag [i]) s = .next t ∧
      (16 ≤ i.toNat → refusedWith .impulseBegin .crew tag .badRequest s t) ∧
      (i.toNat < 16 → impulseInUse s i.toNat = true → refusedWith .impulseBegin .crew tag .inUse s t) ∧
      (i.toNat < 16 → impulseInUse s i.toNat = false →
        carriedOut .impulseBegin .crew tag .ok [.stores] noClass s t ∧
        t.stores.impulse i.toNat = { s.stores.impulse i.toNat with state := .filling, parts := 0 } ∧
        (∀ j, j ≠ i.toNat → t.stores.impulse j = s.stores.impulse j) ∧
        t.stores = { s.stores with impulses := t.stores.impulses })

/-- CURVE_PUT and IMPULSE_PUT (R34, R35, R210) on a CREW link that accepts: part p of a curve writes points 13p to 13p+12, part
p of an impulse taps 16p to 16p+15, three bytes each; it adds p to the received set and makes the record READY when every part
has come (five of a curve, sixteen of an impulse). In the order of the checks it is refused BAD_REQUEST for an index or part out
of range, IN_USE for a record in use, BAD_REQUEST for a record that is not FILLING. -/
def Obligations.PutWritesPart : Prop :=
  (∀ (s : State) (tag i p : Byte) (v : List Byte), accepting .crew s = true → tag ≠ 0 → tablesCanonical s = true →
      v.length = 39 →
      ∃ t, exec (.curvePut .crew tag (i :: p :: v)) s = .next t ∧
        (8 ≤ i.toNat ∨ 5 ≤ p.toNat → refusedWith .curvePut .crew tag .badRequest s t) ∧
        (i.toNat < 8 → p.toNat < 5 → curveInUse s i.toNat = true → refusedWith .curvePut .crew tag .inUse s t) ∧
        (i.toNat < 8 → p.toNat < 5 → curveInUse s i.toNat = false → (s.stores.curve i.toNat).state ≠ .filling →
          refusedWith .curvePut .crew tag .badRequest s t) ∧
        (i.toNat < 8 → p.toNat < 5 → curveInUse s i.toNat = false → (s.stores.curve i.toNat).state = .filling →
          let old := s.stores.curve i.toNat
          let new := t.stores.curve i.toNat
          carriedOut .curvePut .crew tag .ok [.stores] noClass s t ∧
          new.parts = old.parts ||| (1#16 <<< p.toNat) ∧ new.state = (if new.parts = 0x1F then .ready else .filling) ∧
          (∀ k, tableGet 0 new.values k =
            if 13 * p.toNat ≤ k ∧ k < 13 * p.toNat + 13 then
              (v.getD (3 * (k - 13 * p.toNat)) 0 ++ v.getD (3 * (k - 13 * p.toNat) + 1) 0 ++
                v.getD (3 * (k - 13 * p.toNat) + 2) 0).toInt
            else tableGet 0 old.values k) ∧
          (∀ j, j ≠ i.toNat → t.stores.curve j = s.stores.curve j) ∧ t.stores = { s.stores with curves := t.stores.curves })) ∧
  ∀ (s : State) (tag i p : Byte) (v : List Byte), accepting .crew s = true → tag ≠ 0 → tablesCanonical s = true →
    v.length = 48 →
    ∃ t, exec (.impulsePut .crew tag (i :: p :: v)) s = .next t ∧
      (16 ≤ i.toNat ∨ 16 ≤ p.toNat → refusedWith .impulsePut .crew tag .badRequest s t) ∧
      (i.toNat < 16 → p.toNat < 16 → impulseInUse s i.toNat = true → refusedWith .impulsePut .crew tag .inUse s t) ∧
      (i.toNat < 16 → p.toNat < 16 → impulseInUse s i.toNat = false → (s.stores.impulse i.toNat).state ≠ .filling →
        refusedWith .impulsePut .crew tag .badRequest s t) ∧
      (i.toNat < 16 → p.toNat < 16 → impulseInUse s i.toNat = false → (s.stores.impulse i.toNat).state = .filling →
        let old := s.stores.impulse i.toNat
        let new := t.stores.impulse i.toNat
        carriedOut .impulsePut .crew tag .ok [.stores] noClass s t ∧
        new.parts = old.parts ||| (1#16 <<< p.toNat) ∧ new.state = (if new.parts = 0xFFFF then .ready else .filling) ∧
        (∀ k, tableGet 0 new.values k =
          if 16 * p.toNat ≤ k ∧ k < 16 * p.toNat + 16 then
            (v.getD (3 * (k - 16 * p.toNat)) 0 ++ v.getD (3 * (k - 16 * p.toNat) + 1) 0 ++
              v.getD (3 * (k - 16 * p.toNat) + 2) 0).toInt
          else tableGet 0 old.values k) ∧
        (∀ j, j ≠ i.toNat → t.stores.impulse j = s.stores.impulse j) ∧
        t.stores = { s.stores with impulses := t.stores.impulses })

/-- PRESET_BEGIN, PRESET_END and PRESET_ERASE (R39, R44, R45) on a CREW link that accepts: the record becomes FILLING with the
defaults of its kind, VALID with the content it holds, or EMPTY; a write to the working scene's source record sets dirty; an
index out of range, an unknown kind, or an END of a record that is not FILLING is refused BAD_REQUEST. -/
def Obligations.PresetRecordsOpenCloseErase : Prop :=
  ∀ (s : State) (tag i k : Byte), accepting .crew s = true → tag ≠ 0 → tablesCanonical s = true →
    let written := fun (ty : ReqType) (t : State) (r : PresetRec) =>
      carriedOut ty .crew tag .ok [.stores, .engine] noClass s t ∧ t.stores.preset i.toNat = r ∧
      (∀ j, j ≠ i.toNat → t.stores.preset j = s.stores.preset j) ∧ t.stores = { s.stores with presets := t.stores.presets } ∧
      t.engine = { s.engine with
        scene := s.engine.scene.map (fun sc => if sc.source = i.toNat then { sc with dirty := true } else sc) }
    let fresh : Chain :=
      { gate := ⟨0, 0, 10⟩, drive := ⟨256, 0, 4096⟩, tone1 := ⟨4194304, 0, 0, 0, 0⟩, tone2 := ⟨4194304, 0, 0, 0, 0⟩
        tone3 := ⟨4194304, 0, 0, 0, 0⟩, power := ⟨256, 0, 4096⟩, cab := none, delay := ⟨.off, 24000, 3, 0, 4096, 0⟩
        level := 4096 }
    let content := fun (kind : Kind) (b : Option Chain) => (Preset.mk kind (List.replicate 12 32) 480 0 ⟨4096, 4096, 4096⟩ []
      none fresh b)
    (∃ t, exec (.presetBegin .crew tag [i, k]) s = .next t ∧
      (i.toNat < 128 → k = 0 → written .presetBegin t (.filling (content .single none))) ∧
      (i.toNat < 128 → k = 1 → written .presetBegin t (.filling (content .dual (some fresh)))) ∧
      (128 ≤ i.toNat ∨ (k ≠ 0 ∧ k ≠ 1) → refusedWith .presetBegin .crew tag .badRequest s t)) ∧
    (∃ t, exec (.presetEnd .crew tag [i]) s = .next t ∧
      (∀ p, i.toNat < 128 → s.stores.preset i.toNat = .filling p → written .presetEnd t (.valid p)) ∧
      (128 ≤ i.toNat ∨ (∀ p, s.stores.preset i.toNat ≠ .filling p) → refusedWith .presetEnd .crew tag .badRequest s t)) ∧
    ∃ t, exec (.presetErase .crew tag [i]) s = .next t ∧
      (i.toNat < 128 → written .presetErase t .empty) ∧
      (128 ≤ i.toNat → refusedWith .presetErase .crew tag .badRequest s t)

/-- PRESET_PUT (R40, R45) on a CREW link that accepts: where the index, group, chain, record and content pass the checks the
group of the FILLING record is replaced whole, answered OK or CLAMPED, and dirty is set if the record is the scene's source;
otherwise it is refused BAD_REQUEST. Chain B of a SINGLE record, a HEADER of another kind and a SINGLE record's assignment on
chain B or BOTH do not pass. What a content is and how it is clamped is stated in `GroupContents`, what `putGroup` replaces in
`GroupBytesReadBack`. -/
def Obligations.PresetPutWritesGroup : Prop :=
  ∀ (s : State) (tag i code ch : Byte) (content : List Byte), accepting .crew s = true → tag ≠ 0 → tablesCanonical s = true →
    1 ≤ content.length → content.length ≤ 29 →
    ∃ t, exec (.presetPut .crew tag (i :: code :: ch :: content)) s = .next t ∧
      (let chainGroup := 4 ≤ code.toNat ∧ code.toNat ≤ 12
       let c : ChainId := if chainGroup ∧ ch = 1 then .b else .a
       let fits := fun (p : Preset) (g : Group) =>
         (chainGroup → ch = 0 ∨ (ch = 1 ∧ p.kind = .dual)) ∧
         (∀ label kind f h, g = .header label kind f h → kind = p.kind) ∧
         (∀ xs, g = .expression xs → p.kind = .single → ∀ x ∈ xs, x.chain = .a)
       (∀ p g acted, i.toNat < 128 → s.stores.preset i.toNat = .filling p → groupOf code.toNat content = some (g, acted) →
         fits p g →
         carriedOut .presetPut .crew tag (if acted then .clamped else .ok) [.stores, .engine] noClass s t ∧
         t.stores.preset i.toNat = .filling (p.putGroup c g) ∧
         (∀ j, j ≠ i.toNat → t.stores.preset j = s.stores.preset j) ∧
         t.stores = { s.stores with presets := t.stores.presets } ∧
         t.engine = { s.engine with
           scene := s.engine.scene.map (fun sc => if sc.source = i.toNat then { sc with dirty := true } else sc) }) ∧
       (¬(∃ p g acted, i.toNat < 128 ∧ s.stores.preset i.toNat = .filling p ∧
           groupOf code.toNat content = some (g, acted) ∧ fits p g) →
         refusedWith .presetPut .crew tag .badRequest s t))

/-- The contents of the preset groups (R209) with their checks and clamps (R41, R42, R43, R70): for every group the fields its
bytes carry, the numbers that are clamped and whether any was, and what is refused. That a TEMPO marked absent ignores its
number is the model's choice (log 25). -/
def Obligations.GroupContents : Prop :=
  (∀ (code : Nat) (c : List Byte), 12 < code → groupOf code c = none) ∧
  (∀ (code : Nat) (c : List Byte), code ≤ 12 → code ≠ 2 →
    c.length ≠ ([17, 6, 0, 3, 7, 5, 15, 15, 15, 5, 1, 11, 2].getD code 0) → groupOf code c = none) ∧
  (∀ (label : List Byte) (k f1 f0 h1 h0 : Byte), label.length = 12 →
    let f := 256 * f1.toNat + f0.toNat
    let h := 256 * h1.toNat + h0.toNat
    groupOf 0 (label ++ [k, f1, f0, h1, h0]) =
      if k = 0 ∨ k = 1 then
        some (.header label (if k = 0 then .single else .dual) (max 32 (min 4800 f)) (min 10000 h),
          decide (f < 32 ∨ 4800 < f ∨ 10000 < h))
      else none) ∧
  (∀ a1 a0 b1 b0 c1 c0 : Byte, groupOf 1 [a1, a0, b1, b0, c1, c0] =
    some (.levels ⟨256 * a1.toNat + a0.toNat, 256 * b1.toNat + b0.toNat, 256 * c1.toNat + c0.toNat⟩, false)) ∧
  (∀ f b1 b0 : Byte,
    let b := 256 * b1.toNat + b0.toNat
    groupOf 3 [f, b1, b0] =
      if f = 0 then some (.tempo none, false)
      else if f = 1 then some (.tempo (some (max 2000 (min 24000 b))), decide (b < 2000 ∨ 24000 < b))
      else none) ∧
  (∀ o2 o1 o0 c2 c1 c0 r : Byte,
    let o := 65536 * o2.toNat + 256 * o1.toNat + o0.toNat
    let c := 65536 * c2.toNat + 256 * c1.toNat + c0.toNat
    groupOf 4 [o2, o1, o0, c2, c1, c0, r] =
      some (.gate ⟨min 8388607 o, min (min 8388607 o) c, max 4 (min 15 r.toNat)⟩,
        decide (8388607 < o ∨ min 8388607 o < c ∨ r.toNat < 4 ∨ 15 < r.toNat))) ∧
  (∀ a1 a0 i b1 b0 : Byte,
    let v : Shaper := ⟨256 * a1.toNat + a0.toNat, i.toNat, 256 * b1.toNat + b0.toNat⟩
    groupOf 5 [a1, a0, i, b1, b0] = (if i.toNat ≤ 7 then some (.drive v, false) else none) ∧
    groupOf 9 [a1, a0, i, b1, b0] = (if i.toNat ≤ 7 then some (.power v, false) else none)) ∧
  (∀ b : Fin 15 → Byte,
    let at' := fun i : Fin 5 => (b ⟨3 * i.val, by omega⟩ ++ b ⟨3 * i.val + 1, by omega⟩ ++ b ⟨3 * i.val + 2, by omega⟩).toInt
    let v : Coefs := ⟨at' 0, at' 1, at' 2, at' 3, at' 4⟩
    groupOf 6 (List.ofFn b) = some (.tone1 v, false) ∧ groupOf 7 (List.ofFn b) = some (.tone2 v, false) ∧
      groupOf 8 (List.ofFn b) = some (.tone3 v, false)) ∧
  (∀ i : Byte, groupOf 10 [i] =
    if i.toNat ≤ 15 then some (.cab (some i.toNat), false) else if i = 255 then some (.cab none, false) else none) ∧
  (∀ m l2 l1 l0 d f1 f0 y1 y0 w1 w0 : Byte,
    let len := 65536 * l2.toNat + 256 * l1.toNat + l0.toNat
    let fb := 256 * f1.toNat + f0.toNat
    groupOf 11 [m, l2, l1, l0, d, f1, f0, y1, y0, w1, w0] =
      if m.toNat ≤ 2 ∧ d.toNat ≤ 8 then
        some (.delay ⟨if m = 0 then .off else if m = 1 then .fixed else .tempo, min 96000 len, d.toNat, min 3891 fb,
          256 * y1.toNat + y0.toNat, 256 * w1.toNat + w0.toNat⟩, decide (96000 < len ∨ 3891 < fb))
      else none) ∧
  (∀ b1 b0 : Byte, groupOf 12 [b1, b0] = some (.lane (256 * b1.toNat + b0.toNat), false)) ∧
  (∀ s t c l1 l0 h1 h0 : Byte,
    let low := 256 * l1.toNat + l0.toNat
    let high := 256 * h1.toNat + h0.toNat
    assignOf [s, t, c, l1, l0, h1, h0] =
      if s.toNat ≤ 1 ∧ t.toNat ≤ 9 ∧ c.toNat ≤ 2 then
        some (⟨if s = 0 then .exp1 else .exp2, targets.getD t.toNat .drivePre,
          if c = 0 then .a else if c = 1 then .b else .both,
          if t = 6 then min 3891 low else low, if t = 6 then min 3891 high else high⟩,
          decide (t = 6 ∧ (3891 < low ∨ 3891 < high)))
      else none) ∧
  (∀ (n : Byte) (xs : List (List Byte)), xs.length = n.toNat → (∀ x ∈ xs, x.length = 7) →
    groupOf 2 (n :: xs.flatten) =
      if n.toNat ≤ 4 ∧ (∀ x ∈ xs, (assignOf x).isSome = true) ∧
          (xs.filterMap (fun x => (assignOf x).map Prod.fst)).Pairwise (fun x y =>
            ¬(x.target = y.target ∧
              (x.target = .fohLevel ∨ x.target = .monLevel ∨ x.target = .ampLevel ∨ x.chain = y.chain ∨ x.chain = .both ∨
                y.chain = .both))) then
        some (.expression (xs.filterMap (fun x => (assignOf x).map Prod.fst)),
          xs.any (fun x => (assignOf x).any Prod.snd))
      else none) ∧
  (∀ (n : Byte) (c : List Byte), c.length ≠ 7 * n.toNat → groupOf 2 (n :: c) = none)

/-- What writing a group replaces (R40, R71): the fields of that group, in the named chain for a chain group, and nothing else.
And encoding and decoding agree on presets (R207, R209): the content bytes a group query answers for a legal preset, sent back
as a group content, are that group with every field as it was and no clamp acting. -/
def Obligations.GroupBytesReadBack : Prop :=
  (∀ (p : Preset) (c : ChainId),
    (∀ label kind f h, p.putGroup c (.header label kind f h) = { p with label := label, kind := kind, fade := f, tailHold := h }) ∧
    (∀ v, p.putGroup c (.levels v) = { p with levels := v }) ∧
    (∀ v, p.putGroup c (.expression v) = { p with expression := v }) ∧
    (∀ v, p.putGroup c (.tempo v) = { p with tempo := v })) ∧
  (let replaces := fun (g : Group) (f : Chain → Chain) => ∀ p : Preset,
     p.putGroup .a g = { p with chainA := f p.chainA } ∧
       ∀ b, p.chainB = some b → p.putGroup .b g = { p with chainB := some (f b) }
   (∀ v, replaces (.gate v) (fun x => { x with gate := v })) ∧ (∀ v, replaces (.drive v) (fun x => { x with drive := v })) ∧
   (∀ v, replaces (.tone1 v) (fun x => { x with tone1 := v })) ∧ (∀ v, replaces (.tone2 v) (fun x => { x with tone2 := v })) ∧
   (∀ v, replaces (.tone3 v) (fun x => { x with tone3 := v })) ∧ (∀ v, replaces (.power v) (fun x => { x with power := v })) ∧
   (∀ v, replaces (.cab v) (fun x => { x with cab := v })) ∧ (∀ v, replaces (.delay v) (fun x => { x with delay := v })) ∧
   (∀ v, replaces (.lane v) (fun x => { x with level := v }))) ∧
  ∀ (p : Preset) (code : Nat) (c : ChainId), p.legal = true → code ≤ 12 → (c = .b → p.kind = .dual) →
    ∃ g, groupOf code (p.groupBytes code c) = some (g, false) ∧ groupFits p.kind code c g = true ∧ p.putGroup c g = p

/-- MAP_SET, PROFILE_PUT and INSTRUMENT_SELECT (R46, R48, R49, R6, R134) on a CREW link that accepts: one entry, one record, the
active index; the trim written as pending where the active profile's trim changes or is selected; and their refusals. -/
def Obligations.MapAndProfileRequests : Prop :=
  ∀ (s : State) (tag : Byte), accepting .crew s = true → tag ≠ 0 → tablesCanonical s = true →
    (∀ bank slot v : Byte, ∃ t, exec (.mapSet .crew tag [bank, slot, v]) s = .next t ∧
      (let ok := bank.toNat < 32 ∧ slot.toNat < 4 ∧ (v.toNat < 128 ∨ v = 255)
       (ok → carriedOut .mapSet .crew tag .ok [.stores] noClass s t ∧
         t.stores.mapEntry bank.toNat slot.toNat = (if v = 255 then none else some v.toNat) ∧
         (∀ b r : Nat, b < 32 → r < 4 → ¬(b = bank.toNat ∧ r = slot.toNat) → t.stores.mapEntry b r = s.stores.mapEntry b r) ∧
         t.stores = { s.stores with bankMap := t.stores.bankMap }) ∧
       (¬ok → refusedWith .mapSet .crew tag .badRequest s t))) ∧
    (∀ (i n t1 t0 : Byte) (label notes : List Byte), label.length = 12 → notes.length ≤ 8 →
      ∃ t, exec (.profilePut .crew tag ([i] ++ label ++ [n] ++ notes ++ [t1, t0])) s = .next t ∧
        (let ok := i.toNat < 8 ∧ 4 ≤ n.toNat ∧ n.toNat ≤ 8 ∧ notes.length = n.toNat
         let engaged := i.toNat = s.stores.active ∧ s.tuner.state ≠ .off
         let trim := 256 * t1.toNat + t0.toNat
         (¬ok → refusedWith .profilePut .crew tag .badRequest s t) ∧
         (ok → engaged → refusedWith .profilePut .crew tag .busy s t) ∧
         (ok → ¬engaged →
           carriedOut .profilePut .crew tag (if notes.any (fun x => decide (127 < x.toNat)) then .clamped else .ok)
             [.stores, .frontEnd] noClass s t ∧
           t.stores.profile i.toNat = ⟨label, notes.map (fun x => min 127 x.toNat), trim⟩ ∧
           (∀ j, j ≠ i.toNat → t.stores.profile j = s.stores.profile j) ∧
           t.stores = { s.stores with profiles := t.stores.profiles } ∧
           t.frontEnd =
             (if i.toNat = s.stores.active ∧ trim ≠ (s.stores.profile i.toNat).trim then
               { s.frontEnd with pendingTrim := some trim }
             else s.frontEnd)))) ∧
    (∀ i : Byte, ∃ t, exec (.instrumentSelect .crew tag [i]) s = .next t ∧
      (8 ≤ i.toNat → refusedWith .instrumentSelect .crew tag .badRequest s t) ∧
      (i.toNat < 8 → s.tuner.state ≠ .off → refusedWith .instrumentSelect .crew tag .busy s t) ∧
      (i.toNat < 8 → s.tuner.state = .off →
        carriedOut .instrumentSelect .crew tag .ok [.stores, .frontEnd] noClass s t ∧
        t.stores = { s.stores with active := i.toNat } ∧
        t.frontEnd = { s.frontEnd with pendingTrim := some (s.stores.profile i.toNat).trim }))

/-! ### Scenes and recalls -/

/-- EDIT (R70, R71, R100) on a CREW or SHOW link that accepts. For every group, the refusals in the order of the checks: a
content that is not well formed or an unknown chain, no working scene, a group the scene's kind does not take (chain B of a
SINGLE scene, another kind, an assignment on chain B or BOTH in a SINGLE scene), a curve or impulse that is not READY. For any
group but EXPRESSION, carried out: the group of the working scene is replaced whole and dirty is set; each lane that carries the
scene is written what the group changes on its chain, but for a target that an assignment of the scene names there. That a DELAY
edit leaves the lane's own fixed length and division code, and that a kind byte that is no code fails the first check, are the
model's choices (log 12, log 28). -/
def Obligations.EditChangesScene : Prop :=
  ∀ (s : State) (l : Link) (tag code ch : Byte) (content : List Byte), accepting l s = true → l ≠ .player → tag ≠ 0 →
    1 ≤ content.length → content.length ≤ 29 →
    ∃ t, exec (.edit l tag (code :: ch :: content)) s = .next t ∧
      (let chainGroup := 4 ≤ code.toNat ∧ code.toNat ≤ 12
       let c : ChainId := if chainGroup ∧ ch = 1 then .b else .a
       ((groupOf code.toNat content = none ∨ (chainGroup ∧ ch ≠ 0 ∧ ch ≠ 1)) → refusedWith .edit l tag .badRequest s t) ∧
       ∀ g acted, groupOf code.toNat content = some (g, acted) → (chainGroup → ch = 0 ∨ ch = 1) →
         (s.engine.scene = none → refusedWith .edit l tag .noScene s t) ∧
         ∀ sc, s.engine.scene = some sc →
           (groupFits sc.preset.kind code.toNat c g = true ↔
             (chainGroup → c = .b → sc.preset.kind = .dual) ∧
               (∀ label kind f h, g = .header label kind f h → kind = sc.preset.kind) ∧
               ∀ xs, g = .expression xs → sc.preset.kind = .single → ∀ x ∈ xs, x.chain = .a) ∧
           (groupFits sc.preset.kind code.toNat c g = false → refusedWith .edit l tag .badRequest s t) ∧
           (groupFits sc.preset.kind code.toNat c g = true → s.stores.groupReady g = false →
             refusedWith .edit l tag .notReady s t) ∧
           (groupFits sc.preset.kind code.toNat c g = true → s.stores.groupReady g = true → code ≠ 2 →
             carriedOut .edit l tag (if acted then .clamped else .ok) [.engine, .lanes] noClass s t ∧
             t.engine = { s.engine with scene := some { sc with preset := sc.preset.putGroup c g, dirty := true } } ∧
             ∀ i : LaneId,
               (¬((s.lanes.get i).state = .incoming ∨ (s.lanes.get i).state = .live) → t.lanes.get i = s.lanes.get i) ∧
               ((s.lanes.get i).state = .incoming ∨ (s.lanes.get i).state = .live →
                 let chain := (s.lanes.get i).role.chain
                 let n := (s.lanes.get i).pendingSet
                 let n' := (t.lanes.get i).pendingSet
                 let here := chainGroup → chain = c
                 t.lanes.get i = { s.lanes.get i with pendingSet := n' } ∧
                 (∀ τ : Target, n'.target τ =
                   (if here ∧ (g.baseValue τ).isSome = true ∧
                       sc.preset.expression.any (fun x => x.target == τ && x.onChain chain) = false
                     then g.baseValue τ else n.target τ)) ∧
                 n'.untargeted =
                   (match g with
                    | .gate v => if here then { n.untargeted with gate := some v } else n.untargeted
                    | .drive v => if here then { n.untargeted with driveCurve := some v.curve } else n.untargeted
                    | .tone1 v => if here then { n.untargeted with tone1 := some v } else n.untargeted
                    | .tone2 v => if here then { n.untargeted with tone2 := some v } else n.untargeted
                    | .tone3 v => if here then { n.untargeted with tone3 := some v } else n.untargeted
                    | .power v => if here then { n.untargeted with powerCurve := some v.curve } else n.untargeted
                    | .cab v => if here then { n.untargeted with cab := some v } else n.untargeted
                    | .delay v =>
                      if here then
                        { n.untargeted with delayMode := some v.mode, dry := some v.dry,
                                            length := some (deriveLength s.control.period v) }
                      else n.untargeted
                    | _ => n.untargeted))))

/-- EDIT of the EXPRESSION group (R71, R101) on a CREW or SHOW link that accepts, with a scene the list fits: the list is
replaced, its effective values are computed from the present positions, and each carrying lane is written, for every target that
the old or the new list names on its chain, the new effective value or, where only the old list names it, the base value. -/
def Obligations.EditExpression : Prop :=
  ∀ (s : State) (l : Link) (tag ch : Byte) (content : List Byte) (xs : List Assign) (acted : Bool) (sc : Scene),
    accepting l s = true → l ≠ .player → tag ≠ 0 → content.length ≤ 29 →
    groupOf 2 content = some (.expression xs, acted) → s.engine.scene = some sc →
    (sc.preset.kind = .single → ∀ x ∈ xs, x.chain = .a) →
    ∃ t, exec (.edit l tag (2 :: ch :: content)) s = .next t ∧
      carriedOut .edit l tag (if acted then .clamped else .ok) [.engine, .lanes] noClass s t ∧
      t.engine = { s.engine with
        scene := some { sc with preset := { sc.preset with expression := xs }, dirty := true,
                                effective := xs.map s.control.effective } } ∧
      ∀ i : LaneId,
        (¬((s.lanes.get i).state = .incoming ∨ (s.lanes.get i).state = .live) → t.lanes.get i = s.lanes.get i) ∧
        ((s.lanes.get i).state = .incoming ∨ (s.lanes.get i).state = .live →
          let chain := (s.lanes.get i).role.chain
          let n := (s.lanes.get i).pendingSet
          let n' := (t.lanes.get i).pendingSet
          t.lanes.get i = { s.lanes.get i with pendingSet := n' } ∧ n'.untargeted = n.untargeted ∧
          (∀ x ∈ xs, x.onChain chain = true → n'.target x.target = some (s.control.effective x)) ∧
          (∀ τ : Target, xs.any (fun x => x.target == τ && x.onChain chain) = false →
            n'.target τ = if sc.preset.expression.any (fun x => x.target == τ && x.onChain chain) = true
              then some ((sc.baseParams chain).target τ) else n.target τ))

/-- STORE (R73, R45) on a CREW link that accepts: the working scene's kind and base groups become the VALID record at the index,
the source index becomes that index and dirty clear; refused for an index out of range or with no scene (the index first: the
model's choice, log 29). -/
def Obligations.StoreWritesScene : Prop :=
  ∀ (s : State) (tag i : Byte), accepting .crew s = true → tag ≠ 0 → tablesCanonical s = true →
    ∃ t, exec (.store .crew tag [i]) s = .next t ∧
      (128 ≤ i.toNat → refusedWith .store .crew tag .badRequest s t) ∧
      (i.toNat < 128 → s.engine.scene = none → refusedWith .store .crew tag .noScene s t) ∧
      (∀ sc, i.toNat < 128 → s.engine.scene = some sc →
        carriedOut .store .crew tag .ok [.stores, .engine] noClass s t ∧ t.stores.preset i.toNat = .valid sc.preset ∧
        (∀ j, j ≠ i.toNat → t.stores.preset j = s.stores.preset j) ∧ t.stores = { s.stores with presets := t.stores.presets } ∧
        t.engine = { s.engine with scene := some { sc with source := i.toNat, dirty := false } })

/-- RECALL and RECALL_INDEX refused on arrival (R79, R80) on a link that accepts: the result of the first check that fails, and
the MINOR fault it writes, which fills an empty capture and changes no other; slots, grant and tenure stay as they were. -/
def Obligations.RecallRefusedOnArrival : Prop :=
  ∀ (s : State) (l : Link) (tag : Byte), accepting l s = true → tag ≠ 0 →
    let refused := fun (ty : ReqType) (r : Result) (f : FaultRec) (t : State) =>
      carriedOut ty l tag r [.capture] (fun _ n => n == .fault && s.capture.isNone) s t ∧
        t.capture = if s.capture = none then some f else s.capture
    (∀ pos slot flags : Byte, ∃ t, exec (.recall l tag [pos, slot, flags]) s = .next t ∧
      (let w := s.arbiter.windows.get l
       let entry := s.stores.mapEntry (w.base + pos.toNat) slot.toNat
       (w.size ≤ pos.toNat → refused .recall .outOfWindow ⟨.outOfWindow, some l, some (pos.toNat, slot.toNat), none⟩ t) ∧
       (pos.toNat < w.size → 4 ≤ slot.toNat → refusedWith .recall l tag .badRequest s t) ∧
       (pos.toNat < w.size → slot.toNat < 4 → entry = none →
         refused .recall .emptySlot ⟨.emptySlot, some l, some (w.base + pos.toNat, slot.toNat), none⟩ t) ∧
       (∀ i, pos.toNat < w.size → slot.toNat < 4 → entry = some i → (∀ p, s.stores.preset i ≠ .valid p) →
         refused .recall .noPreset ⟨.noPreset, some l, none, some i⟩ t))) ∧
    (l = .crew → ∀ i : Byte, ∃ t, exec (.recallIndex l tag [i]) s = .next t ∧
      (128 ≤ i.toNat → refusedWith .recallIndex l tag .badRequest s t) ∧
      (i.toNat < 128 → (∀ p, s.stores.preset i.toNat ≠ .valid p) →
        refused .recallIndex .noPreset ⟨.noPreset, some l, none, some i.toNat⟩ t))

/-- A recall that passes its checks and cannot be granted (R82, R83, R84, R89) because a transition is in flight or a tenure
bars its link: with IMMEDIATE it is refused HELD_OFF and leaves the slots alone; otherwise it takes its link's slot, its
response slot staying reserved, and a recall that waited there is answered SUPERSEDED with its own tag. -/
def Obligations.RecallWaits : Prop :=
  ∀ (s : State) (l : Link) (tag : Byte) (i : Nat) (byIndex : Bool) (c : Instr) (p : Preset), accepting l s = true →
    tag ≠ 0 → recallOf l tag i byIndex c s → s.stores.preset i = .valid p → restLaw s = true →
    (s.engine.transition.isSome = true ∨ s.arbiter.barred l = true) →
    let immediate := ∃ pos slot flags : Byte, c = .recall l tag [pos, slot, flags] ∧ flags.toNat % 2 = 1
    ∃ t, exec c s = .next t ∧
      (immediate → refusedWith .recall l tag .heldOff s t) ∧
      (¬immediate → changesOnly [.links, .arbiter] s t ∧ announces noClass s t ∧
        (∃ w : Waiting, w.index = i ∧ w.tag = tag ∧ (w.place = none ↔ byIndex = true) ∧
          (∀ pos slot flags : Byte, c = .recall l tag [pos, slot, flags] → w.place = some (pos.toNat, slot.toNat)) ∧
          t.arbiter = { s.arbiter with slots := s.arbiter.slots.set l (some w) }) ∧
        (∀ k : Link, k ≠ l → (t.link k).core = (s.link k).core) ∧
        (s.arbiter.slots.get l = none →
          (t.link l).core = { (s.link l).core with rx := .hunt, gap := 0, reserved := (s.link l).reserved + 1 }) ∧
        (∀ old, s.arbiter.slots.get l = some old →
          (t.link l).core = { (s.link l).core with
            rx := .hunt, gap := 0
            queue := (s.link l).queue ++
              [resultMessage (if old.place = none then .recallIndex else .recall) old.tag .superseded] }))

/-- A recall granted in the handling of its arrival that begins no transition (R56, R57, R85, R92): LOAD_FAIL where the preset
names a curve or impulse that is not READY, with a MAJOR fault; SAME where the scene has that source and is clean. Only the
response, the fault and, for the PLAYER, the tuner's disengagement come of it. -/
def Obligations.GrantEndsAtOnce : Prop :=
  ∀ (s : State) (l : Link) (tag : Byte) (i : Nat) (byIndex : Bool) (c : Instr) (p : Preset), grantsAtOnce l s = true →
    tag ≠ 0 → recallOf l tag i byIndex c s → s.stores.preset i = .valid p →
    let ty : ReqType := if byIndex then .recallIndex else .recall
    let ready := ∀ x : Chain, (x = p.chainA ∨ p.chainB = some x) →
      (s.stores.curve x.drive.curve).state = .ready ∧ (s.stores.curve x.power.curve).state = .ready ∧
        ∀ k, x.cab = some k → (s.stores.impulse k).state = .ready
    ∃ t, exec c s = .next t ∧
      (¬ready →
        changesOnly [.links, .tuner, .mixer, .capture] s t ∧ respondsWith l (resultMessage ty tag .loadFail) s t ∧
        tunerAfterGrant l s t ∧
        t.capture = (if captureLocked s = true then s.capture else some ⟨.loadFail, some l, none, some i⟩) ∧
        announces (fun _ n => grantRaises l s n || (n == .fault && !captureLocked s)) s t) ∧
      (ready → ∀ sc, s.engine.scene = some sc → sc.source = i → sc.dirty = false →
        changesOnly [.links, .tuner, .mixer] s t ∧ respondsWith l (resultMessage ty tag .same) s t ∧
        tunerAfterGrant l s t ∧ announces (fun _ n => grantRaises l s n) s t)

/-- A grant that begins a FADE (R58, R59, R60, R61, R85, R92): between SINGLE scenes, or from no scene into a SINGLE, with the
lane that is not LIVE as target. An IDLE target is loaded at once and the LIVE lane becomes OUTGOING; a TAILING target becomes
CUTTING with TAIL_CUT set and PREPARE waits; a CUTTING target is left to its cut. SCENE is raised and the response waits. -/
def Obligations.GrantBeginsFade : Prop :=
  ∀ (s : State) (l : Link) (tag : Byte) (i : Nat) (byIndex : Bool) (c : Instr) (p : Preset), grantsAtOnce l s = true →
    tag ≠ 0 → recallOf l tag i byIndex c s → s.stores.preset i = .valid p → s.stores.presetReady p = true →
    p.kind = .single → (∀ sc, s.engine.scene = some sc → sc.preset.kind = .single ∧ (sc.source ≠ i ∨ sc.dirty = true)) →
    let x : LaneId := if s.lanes.a.state = .live then .b else .a
    let tr := grantedRecord l i p .fade (some x)
    ∃ t, exec c s = .next t ∧ grantMade l tag byIndex s t ∧ tunerAfterGrant l s t ∧
      ((s.lanes.get x).state = .idle →
        sceneReplaced tr s t ∧ fadeLoaded x s t ∧
        changesOnly [.links, .arbiter, .tuner, .mixer, .engine, .lanes, .control] s t ∧
        announces (fun _ n => grantRaises l s n || n == .scene || loadRaises p s n) s t) ∧
      ((s.lanes.get x).state = .tailing →
        t.engine = { s.engine with transition := some { tr with tailCut := true } } ∧
        t.lanes = s.lanes.set x { s.lanes.get x with state := .cutting } ∧
        changesOnly [.links, .arbiter, .tuner, .mixer, .engine, .lanes] s t ∧
        announces (fun _ n => grantRaises l s n || n == .scene) s t) ∧
      ((s.lanes.get x).state = .cutting →
        t.engine = { s.engine with transition := some tr } ∧
        changesOnly [.links, .arbiter, .tuner, .mixer, .engine] s t ∧
        announces (fun _ n => grantRaises l s n || n == .scene) s t)

/-- A grant that begins a DIP (R58, R65, R66): where the scene or the preset is DUAL. TAIL_CUT is set if a lane is TAILING.
While a lane that is not IDLE sounds, DIP_OUT waits and the lanes keep their states; with every lane IDLE or silent the new
scene is loaded at once, a DUAL on both lanes, a SINGLE on lane A. -/
def Obligations.GrantBeginsDip : Prop :=
  ∀ (s : State) (l : Link) (tag : Byte) (i : Nat) (byIndex : Bool) (c : Instr) (p : Preset), grantsAtOnce l s = true →
    tag ≠ 0 → recallOf l tag i byIndex c s → s.stores.preset i = .valid p → s.stores.presetReady p = true →
    (p.kind = .dual ∨ ∃ sc, s.engine.scene = some sc ∧ sc.preset.kind = .dual) →
    (∀ sc, s.engine.scene = some sc → sc.source ≠ i ∨ sc.dirty = true) →
    let tr := { grantedRecord l i p .dip none with
      tailCut := decide (s.lanes.a.state = .tailing ∨ s.lanes.b.state = .tailing) }
    let silent := ∀ y : LaneId, (s.lanes.get y).state = .idle ∨ (s.lanes.get y).outRamp = 0
    ∃ t, exec c s = .next t ∧ grantMade l tag byIndex s t ∧ tunerAfterGrant l s t ∧
      (¬silent →
        t.engine = { s.engine with transition := some tr } ∧
        changesOnly [.links, .arbiter, .tuner, .mixer, .engine] s t ∧
        announces (fun _ n => grantRaises l s n || n == .scene) s t) ∧
      (silent →
        sceneReplaced tr s t ∧ dipLoaded s t ∧
        changesOnly [.links, .arbiter, .tuner, .mixer, .engine, .lanes, .control] s t ∧
        announces (fun _ n => grantRaises l s n || n == .scene || loadRaises p s n) s t)

/-- DIP_OUT_END (R65, R66, R60): when every lane is IDLE or silent in DIP_OUT, every lane becomes IDLE and the load step is
taken, a DUAL scene on both lanes, a SINGLE on lane A; TEMPO is raised where the preset's tempo is applied. The gate takes the
meter as it stands after the frame (the model's choice, log 27). -/
def Obligations.DipOutEndLoads : Prop :=
  ∀ (s : State) (tr : Transition), s.engine.transition = some tr → tr.kind = .dip → tr.phase = .dipOut →
    (∀ y : LaneId, (s.lanes.get y).state = .idle ∨ (s.lanes.get y).outRamp = 0) →
    ∃ t, exec .dipOutEnd s = .next t ∧ sceneReplaced tr s t ∧ dipLoaded s t ∧
      changesOnly [.links, .engine, .lanes, .control] s t ∧ linksKept s t ∧
      announces (fun _ n => loadRaises tr.copied s n) s t

/-- FADE_COMPLETE and DIP_COMPLETE (R63, R68, R69, R84, R86, R88, R89): the incoming lanes become LIVE, the outgoing lane of a
FADE becomes TAILING for the tail hold or CUTTING; the record becomes the last report, the engine goes READY, SCENE is raised,
the recall is answered DONE if its response is owed, and the origin's tenure begins if its setting is above 0. Then the arbiter
looks: where every recall that waits is barred by the tenure that now stands, that is all; where one recall waits and is not
barred, it is granted in the same step. That a lane which becomes LIVE keeps its pending set, and that a lane which this grant
loads takes the meter as it stands after the frame that ended the ramp, are the model's choices (log 11, log 27). -/
def Obligations.TransitionCompletes : Prop :=
  ∀ (s : State) (tr : Transition), s.engine.transition = some tr → tr.fade ≤ tr.j →
    let tenure := if s.arbiter.tenureSetting.get tr.origin = 0 then s.arbiter.tenure
      else some ⟨tr.origin, 8 * s.arbiter.tenureSetting.get tr.origin⟩
    let barred := fun k : Link => ∃ r : Tenure, tenure = some r ∧ linkRank r.owner < linkRank k
    let completed := fun u : State =>
      u.engine = { s.engine with
        transition := none, report := some ⟨tr.origin, tr.kind, tr.tailCut, tr.editsDiscarded⟩ } ∧
      u.arbiter = { s.arbiter with grant := none, tenure := tenure } ∧
      (∀ g, s.arbiter.grant = some g → g.owed = true →
        (u.link g.origin).core = { (s.link g.origin).core with
          reserved := (s.link g.origin).reserved - 1
          queue := (s.link g.origin).queue ++ [resultMessage (if g.byIndex then .recallIndex else .recall) g.tag .done] } ∧
        ∀ k : Link, k ≠ g.origin → (u.link k).core = (s.link k).core) ∧
      ((∀ g, s.arbiter.grant = some g → g.owed = false) → linksKept s u) ∧
      changesOnly [.links, .engine, .lanes, .arbiter] s u ∧ announces (oneClass .scene) s u
    let settled := fun u t : State =>
      ((∀ k, s.arbiter.slots.get k = none ∨ barred k) → t = u) ∧
      ∀ (l : Link) (w : Waiting), s.arbiter.slots.get l = some w → (∀ k, k ≠ l → s.arbiter.slots.get k = none) → ¬barred l →
        grantTaken l w u t
    (tr.phase = .cross → ∃ t u, exec .fadeComplete s = .next t ∧ settled u t ∧ completed u ∧
      ∀ i : LaneId, u.lanes.get i =
        (match (s.lanes.get i).state with
         | .incoming => { s.lanes.get i with state := .live }
         | .outgoing =>
           if 0 < tr.tailHold.getD 0 then
             { s.lanes.get i with state := .tailing, floorCount := 0, tailTimer := 48 * tr.tailHold.getD 0 }
           else { s.lanes.get i with state := .cutting }
         | _ => s.lanes.get i)) ∧
    (tr.phase = .dipIn → ∃ t u, exec .dipComplete s = .next t ∧ settled u t ∧ completed u ∧
      ∀ i : LaneId, u.lanes.get i =
        (if (s.lanes.get i).state = .incoming then { s.lanes.get i with state := .live } else s.lanes.get i))

/-- TAIL_TIMER_EXPIRY, TAIL_FLOOR_END and CUT_END (R64, R59, R28, R60, R61): a TAILING lane at the end of its timer becomes
CUTTING; a TAILING lane at the end of its floor counter and a CUTTING lane at output ramp 0 become IDLE, and a PREPARE that
waits for that lane takes the load step in the same handling, with the meter as it stands after the frame (the model's choice,
log 27). -/
def Obligations.TailsAndCutsEnd : Prop :=
  ∀ (s : State) (x : LaneId),
    ((s.lanes.get x).state = .tailing → (s.lanes.get x).tailTimer = 0 →
      ∃ t, exec (.tailTimerExpiry x) s = .next t ∧ t.lanes = s.lanes.set x { s.lanes.get x with state := .cutting } ∧
        changesOnly [.links, .lanes] s t ∧ linksKept s t ∧ announces noClass s t) ∧
    ∀ c : Instr,
      (c = .tailFloorEnd x ∧ (s.lanes.get x).state = .tailing ∧ (s.lanes.get x).floorCount = 4800) ∨
        (c = .cutEnd x ∧ (s.lanes.get x).state = .cutting ∧ (s.lanes.get x).outRamp = 0) →
      ∃ t, exec c s = .next t ∧ linksKept s t ∧
        (¬(∃ tr, s.engine.transition = some tr ∧ tr.phase = .prepare ∧ tr.target = some x) →
          t.lanes = s.lanes.set x { s.lanes.get x with state := .idle, pendingSet := .empty, delayClamped := false } ∧
          changesOnly [.links, .lanes] s t ∧ announces noClass s t) ∧
        ∀ tr, s.engine.transition = some tr → tr.phase = .prepare → tr.kind = .fade → tr.target = some x →
          sceneReplaced tr s t ∧ fadeLoaded x s t ∧ changesOnly [.links, .engine, .lanes, .control] s t ∧
            announces (fun _ n => loadRaises tr.copied s n) s t

/-- WINDOW_SET (R78) on a CREW link that accepts: the named link's window is replaced whole; refused for an unknown link, a size
that is no power of two up to 32, or a base out of range or not a multiple of the size. -/
def Obligations.WindowSetReplacesWindow : Prop :=
  ∀ (s : State) (tag k base size : Byte), accepting .crew s = true → tag ≠ 0 →
    ∃ t, exec (.windowSet .crew tag [k, base, size]) s = .next t ∧
      (let ok := k.toNat ≤ 2 ∧ size.toNat ∈ [1, 2, 4, 8, 16, 32] ∧ base.toNat < 32 ∧ base.toNat % size.toNat = 0
       (ok → carriedOut .windowSet .crew tag .ok [.arbiter] noClass s t ∧
         t.arbiter = { s.arbiter with
           windows := s.arbiter.windows.set (if k = 0 then .player else if k = 1 then .crew else .showControl)
             ⟨base.toNat, size.toNat⟩ }) ∧
       (¬ok → refusedWith .windowSet .crew tag .badRequest s t))

/-- TENURE_EXPIRY (R84, R85, R88, R56 to R59, R65): the tenure ends and the arbiter looks. With every slot empty, or with a
transition in flight, that is all. With the engine READY the occupied slot of the highest rank is granted, whatever the grant
comes to: NO_PRESET, LOAD_FAIL or SAME, where no other recall waits; a FADE into an IDLE, a TAILING or a CUTTING target; a DIP.
A count of 0 as the mark of a due expiry is the model's (log 4). -/
def Obligations.TenureExpiryGrants : Prop :=
  ∀ (s : State) (o : Link), s.arbiter.tenure = some ⟨o, 0⟩ →
    ∃ t, exec .tenureExpiry s = .next t ∧
      ((∀ k, s.arbiter.slots.get k = none) ∨ s.engine.transition.isSome = true →
        t.arbiter = { s.arbiter with tenure := none } ∧ changesOnly [.links, .arbiter] s t ∧ linksKept s t ∧
          announces noClass s t) ∧
      ∀ (l : Link) (w : Waiting), s.engine.transition = none → s.arbiter.slots.get l = some w →
        (∀ k, linkRank k < linkRank l → s.arbiter.slots.get k = none) →
        grantTaken l w (s.withArbiter { s.arbiter with tenure := none }) t

/-! ### Expression and tempo -/

/-- Effective values (R98, R54): low plus (high − low)·P / 1023 truncated toward zero, low at P = 0 and high at P = 1023,
between the two; a DELAY_FEEDBACK is then kept to 3,891. What a load takes for a target on a chain is the effective value of the
assignment that names it there, and the base value where none does; nothing else of the chain differs from its base. -/
def Obligations.EffectiveValues : Prop :=
  (∀ (x : Assign) (p : Nat), p ≤ 1023 →
      let v : Int := x.low + (((x.high : Int) - x.low) * p).tdiv 1023
      (x.valueAt p : Int) = (if x.target = .delayFeedback then min v 3891 else v) ∧
        (min x.low x.high : Int) ≤ v ∧ v ≤ (max x.low x.high : Int) ∧ (p = 0 → v = x.low) ∧ (p = 1023 → v = x.high)) ∧
  ∀ (sc : Scene) (c : ChainId), anyClash sc.preset.expression = false → sc.effective.length = sc.preset.expression.length →
    (∀ x v, (x, v) ∈ sc.preset.expression.zip sc.effective → x.onChain c = true → (sc.params c).target x.target = v) ∧
    (∀ τ : Target, sc.preset.expression.any (fun x => x.target == τ && x.onChain c) = false →
      (sc.params c).target τ = (sc.baseParams c).target τ) ∧
    (let p := (sc.params c).chain
     let b := sc.preset.chain c
     p.gate = b.gate ∧ p.drive.curve = b.drive.curve ∧ p.tone1 = b.tone1 ∧ p.tone2 = b.tone2 ∧ p.tone3 = b.tone3 ∧
       p.power.curve = b.power.curve ∧ p.cab = b.cab ∧ p.delay.mode = b.delay.mode ∧
       p.delay.fixedLength = b.delay.fixedLength ∧ p.delay.division = b.delay.division ∧ p.delay.dry = b.delay.dry)

/-- Delay lengths (R109): the fixed length in OFF and FIXED, the period times the division in TEMPO, floored, each clamped to
48..96,000; the indication is set exactly where the clamp acts in TEMPO, which only its upper end can do. -/
def Obligations.DelayLengths : Prop :=
  (∀ (period : Nat) (d : Delay), 48 ≤ (deriveLength period d).1 ∧ (deriveLength period d).1 ≤ 96000 ∧
    (d.mode ≠ .tempo → deriveLength period d = (max 48 (min 96000 d.fixedLength), false))) ∧
  (∀ (period : Nat) (d : Delay) (num den : Nat), d.mode = .tempo →
    (d.division, num, den) ∈ [(0, 4, 1), (1, 2, 1), (2, 3, 2), (3, 1, 1), (4, 3, 4), (5, 2, 3), (6, 1, 2), (7, 1, 3), (8, 1, 4)] →
    deriveLength period d = (max 48 (min 96000 (period * num / den)),
      decide (period * num / den < 48 ∨ 96000 < period * num / den)) ∧
    (12000 ≤ period → 3000 ≤ period * num / den))

/-- PEDAL (R96, R97, R99) on a PLAYER link that accepts: the position, clamped to 1023, enters the source's history; the scene's
assignments of that source take the effective values of the new smoothed position, and each is written toward every lane that
carries the scene and is reached by it; an unknown source is refused. -/
def Obligations.PedalMovesTargets : Prop :=
  ∀ (s : State) (tag src p1 p0 : Byte), accepting .player s = true → tag ≠ 0 → presetLaw s = true → derivedLaw s = true →
    ∃ t, exec (.pedal .player tag [src, p1, p0]) s = .next t ∧
      (src ≠ 0 ∧ src ≠ 1 → refusedWith .pedal .player tag .badRequest s t) ∧
      (src = 0 ∨ src = 1 →
        let pos := 256 * p1.toNat + p0.toNat
        let source : Source := if src = 0 then .exp1 else .exp2
        let h := if src = 0 then s.control.exp1 else s.control.exp2
        let h' : History := ⟨h.p1, h.p2, h.p3, min 1023 pos⟩
        let smoothed := (h.p1 + h.p2 + h.p3 + min 1023 pos) / 4
        carriedOut .pedal .player tag (if 1023 < pos then .clamped else .ok) [.control, .engine, .lanes] noClass s t ∧
        t.control = (if src = 0 then { s.control with exp1 := h' } else { s.control with exp2 := h' }) ∧
        (s.engine.scene = none → t.engine = s.engine ∧ t.lanes = s.lanes) ∧
        ∀ sc, s.engine.scene = some sc →
          t.engine = { s.engine with
            scene := some { sc with effective := sc.preset.expression.map t.control.effective } } ∧
          ∀ i : LaneId,
            (¬((s.lanes.get i).state = .incoming ∨ (s.lanes.get i).state = .live) → t.lanes.get i = s.lanes.get i) ∧
            ((s.lanes.get i).state = .incoming ∨ (s.lanes.get i).state = .live →
              let chain := (s.lanes.get i).role.chain
              let n := (s.lanes.get i).pendingSet
              let n' := (t.lanes.get i).pendingSet
              t.lanes.get i = { s.lanes.get i with pendingSet := n' } ∧ n'.untargeted = n.untargeted ∧
              (∀ x ∈ sc.preset.expression, x.source = source → x.onChain chain = true →
                n'.target x.target = some (x.valueAt smoothed)) ∧
              (∀ τ : Target, (∀ x ∈ sc.preset.expression, x.source = source → x.onChain chain = true → x.target ≠ τ) →
                n'.target τ = n.target τ)))

/-- TAP and TEMPO (R104, R105, R108, R110): a tap while locked is refused; a first tap or one whose interval lies outside
12,000..144,000 restarts the sequence; a tap in range joins the last four intervals and sets the period to their floored mean.
TEMPO clamps its value, sets period, source and lock and clears the taps. Each write raises TEMPO and writes the length that
follows toward every lane that carries the scene. -/
def Obligations.TapAndTempoWriteTempo : Prop :=
  ∀ (s : State) (tag : Byte), tag ≠ 0 →
    let lengths := fun t : State =>
      ∀ i : LaneId, t.lanes.get i =
        (match s.engine.scene with
         | some sc =>
           if (s.lanes.get i).state = .incoming ∨ (s.lanes.get i).state = .live then
             { s.lanes.get i with pendingSet := { (s.lanes.get i).pendingSet with
                 length := some (deriveLength t.control.period (sc.preset.chain (s.lanes.get i).role.chain).delay) } }
           else s.lanes.get i
         | none => s.lanes.get i)
    (accepting .player s = true → ∃ t, exec (.tap .player tag []) s = .next t ∧
      (s.control.locked = true → refusedWith .tap .player tag .locked s t) ∧
      (s.control.locked = false →
        let now := s.frontEnd.frameCount
        let gap := fun prev : BitVec 32 => (now - prev).toNat
        ((∀ prev, s.control.prevTap = some prev → gap prev < 12000 ∨ 144000 < gap prev) →
          carriedOut .tap .player tag .ok [.control] noClass s t ∧
          t.control = { s.control with prevTap := some now, intervals := [] }) ∧
        (∀ prev, s.control.prevTap = some prev → 12000 ≤ gap prev → gap prev ≤ 144000 → s.control.intervals.length ≤ 4 →
          let xs := (if s.control.intervals.length = 4 then s.control.intervals.tail else s.control.intervals) ++ [gap prev]
          carriedOut .tap .player tag .ok [.control, .lanes] (oneClass .tempo) s t ∧
          t.control = { s.control with period := xs.sum / xs.length, source := .tap, prevTap := some now, intervals := xs } ∧
          lengths t))) ∧
    (accepting .showControl s = true → ∀ b1 b0 lock : Byte, ∃ t, exec (.tempo .showControl tag [b1, b0, lock]) s = .next t ∧
      (lock ≠ 0 ∧ lock ≠ 1 → refusedWith .tempo .showControl tag .badRequest s t) ∧
      (lock = 0 ∨ lock = 1 →
        let sent := 256 * b1.toNat + b0.toNat
        let b := max 2000 (min 24000 sent)
        carriedOut .tempo .showControl tag (if b = sent then .ok else .clamped) [.control, .lanes] (oneClass .tempo) s t ∧
        t.control = { s.control with
          period := (576000000 + b) / (2 * b), source := .showSystem, locked := decide (lock = 1), prevTap := none
          intervals := [] } ∧
        lengths t))

/-! ### The tuner -/

/-- TUNER_ENGAGE and TUNER_RELEASE (R115, R116, R132) on a PLAYER or CREW link that accepts: an engagement from OFF starts the
detection afresh, one while engaged changes only mode and mute flag; a release takes an engaged tuner OFF and leaves one that is
OFF alone; the mixer is handed the tuner mute request and set, and MUTE is raised when the request changes. -/
def Obligations.TunerEngageAndRelease : Prop :=
  ∀ (s : State) (l : Link) (tag : Byte), accepting l s = true → l ≠ .showControl → tag ≠ 0 →
    let fresh : Tuner := { s.tuner with
      sum := 0, count := 0, index := 0, prevSample := none, polarity := .low, prevCrossing := none, group := [], stale := 0
      current := none }
    (∀ mode mute : Byte, ∃ t, exec (.tunerEngage l tag [mode, mute]) s = .next t ∧
      (¬((mode = 0 ∨ mode = 1) ∧ (mute = 0 ∨ mute = 1)) → refusedWith .tunerEngage l tag .badRequest s t) ∧
      ((mode = 0 ∨ mode = 1) ∧ (mute = 0 ∨ mute = 1) →
        let m : TunerMode := if mode = 0 then .free else .string
        let f := decide (mute = 1)
        carriedOut .tunerEngage l tag .ok [.tuner, .mixer]
          (fun _ n => n == .tuner || (n == .mute && s.mixer.tunerMute != f)) s t ∧
        t.tuner = (if s.tuner.state = .off then { fresh with state := .listening, mode := m, muteFlag := f }
          else { s.tuner with mode := m, muteFlag := f }) ∧
        t.mixer = { s.mixer with tunerMute := f, tunerSet := s.tuner.muteSet })) ∧
    ∃ t, exec (.tunerRelease l tag []) s = .next t ∧
      (s.tuner.state = .off → carriedOut .tunerRelease l tag .ok [] noClass s t) ∧
      (s.tuner.state ≠ .off →
        carriedOut .tunerRelease l tag .ok [.tuner, .mixer]
          (fun _ n => n == .tuner || (n == .mute && s.mixer.tunerMute)) s t ∧
        t.tuner = { fresh with state := .off } ∧ t.mixer = { s.mixer with tunerMute := false, tunerSet := s.tuner.muteSet })

/-- DECIMATED_SAMPLE and TUNER_STALE (R118 to R125, R131): the eight samples give their floored mean; the polarity moves by the
two thresholds; a rising crossing with presence and a previous sample is placed by interpolation and gives a period; the period
joins or breaks the group, and the eighth of a group makes a reading; without one the stale count of a READING tuner rises. At
1,500 the tuner returns to LISTENING with no reading. Readings and the return raise TUNER. A count of eight, which says that the
sample is due, is the model's (log 4). -/
def Obligations.DecimatedSampleHandled : Prop :=
  (∀ s : State, s.tuner.state ≠ .off → s.tuner.count = 8 →
    ∃ t, exec .decimatedSample s = .next t ∧ changesOnly [.links, .tuner] s t ∧ linksKept s t ∧
      (let u := s.tuner
       let d := u.sum / 8
       let h : Int := u.hysteresis
       let presence := s.frontEnd.presence
       let rise := u.polarity = .low ∧ h < d
       let time := fun prev : Int =>
         BitVec.ofInt 32 ((((u.index + 16777215) % 16777216 : Nat) : Int) * 256 + ((h - prev) * 256) / (d - prev))
       let near := fun p q : Nat => max p q - min p q ≤ q / 8
       let made := fun total : Nat => presence = true ∧ rise ∧ ∃ prev before q, u.prevSample = some prev ∧
         u.prevCrossing = some before ∧ u.group.length = 7 ∧ u.group.getLast? = some q ∧
         (let p := (time prev - before).toNat
          1024 ≤ p ∧ p ≤ 61440 ∧ near p q ∧ total = u.group.sum + p)
       t.tuner = { u with
         sum := 0, count := 0, index := (u.index + 1) % 16777216, prevSample := some d, polarity := t.tuner.polarity
         prevCrossing := t.tuner.prevCrossing, group := t.tuner.group, state := t.tuner.state, stale := t.tuner.stale
         current := t.tuner.current } ∧
       (t.tuner.polarity = .high ↔ ((u.polarity = .high ∧ -h ≤ d) ∨ rise)) ∧
       (presence = false → t.tuner.prevCrossing = none ∧ t.tuner.group = []) ∧
       (presence = true → ¬(rise ∧ u.prevSample.isSome = true) →
         t.tuner.prevCrossing = u.prevCrossing ∧ t.tuner.group = u.group) ∧
       (∀ prev, presence = true → rise → u.prevSample = some prev →
         t.tuner.prevCrossing = some (time prev) ∧
         (u.prevCrossing = none → t.tuner.group = []) ∧
         ∀ before, u.prevCrossing = some before →
           let p := (time prev - before).toNat
           t.tuner.group =
             (if p < 1024 ∨ 61440 < p then []
              else match u.group.getLast? with
                | none => [p]
                | some q => if near p q ∧ u.group.length ≠ 7 then u.group ++ [p] else [])) ∧
       (∀ total, made total →
         t.tuner.state = .reading ∧ t.tuner.current = some (readingOf u s.stores.activeProfile.notes total) ∧
         t.tuner.stale = 0 ∧ announces (oneClass .tuner) s t) ∧
       ((∀ total, ¬made total) →
         t.tuner.state = u.state ∧ t.tuner.current = u.current ∧
         t.tuner.stale = (if u.state = .reading then min (u.stale + 1) 1500 else u.stale) ∧ announces noClass s t))) ∧
  ∀ s : State, s.tuner.state = .reading → s.tuner.stale = 1500 →
    ∃ t, exec .tunerStale s = .next t ∧ changesOnly [.links, .tuner] s t ∧ linksKept s t ∧
      t.tuner = { s.tuner with state := .listening, current := none, stale := 0 } ∧ announces (oneClass .tuner) s t

/-- The target and the deviation of a FREE reading (R127, R129): the note is the floor of x + 1/2 with x = 69 + 12·log2(f·100 /
ref), a note in 0..127; the deviation is the whole number nearest to 12,000·log2(f / f_n), within −500..+500; and a deviation
from any note is that nearest whole number clamped to −9,999..+9,999. -/
def Obligations.TargetAndDeviation : Prop :=
  ∀ (ref sum : Nat), 40000 ≤ ref → ref ≤ 46600 → 8192 ≤ sum → sum ≤ 491520 →
    let f : ℝ := 12288000 / sum
    let tenths := fun n : Int => 12000 * Real.logb 2 (f / ((ref / 100 : ℝ) * (2 : ℝ) ^ (((n : ℝ) - 69) / 12)))
    freeNote ref sum = ⌊69 + 12 * Real.logb 2 (f * 100 / ref) + 1 / 2⌋ ∧ 0 ≤ freeNote ref sum ∧ freeNote ref sum ≤ 127 ∧
    (∀ n : Int, ∃ z : Int, |tenths n - z| < 1 / 2 ∧ deviation ref sum n = max (-9999) (min 9999 z)) ∧
    -500 ≤ deviation ref sum (freeNote ref sum) ∧ deviation ref sum (freeNote ref sum) ≤ 500

/-- A reading (R126, R128, R130, R131): frequency in centihertz rounded half up; in STRING mode the string whose note is nearest
to f in octaves, the lowest number among equals; in FREE mode the FREE note and no string; the deviation from the target and its
band. -/
def Obligations.ReadingRecord : Prop :=
  ∀ (u : Tuner) (notes : List Nat) (sum : Nat), 40000 ≤ u.reference → u.reference ≤ 46600 → 8192 ≤ sum → sum ≤ 491520 →
    notes ≠ [] → (∀ n ∈ notes, n ≤ 127) →
    let r := readingOf u notes sum
    let f : ℝ := 12288000 / sum
    let dist := fun n : Nat => |Real.logb 2 (f / ((u.reference / 100 : ℝ) * (2 : ℝ) ^ (((n : ℝ) - 69) / 12)))|
    r.mode = u.mode ∧ r.centihertz = (2457600000 + sum) / (2 * sum) ∧ r.deviation = deviation u.reference sum r.note ∧
    (u.mode = .free → r.string = none ∧ (r.note : Int) = freeNote u.reference sum) ∧
    (u.mode = .string → ∃ k : Nat, r.string = some (k + 1) ∧ notes[k]? = some r.note ∧
      (∀ n ∈ notes, dist r.note ≤ dist n) ∧ ∀ (j n : Nat), j < k → notes[j]? = some n → dist r.note < dist n) ∧
    (1 ≤ u.wIn → u.wIn ≤ u.wNear →
      (r.band = .inTune ↔ -(u.wIn : Int) ≤ r.deviation ∧ r.deviation ≤ u.wIn) ∧
      (r.band = .nearFlat ↔ -(u.wNear : Int) ≤ r.deviation ∧ r.deviation < -(u.wIn : Int)) ∧
      (r.band = .nearSharp ↔ (u.wIn : Int) < r.deviation ∧ r.deviation ≤ u.wNear) ∧
      (r.band = .flat ↔ r.deviation < -(u.wNear : Int)) ∧ (r.band = .sharp ↔ (u.wNear : Int) < r.deviation))

/-! ### Outputs and their protection -/

/-- MUTE and SAFETY_TIMER_EXPIRY (R144, R145, R146, R152): a mask of FOH, MON and AMP replaces the mask whole and clears the
expired indication; the safety timer starts when the mask turns from empty to not empty, runs on while it stays so, and stops
with an empty mask; any other mask byte is refused. At its end the mask is emptied and expired is set. Both raise MUTE. A timer
at 0 as the mark of a due expiry is the model's (log 4). -/
def Obligations.MuteAndSafetyTimer : Prop :=
  (∀ (s : State) (l : Link) (tag m : Byte), accepting l s = true → tag ≠ 0 →
    ∃ t, exec (.mute l tag [m]) s = .next t ∧
      (8 ≤ m.toNat → refusedWith .mute l tag .badRequest s t) ∧
      (m.toNat < 8 →
        carriedOut .mute l tag .ok [.mixer] (oneClass .mute) s t ∧
        t.mixer = { s.mixer with
          mask := ⟨m.toNat % 2 = 1, m.toNat / 2 % 2 = 1, 4 ≤ m.toNat⟩, expired := false
          timer := if m = 0 then none
            else if s.mixer.mask = .none then
              (if s.mixer.safetySetting = 0 then none else some (1000 * s.mixer.safetySetting))
            else s.mixer.timer })) ∧
  ∀ s : State, s.mixer.timer = some 0 →
    ∃ t, exec .safetyTimerExpiry s = .next t ∧ changesOnly [.links, .mixer] s t ∧ linksKept s t ∧
      t.mixer = { s.mixer with mask := .none, timer := none, expired := true } ∧ announces (oneClass .mute) s t

/-- DC_WINDOW_END and FLAG_LATCH (R158, R160, R161, R162): at the end of a window each bus's mean is its sum floored by 4,096,
the sums and the phase start afresh, the DC condition is the mean's magnitude against the threshold and the DC pairs move; a
latch sets its flag, raises GUARD and forms the request again. While more of the frame is due after a latch no notice starts;
with the last latch a free link with nothing else to send starts a GUARD that shows every flag of the frame. Phase 4,096 and the
mark `latchDue`, which say that the event is due, are the model's (log 4), and so is it that the GUARD starts in the step of
that latch (log 9, log 32). -/
def Obligations.DcWindowEndAndFlagLatch : Prop :=
  (∀ s : State, 4096 ≤ s.protection.phase →
    ∃ t, exec .dcWindowEnd s = .next t ∧ changesOnly [.links, .protection, .mixer] s t ∧ linksKept s t ∧
      (let p := s.protection
       let q := t.protection
       let limit := 48 * p.timers.dc
       (∀ b : Bus, q.mean.get b = p.sum.get b / 4096 ∧
         ((q.pair b .dc).cond = true ↔ p.dcThreshold ≤ (p.sum.get b / 4096).natAbs) ∧
         (0 < p.timers.dc →
           (q.pair b .dc).count = (if (q.pair b .dc).cond = true then min limit ((p.pair b .dc).count + 1) else 0) ∧
           (q.pair b .dc).flag = (p.pair b .dc).flag ∧
           ((q.pair b .dc).latchDue = true ↔
             ((q.pair b .dc).cond = true ∧ (q.pair b .dc).count = limit ∧ (p.pair b .dc).flag = false))) ∧
         (p.timers.dc = 0 → q.pair b .dc = ⟨(q.pair b .dc).cond, 0, (q.pair b .dc).cond, false⟩) ∧
         q.pair b .overLevel = p.pair b .overLevel ∧ q.pair b .loss = p.pair b .loss) ∧
       q = { p with sum := ⟨0, 0, 0, 0⟩, phase := 0, mean := q.mean, pairs := q.pairs, request := q.request } ∧
       q.request = ((p.pair .mon .overLevel).flag || p.forced.overLevel) ∧
       t.mixer = { s.mixer with monRequest := q.request } ∧
       announces (fun _ n => n == .guard &&
         buses.any (fun b => p.timers.dc == 0 && (p.pair b .dc).flag != (q.pair b .dc).cond)) s t)) ∧
  ∀ (s : State) (b : Bus) (c : ProtClass), (s.protection.pair b c).latchDue = true →
    ∃ t, exec (.flagLatch b c) s = .next t ∧ changesOnly [.links, .protection, .mixer] s t ∧ linksKept s t ∧
      t.protection.pair b c = { s.protection.pair b c with flag := true, latchDue := false } ∧
      (∀ b' c', ¬(b' = b ∧ c' = c) → t.protection.pair b' c' = s.protection.pair b' c') ∧
      t.protection = { s.protection with pairs := t.protection.pairs, request := t.protection.request } ∧
      t.protection.request = ((t.protection.pair .mon .overLevel).flag || s.protection.forced.overLevel) ∧
      t.mixer = { s.mixer with monRequest := t.protection.request } ∧ announces (oneClass .guard) s t ∧
      (let more := 4096 ≤ t.protection.phase ∨ ∃ b' c', (t.protection.pair b' c').latchDue = true
       ∀ k : Link, (s.link k).tx = .free →
         (more → ∀ n frame, (t.link k).tx ≠ .notice n frame) ∧
         (¬more → (s.link k).queue = [] → (s.link k).mask.has .guard = true → s.resetDue = false →
           ¬((s.link k).lineLow = true ∧ 10 ≤ (s.link k).breakCount ∧ (s.link k).breakJudged = false) →
           (t.link k).tx = .notice .guard (frameBytes ⟨0xF0, 0, noticeBody t (t.link k) .guard⟩)))

/-- ACK and FORCE (R164, R166, R162) on a CREW link that accepts: ACK clears the pair's flag and count, leaves its condition and
leaves no latch due, FORCE sets or clears the class's force flag and nothing of any pair; both form the MON attenuation request
again and raise GUARD, even where nothing changes; an unknown bus, class or field is refused. -/
def Obligations.AckAndForce : Prop :=
  ∀ (s : State) (tag : Byte), accepting .crew s = true → tag ≠ 0 →
    (∀ b c : Byte, ∃ t, exec (.ack .crew tag [b, c]) s = .next t ∧
      (4 ≤ b.toNat ∨ 3 ≤ c.toNat → refusedWith .ack .crew tag .badRequest s t) ∧
      (∀ (bus : Bus) (cls : ProtClass), [Bus.fohL, .fohR, .mon, .amp][b.toNat]? = some bus →
        [ProtClass.overLevel, .dc, .loss][c.toNat]? = some cls →
        carriedOut .ack .crew tag .ok [.protection, .mixer] (oneClass .guard) s t ∧
        t.protection.pair bus cls = ⟨(s.protection.pair bus cls).cond, 0, false, false⟩ ∧
        (∀ b' c', ¬(b' = bus ∧ c' = cls) → t.protection.pair b' c' = s.protection.pair b' c') ∧
        t.protection = { s.protection with pairs := t.protection.pairs, request := t.protection.request } ∧
        t.protection.request = ((t.protection.pair .mon .overLevel).flag || s.protection.forced.overLevel) ∧
        t.mixer = { s.mixer with monRequest := t.protection.request })) ∧
    ∀ c on : Byte, ∃ t, exec (.force .crew tag [c, on]) s = .next t ∧
      (3 ≤ c.toNat ∨ 2 ≤ on.toNat → refusedWith .force .crew tag .badRequest s t) ∧
      (∀ cls : ProtClass, [ProtClass.overLevel, .dc, .loss][c.toNat]? = some cls → on.toNat < 2 →
        carriedOut .force .crew tag .ok [.protection, .mixer] (oneClass .guard) s t ∧
        t.protection = { s.protection with
          forced := s.protection.forced.set cls (decide (on = 1))
          request := (s.protection.pair .mon .overLevel).flag || (s.protection.forced.set cls (decide (on = 1))).overLevel } ∧
        t.mixer = { s.mixer with monRequest := t.protection.request })

/-! ### The capture, the links, the resets -/

/-- CAPTURE_CLEAR, SUBSCRIBE and RESET (R176, R181, R205) on a link that accepts: the capture is emptied without a notice; the
link's mask is replaced, a class newly subscribed becomes pending, one dropped is cleared, and no other link is touched, its
pending flags included; RESET answers OK and the CREW link is closing from then on. -/
def Obligations.ClearSubscribeReset : Prop :=
  ∀ (s : State) (tag : Byte), tag ≠ 0 →
    (accepting .crew s = true → ∃ t, exec (.captureClear .crew tag []) s = .next t ∧
      carriedOut .captureClear .crew tag .ok [.capture] noClass s t ∧ t.capture = none) ∧
    (∀ (l : Link) (m : Byte), accepting l s = true → ∃ t, exec (.subscribe l tag [m]) s = .next t ∧
      (128 ≤ m.toNat → refusedWith .subscribe l tag .badRequest s t) ∧
      (m.toNat < 128 → changesOnly [.links] s t ∧
        (t.link l).core = { (s.link l).core with
          rx := .hunt, gap := 0, queue := (s.link l).queue ++ [resultMessage .subscribe tag .ok]
          mask := (t.link l).mask } ∧
        (∀ k : Link, k ≠ l → (t.link k).core = (s.link k).core) ∧
        (transmittersServed s = true → ∀ k : Link, k ≠ l → t.link k = s.link k) ∧
        ((s.link l).tx = .free → ∃ frame, (t.link l).tx = .response frame) ∧
        ((s.link l).tx ≠ .free → (t.link l).tx = (s.link l).tx) ∧
        ∀ n : NoticeClass,
          (t.link l).mask.has n = m.toNat.testBit ((noticeClasses.findIdx? (fun c => c == n)).getD 7) ∧
          (t.link l).flags.has n =
            ((t.link l).mask.has n && ((s.link l).flags.has n || !(s.link l).mask.has n)))) ∧
    (accepting .crew s = true → ∃ t, exec (.reset .crew tag []) s = .next t ∧ changesOnly [.links] s t ∧
      (t.link .crew).core = { (s.link .crew).core with
        rx := .hunt, gap := 0, queue := (s.link .crew).queue ++ [resultMessage .reset tag .ok], closing := true } ∧
      (∀ k : Link, k ≠ .crew → (t.link k).core = (s.link k).core) ∧ announces noClass s t)

/-- POWER_ON and SOFT_RESET (R7, R29, R51, R52, R76, R94, R113, R138, R154, R171, R177, R185, R206): power-on puts every block
at its power-on values, the level of each receiving line staying as it is (the model's choice, log 8); the soft reset that the
end of the RESET's OK has made due resets every block but what its rule keeps, and leaves SOFT_RESET in the capture. That a cut
message frees its transmitter at once and that presence is judged at once are the model's choices too (log 10, log 26). -/
def Obligations.ResetsRestoreBlocks : Prop :=
  (∀ s : State, ∃ t, exec .powerOn s = .next t ∧ t.pending = s.pending ∧
    (∀ k : Link, t.link k = { LinkIf.initial with lineLow := (s.link k).lineLow }) ∧
    (t.withPending []).withLinks State.reset.links = State.reset) ∧
  ∀ s : State, s.resetDue = true → ∃ t, exec .softReset s = .next t ∧
    softResetDone s t

/-- Discards (R189, R190, R191, R193): BAD_FRAME, BAD_CHECK, an OVERRUN on a link whose eight slots are taken, and a gap count
that has come to 3. The receiver returns to HUNT, the cause is kept, LINK is raised in that link alone, and a MINOR fault of the
class with the link fills an empty capture; no slot is taken, nothing is answered and nothing else changes. -/
def Obligations.DiscardsReport : Prop :=
  ∀ (s : State) (l : Link) (c : Instr) (cause : DiscardCause) (cls : FaultClass),
    (listening l s = true ∧ ((c = .badFrame l ∧ cause = .badFrame ∧ cls = .badFrame) ∨
      (c = .badCheck l ∧ cause = .badCheck ∧ cls = .badCheck) ∨
      (c = .overrun l ∧ cause = .overrun ∧ cls = .overrun ∧ 8 ≤ (s.link l).reserved + (s.link l).queue.length))) ∨
    (c = .gapTimeout l ∧ cause = .badFrame ∧ cls = .badFrame ∧ (s.link l).rx ≠ .hunt ∧ (s.link l).gap = 3) →
    ∃ t, exec c s = .next t ∧ changesOnly [.links, .capture] s t ∧
      (t.link l).core = { (s.link l).core with rx := .hunt, gap := 0, cause := some cause } ∧
      (∀ k : Link, k ≠ l → (t.link k).core = (s.link k).core) ∧
      t.capture = (if s.capture = none then some ⟨cls, some l, none, none⟩ else s.capture) ∧
      announces (fun k n => (k == l && n == .link) || (n == .fault && s.capture.isNone)) s t

/-- BREAK_BEGINS, BREAK_END, LINK_DROP and CONTROL_MILLISECOND (R189, R202, R203, R88, R145, R93, R185): the line falls with its
count at 0; its return clears count and judgement and discards a frame in assembly; a drop empties the link's reserved slots,
its queue but for the response being sent, its pending flags and its recall, and no block else; on the closing CREW link it
brings the soft reset, the break judged; each control millisecond moves the gap and break counts, the tenure and the safety
timer. That the millisecond in progress when a break begins does not count is the model's choice (log 7). -/
def Obligations.BreaksAndMilliseconds : Prop :=
  (∀ (s : State) (l : Link), quiet s = true → (s.link l).lineLow = false →
    ∃ t, exec (.breakBegins l) s = .next t ∧ changesOnly [.links] s t ∧ announces noClass s t ∧
      (t.link l).core = { (s.link l).core with lineLow := true, breakPartial := true, breakCount := 0 } ∧
      ∀ k : Link, k ≠ l → (t.link k).core = (s.link k).core) ∧
  (∀ (s : State) (l : Link), quiet s = true → (s.link l).lineLow = true →
    ∃ t, exec (.breakEnd l) s = .next t ∧ (∀ k : Link, k ≠ l → (t.link k).core = (s.link k).core) ∧
      ((s.link l).rx = .hunt → changesOnly [.links] s t ∧ announces noClass s t ∧
        (t.link l).core = { (s.link l).core with
          lineLow := false, breakPartial := false, breakCount := 0, breakJudged := false }) ∧
      ((s.link l).rx ≠ .hunt → changesOnly [.links, .capture] s t ∧
        (t.link l).core = { (s.link l).core with
          lineLow := false, breakPartial := false, breakCount := 0, breakJudged := false, rx := .hunt, gap := 0
          cause := some .badFrame } ∧
        t.capture = (if s.capture = none then some ⟨.badFrame, some l, none, none⟩ else s.capture) ∧
        announces (fun k n => (k == l && n == .link) || (n == .fault && s.capture.isNone)) s t)) ∧
  (∀ (s : State) (l : Link), (s.link l).lineLow = true → (s.link l).breakCount = 10 → (s.link l).breakJudged = false →
    ¬(l = .crew ∧ (s.link l).closing = true) →
    ∃ t, exec (.linkDrop l) s = .next t ∧ changesOnly [.links, .arbiter] s t ∧
      (t.link l).core = { (s.link l).core with
        rx := .hunt, gap := 0, reserved := 0, breakJudged := true
        queue := match (s.link l).tx with
          | .response _ => (s.link l).queue.take 1
          | _ => [] } ∧
      (t.link l).flags = .none ∧ (t.link l).tx = (s.link l).tx ∧
      (∀ k : Link, k ≠ l → (t.link k).core = (s.link k).core) ∧
      t.arbiter = { s.arbiter with
        slots := s.arbiter.slots.set l none
        grant := s.arbiter.grant.map (fun g => if g.origin = l then { g with owed := false } else g) }) ∧
  (∀ s : State, (s.link .crew).lineLow = true → (s.link .crew).breakCount = 10 → (s.link .crew).breakJudged = false →
    (s.link .crew).closing = true →
    ∃ t, exec (.linkDrop .crew) s = .next t ∧ softResetDone (s.setLink .crew { s.link .crew with breakJudged := true }) t) ∧
  ∀ s : State, quiet s = true →
    ∃ t, exec .controlMillisecond s = .next t ∧ changesOnly [.links, .arbiter, .mixer] s t ∧ announces noClass s t ∧
      t.arbiter = { s.arbiter with tenure := s.arbiter.tenure.map (fun r => { r with count := r.count - 1 }) } ∧
      t.mixer = { s.mixer with timer := s.mixer.timer.map (fun n => n - 1) } ∧
      ∀ k : Link, (t.link k).core =
        (if (s.link k).lineLow = true then
          (if (s.link k).breakPartial = true then { (s.link k).core with breakPartial := false }
           else { (s.link k).core with breakCount := min 10 ((s.link k).breakCount + 1) })
         else if (s.link k).rx ≠ .hunt then { (s.link k).core with gap := min 3 ((s.link k).gap + 1) }
         else (s.link k).core)

/-- MESSAGE_SENT (R182, R192, R205): the message ends, a response's slot with it, and the transmitter takes the oldest response,
else the pending notice of the highest priority, with tag 0, its type and body as the table of notices lays them out (R184,
R211), its flag cleared and its content read now, else nothing. The end of the RESET's OK on the closing CREW link makes the
soft reset due, and the CREW transmitter stays free. The mark `resetDue` is the model's (log 4). -/
def Obligations.MessageSentChoosesNext : Prop :=
  ∀ (s : State) (l : Link), quiet s = true → transmittersServed s = true → (s.link l).tx ≠ .free →
    ∃ t, exec (.messageSent l) s = .next t ∧ changesOnly [.links, .resetDue] s t ∧
      (∀ k : Link, k ≠ l → t.link k = s.link k) ∧
      (let x := s.link l
       let n1 := fun n : Nat => BitVec.ofNat 8 n
       let flag := fun b : Bool => if b then (1 : Byte) else 0
       let bits := fun xs : List Bool => BitVec.ofNat 8 (xs.zipIdx.map (fun e => if e.1 then 2 ^ e.2 else 0)).sum
       let linkNo := fun k : Link => match k with
         | .player => (0 : Byte)
         | .crew => 1
         | .showControl => 2
       let all := [Bus.fohL, .fohR, .mon, .amp]
       let flagOf := fun c : ProtClass => all.map (fun b => (s.protection.pair b c).flag)
       let report := match s.engine.transition with
         | some tr => some (Report.mk tr.origin tr.kind tr.tailCut tr.editsDiscarded)
         | none => s.engine.report
       let silent := fun b : Bus => s.mixer.mask.has b || (s.mixer.tunerMute && s.mixer.tunerSet.has b)
       let type := fun n : NoticeClass => match n with
         | .guard => (0xF0 : Byte)
         | .fault => 0xF1
         | .scene => 0xF2
         | .mute => 0xF3
         | .tuner => 0xF4
         | .tempo => 0xF5
         | .link => 0xF6
       let body := fun n : NoticeClass => match n with
         | .guard =>
           [bits (flagOf .overLevel ++ flagOf .dc), bits (flagOf .loss),
             bits [s.protection.forced.overLevel, s.protection.forced.dc, s.protection.forced.loss]]
         | .fault =>
           (match s.capture with
            | none => List.replicate 8 0
            | some r =>
              [1, (match r.cls with
                   | .outOfWindow => 0
                   | .emptySlot => 1
                   | .noPreset => 2
                   | .badFrame => 3
                   | .badCheck => 4
                   | .overrun => 5
                   | .loadFail => 6
                   | .powerOn => 7
                   | .softReset => 8),
               flag (decide (r.cls = .loadFail ∨ r.cls = .powerOn ∨ r.cls = .softReset)),
               bits [r.link.isSome, r.place.isSome, r.preset.isSome], (r.link.map linkNo).getD 0,
               n1 ((r.place.map Prod.fst).getD 0), n1 ((r.place.map Prod.snd).getD 0), n1 (r.preset.getD 0)])
         | .scene =>
           [n1 ((s.engine.scene.map (fun sc => sc.source)).getD 255), flag (s.engine.scene.any (fun sc => sc.dirty)),
             (match report with
              | none => 255
              | some r => if r.kind = .fade then 0 else 1),
             flag s.engine.transition.isSome, (report.map (fun r => linkNo r.origin)).getD 255,
             bits [report.any (fun r => r.tailCut), report.any (fun r => r.editsDiscarded)]]
         | .mute =>
           [bits [s.mixer.mask.foh, s.mixer.mask.mon, s.mixer.mask.amp], flag s.mixer.tunerMute,
             bits [silent .fohL, silent .mon, silent .amp], flag s.mixer.timer.isSome, flag s.mixer.expired]
         | .tuner =>
           [(match s.tuner.state with
             | .off => 0
             | .listening => 1
             | .reading => 2),
            if s.tuner.mode = .free then 0 else 1] ++
             (match s.tuner.current with
              | none => [255, 255, 0, 0, 0, 0x80, 0, 255]
              | some r =>
                [n1 r.note, n1 (r.string.getD 255)] ++ byte3 r.centihertz ++ signed2 r.deviation ++ [match r.band with
                  | .inTune => 0
                  | .nearFlat => 1
                  | .nearSharp => 2
                  | .flat => 3
                  | .sharp => 4])
         | .tempo =>
           byte3 s.control.period ++ byte2 ((576000000 + s.control.period) / (2 * s.control.period)) ++
             [match s.control.source with
              | .default => 0
              | .tap => 1
              | .showSystem => 2
              | .preset => 3,
              flag s.control.locked]
         | .link =>
           [match x.cause with
            | none => 0
            | some .badFrame => 1
            | some .badCheck => 2
            | some .overrun => 3]
       let rest := match x.tx with
         | .response _ => x.queue.drop 1
         | _ => x.queue
       let ok := l = .crew ∧ x.closing = true ∧ (∃ frame, x.tx = .response frame) ∧
         ∃ tag, x.queue.head? = some (resultMessage .reset tag .ok)
       (t.resetDue = true ↔ ok) ∧
       (ok → t.link l = { x with queue := rest, tx := .free }) ∧
       (¬ok → ∀ m, rest.head? = some m → t.link l = { x with queue := rest, tx := .response (frameBytes m) }) ∧
       (¬ok → rest = [] → ∀ n : NoticeClass, x.flags.has n = true →
         (∀ n', x.flags.has n' = true →
           (noticeClasses.findIdx? (fun c => c == n)).getD 7 ≤ (noticeClasses.findIdx? (fun c => c == n')).getD 7) →
         t.link l = { x with
           queue := [], flags := x.flags.put n false, tx := .notice n (frameBytes ⟨type n, 0, body n⟩) }) ∧
       (¬ok → rest = [] → x.flags = .none → t.link l = { x with queue := [], tx := .free }))

/-- Reception byte by byte (R187, R188, R190, R193): what each byte does in each state of the receiver, the byte that completes
a sound frame of tag 0 included, which is a bad frame; and the bytes of a whole frame, one BYTE_RECEIVED each from HUNT, are
exactly the command of that frame: the bytes before the last change nothing but the receiver, and the last does what the
request's own row does on the state before the frame. -/
def Obligations.BytesMakeFrames : Prop :=
  (∀ (s : State) (l : Link) (b : Byte), listening l s = true →
    ∃ t, exec (.byteReceived l b) s = .next t ∧
      (let moved := fun r : Receiver => changesOnly [.links] s t ∧ announces noClass s t ∧
         (t.link l).core = { (s.link l).core with rx := r, gap := 0 } ∧
         ∀ k : Link, k ≠ l → (t.link k).core = (s.link k).core
       ((s.link l).rx = .hunt → b = 0xE7 → moved .length) ∧
       ((s.link l).rx = .hunt → b ≠ 0xE7 → changesOnly [.links] s t ∧ linksKept s t ∧ announces noClass s t) ∧
       ((s.link l).rx = .length → 2 ≤ b.toNat → b.toNat ≤ 62 → moved (.content b.toNat [])) ∧
       ((s.link l).rx = .length → (b.toNat < 2 ∨ 62 < b.toNat) → exec (.badFrame l) s = .next t) ∧
       (∀ n bytes, (s.link l).rx = .content n bytes →
         moved (if bytes.length + 1 < n then .content n (bytes ++ [b]) else .check n (bytes ++ [b]))) ∧
       (∀ n bytes, (s.link l).rx = .check n bytes → (n + (bytes.map BitVec.toNat).sum + b.toNat) % 256 ≠ 0 →
         exec (.badCheck l) s = .next t) ∧
       (∀ n bytes type body, (s.link l).rx = .check n bytes → (n + (bytes.map BitVec.toNat).sum + b.toNat) % 256 = 0 →
         bytes = type :: 0 :: body → exec (.badFrame l) s = .next t))) ∧
  ∀ (s : State) (l : Link) (type tag : Byte) (body : List Byte) (c : Instr), listening l s = true →
    transmittersServed s = true → (s.link l).rx = .hunt → (s.link l).gap = 0 → body.length ≤ 60 → tag ≠ 0 →
    ((∃ ty : ReqType, ty.code = type ∧ ty.command l tag body = some c) ∨
      (∃ (x : Setting) (v : BitVec 24), type = 0x61 ∧
        body = [x.code, v.extractLsb' 16 8, v.extractLsb' 8 8, v.extractLsb' 0 8] ∧ c = x.command l tag v) ∨
      (∃ (it : Item) (part : Byte) (args : List Byte), type = 0x62 ∧ body = it.code :: part :: args ∧
        c = it.command l tag part args) ∨
      (reqTypeOf type = none ∧ c = .unknownRequest l type tag body)) →
    let content := type :: tag :: body
    let check : Byte := 0 - (BitVec.ofNat 8 content.length + content.foldl (fun n b => n + b) 0)
    frameBytes ⟨type, tag, body⟩ = [0xE7, BitVec.ofNat 8 content.length] ++ content ++ [check] ∧
    ∃ u : State, ([0xE7, BitVec.ofNat 8 content.length] ++ content).foldl
        (fun (o : Host.Outcome State Fault Refusal) b => match o with
          | .next v => exec (.byteReceived l b) v
          | x => x) (.next s) = .next u ∧
      u = s.setLink l { s.link l with rx := .check content.length content } ∧
      exec (.byteReceived l check) u = exec c s

/-- The checks of an accepted request (R195, R196, R193): the roles that may make each request; a request from another role is
refused NOT_PERMITTED whatever its body, one of a length its type does not allow, or of an unknown type, BAD_REQUEST; a refusal
takes a response slot, changes nothing else, writes no fault and raises no notice; with all eight slots taken a request of any
row is discarded as the OVERRUN row does. And the tables of request types, body lengths, response types and result codes (R208,
R211), row by row. -/
def Obligations.RequestsAreChecked : Prop :=
  (∀ (ty : ReqType) (l : Link), ty.permitted l = true ↔
    (ty ∈ [.recall, .mute, .subscribe, .query] ∨ (l = .crew ∧ ty ∉ [.pedal, .tap, .tempo]) ∨
      (l = .player ∧ ty ∈ [.pedal, .tap, .tunerEngage, .tunerRelease]) ∨ (l = .showControl ∧ ty ∈ [.edit, .tempo]))) ∧
  (∀ (s : State) (ty : ReqType) (l : Link) (tag : Byte) (body : List Byte) (c : Instr), ty.command l tag body = some c →
    tag ≠ 0 → body.length ≤ 60 →
    (accepting l s = true → ty.permitted l = false → ∃ t, exec c s = .next t ∧ refusedWith ty l tag .notPermitted s t) ∧
    (accepting l s = true → ty.permitted l = true → (body.length < ty.bodyRange.1 ∨ ty.bodyRange.2 < body.length) →
      ∃ t, exec c s = .next t ∧ refusedWith ty l tag .badRequest s t) ∧
    (listening l s = true → 8 ≤ (s.link l).reserved + (s.link l).queue.length → exec c s = exec (.overrun l) s)) ∧
  (∀ (s : State) (x : Setting) (l : Link) (tag : Byte) (v : BitVec 24), accepting l s = true → tag ≠ 0 → l ≠ .crew →
    ∃ t, exec (x.command l tag v) s = .next t ∧ refusedWith .setting l tag .notPermitted s t) ∧
  (∀ (s : State) (l : Link) (type tag : Byte) (body : List Byte), accepting l s = true → tag ≠ 0 → body.length ≤ 60 →
    (∀ ty : ReqType, ty.code ≠ type) →
    ∃ t, exec (.unknownRequest l type tag body) s = .next t ∧ changesOnly [.links] s t ∧
      respondsWith l ⟨0xFF, tag, [7]⟩ s t ∧ announces noClass s t) ∧
  (∀ (s : State) (l : Link) (tag : Byte), listening l s = true → tag ≠ 0 →
    8 ≤ (s.link l).reserved + (s.link l).queue.length →
    (∀ (x : Setting) (v : BitVec 24), exec (x.command l tag v) s = exec (.overrun l) s) ∧
    (∀ (it : Item) (part : Byte) (args : List Byte), args.length ≤ 58 →
      exec (it.command l tag part args) s = exec (.overrun l) s) ∧
    ∀ (type : Byte) (body : List Byte), body.length ≤ 60 → (∀ ty : ReqType, ty.code ≠ type) →
      exec (.unknownRequest l type tag body) s = exec (.overrun l) s) ∧
  (∀ ty : ReqType, (ty, ty.code, ty.bodyRange) ∈
    ([(.recall, 0x10, 3, 3), (.recallIndex, 0x11, 1, 1), (.windowSet, 0x12, 3, 3), (.edit, 0x20, 3, 31), (.store, 0x21, 1, 1),
      (.curveBegin, 0x30, 1, 1), (.curvePut, 0x31, 41, 41), (.impulseBegin, 0x32, 1, 1), (.impulsePut, 0x33, 50, 50),
      (.presetBegin, 0x34, 2, 2), (.presetPut, 0x35, 4, 32), (.presetEnd, 0x36, 1, 1), (.presetErase, 0x37, 1, 1),
      (.mapSet, 0x38, 3, 3), (.profilePut, 0x39, 16, 24), (.instrumentSelect, 0x3A, 1, 1), (.pedal, 0x40, 3, 3),
      (.tap, 0x41, 0, 0), (.tempo, 0x42, 3, 3), (.tunerEngage, 0x50, 2, 2), (.tunerRelease, 0x51, 0, 0), (.mute, 0x52, 1, 1),
      (.ack, 0x53, 2, 2), (.force, 0x54, 2, 2), (.captureClear, 0x55, 0, 0), (.subscribe, 0x60, 1, 1), (.setting, 0x61, 4, 4),
      (.query, 0x62, 2, 5), (.reset, 0x63, 0, 0)] : List (ReqType × Byte × Nat × Nat))) ∧
  (∀ (ty : ReqType) (b : Byte), (reqTypeOf b = some ty ↔ b = ty.code) ∧ ty.responseCode.toNat = ty.code.toNat + 0x80) ∧
  ∀ r : Result, (r, r.code) ∈
    ([(.ok, 0), (.clamped, 1), (.done, 2), (.same, 3), (.superseded, 4), (.heldOff, 5), (.notPermitted, 6), (.badRequest, 7),
      (.outOfWindow, 8), (.emptySlot, 9), (.noPreset, 10), (.loadFail, 11), (.inUse, 12), (.notReady, 13), (.busy, 14),
      (.locked, 15), (.noScene, 16)] : List (Result × Byte))

/-- The settings (R199, R214, R5, R87, R133, R147, R150, R167, R168) with the identifier of each, on a CREW link that accepts: a
tuner setting is refused BUSY while the tuner is engaged, a tuner mute set with a bit beyond the three buses BAD_REQUEST;
otherwise the value, kept to the setting's range, is stored by its owner and answered OK or CLAMPED. The safety timer restarts
or stops under a mask that is not empty and then raises MUTE; a protection timer set to 0 clears its class's counts. The mixer's
copy of the mute set and the silence of a SETTING of 0 with the timer stopped, and of a SETTING that finds the mask just emptied
by the expiry, are the model's choices (log 14, log 15, log 30). -/
def Obligations.SettingsAreStored : Prop :=
  (∀ x : Setting, (x, x.code) ∈
    ([(.presenceFloor, 0x01), (.tenure .player, 0x02), (.tenure .crew, 0x03), (.tenure .showControl, 0x04),
      (.referencePitch, 0x10), (.hysteresis, 0x11), (.wIn, 0x12), (.wNear, 0x13), (.tunerMuteSet, 0x14), (.safetyTimer, 0x20),
      (.attenuation, 0x21), (.overThreshold, 0x30), (.dcThreshold, 0x31), (.lossFloor, 0x32), (.tOver, 0x33), (.tDc, 0x34),
      (.tLoss, 0x35)] : List (Setting × Byte))) ∧
  (∀ (x : Setting) (b : Byte), settingOf b = some x ↔ b = x.code) ∧
  ∀ (s : State) (x : Setting) (tag : Byte) (value : BitVec 24), accepting .crew s = true → tag ≠ 0 → rangeLaw s = true →
    derivedLaw s = true →
    ∃ t, exec (x.command .crew tag value) s = .next t ∧
      (let tunerOwns := x = .referencePitch ∨ x = .hysteresis ∨ x = .wIn ∨ x = .wNear ∨ x = .tunerMuteSet
       let range : Nat × Nat := match x with
         | .presenceFloor => (0, 8388607)
         | .tenure _ => (0, 250)
         | .referencePitch => (40000, 46600)
         | .hysteresis => (0, 8388607)
         | .wIn => (1, min 100 s.tuner.wNear)
         | .wNear => (s.tuner.wIn, 500)
         | .tunerMuteSet => (0, 7)
         | .safetyTimer => (0, 600)
         | .attenuation => (0, 32768)
         | .overThreshold | .dcThreshold | .lossFloor => (0, 8388608)
         | .tOver | .tDc | .tLoss => (0, 4000)
       let v := max range.1 (min range.2 value.toNat)
       let stored := fun (bs : List Block) (raised : Link → NoticeClass → Bool) =>
         carriedOut .setting .crew tag (if v = value.toNat then .ok else .clamped) bs raised s t
       let timer := fun c : ProtClass => stored [.protection] noClass ∧
         t.protection = { s.protection with timers := s.protection.timers.set c v, pairs := t.protection.pairs } ∧
         ∀ b c', t.protection.pair b c' =
           (if v = 0 ∧ c' = c then { s.protection.pair b c' with count := 0, latchDue := false } else s.protection.pair b c')
       (tunerOwns → s.tuner.state ≠ .off → refusedWith .setting .crew tag .busy s t) ∧
       (s.tuner.state = .off → x = .tunerMuteSet → 8 ≤ value.toNat → refusedWith .setting .crew tag .badRequest s t) ∧
       ((tunerOwns → s.tuner.state = .off) → (x = .tunerMuteSet → value.toNat < 8) →
         match x with
         | .presenceFloor => stored [.frontEnd] noClass ∧ t.frontEnd = { s.frontEnd with pendingFloor := some v }
         | .tenure k => stored [.arbiter] noClass ∧
             t.arbiter = { s.arbiter with tenureSetting := s.arbiter.tenureSetting.set k v }
         | .referencePitch => stored [.tuner] noClass ∧ t.tuner = { s.tuner with reference := v }
         | .hysteresis => stored [.tuner] noClass ∧ t.tuner = { s.tuner with hysteresis := v }
         | .wIn => stored [.tuner] noClass ∧ t.tuner = { s.tuner with wIn := v }
         | .wNear => stored [.tuner] noClass ∧ t.tuner = { s.tuner with wNear := v }
         | .tunerMuteSet => stored [.tuner, .mixer] noClass ∧
             (let m : BusMask := ⟨v % 2 = 1, v / 2 % 2 = 1, 4 ≤ v⟩
              t.tuner = { s.tuner with muteSet := m } ∧ t.mixer = { s.mixer with tunerSet := m })
         | .safetyTimer =>
             stored [.mixer] (fun _ n => n == .mute && !s.mixer.mask.isEmpty && !(v == 0 && s.mixer.timer.isNone)) ∧
             t.mixer = { s.mixer with
               safetySetting := v
               timer := if s.mixer.mask = .none then s.mixer.timer else if v = 0 then none else some (1000 * v) }
         | .attenuation => stored [.mixer] noClass ∧ t.mixer = { s.mixer with attenuation := v }
         | .overThreshold => stored [.protection] noClass ∧ t.protection = { s.protection with overThreshold := v }
         | .dcThreshold => stored [.protection] noClass ∧ t.protection = { s.protection with dcThreshold := v }
         | .lossFloor => stored [.protection] noClass ∧ t.protection = { s.protection with lossFloor := v }
         | .tOver => timer .overLevel
         | .tDc => timer .dc
         | .tLoss => timer .loss))

/-- QUERY (R200, R212, R213, R30, R50, R75, R95, R112, R137, R153, R170, R178, R201) with the code of each item, from any link
that accepts: an item with its arguments answers OK with the bytes of its layout, read from its owner as it stands, and changes
nothing; a part number at or above the item's part count, missing argument bytes or a code outside its table are refused
BAD_REQUEST, a scene group without a scene NO_SCENE. A link that queries itself counts the slot of its own answer as queued.
That the chain byte of an EMPTY record may be B is the model's choice (log 17), and that a chain byte of 2 is refused there (log
31). -/
def Obligations.QueriesAnswer : Prop :=
  (∀ it : Item, (it, it.code) ∈
    ([(.sceneGroup, 0), (.libraryGroup, 1), (.recordState, 2), (.mapEntry, 3), (.profile, 4), (.activeProfile, 5), (.window, 6),
      (.tempo, 7), (.tuner, 8), (.mute, 9), (.protection, 10), (.capture, 11), (.laneStates, 12), (.setting, 13),
      (.link, 14)] : List (Item × Byte))) ∧
  (∀ (it : Item) (b : Byte), itemOf b = some it ↔ b = it.code) ∧
  (∀ n : Nat, n < 65536 → (byte2 n).length = 2 ∧ be (byte2 n) = n) ∧
  (∀ n : Nat, n < 16777216 → (byte3 n).length = 3 ∧ be (byte3 n) = n) ∧
  (∀ n : Int, -32768 ≤ n → n < 32768 → (BitVec.ofNat 16 (be (signed2 n))).toInt = n) ∧
  ∀ (s : State) (l : Link) (tag part : Byte) (args : List Byte), accepting l s = true → tag ≠ 0 → args.length ≤ 58 →
    let answer := fun (it : Item) (r : Result) (bytes : List Byte) =>
      ∃ t, exec (it.command l tag part args) s = .next t ∧ changesOnly [.links] s t ∧
        respondsWith l ⟨0xE2, tag, r.code :: bytes⟩ s t ∧ announces noClass s t
    let n1 := fun n : Nat => BitVec.ofNat 8 n
    let flag := fun b : Bool => if b then (1 : Byte) else 0
    let bits := fun xs : List Bool => BitVec.ofNat 8 (xs.zipIdx.map (fun e => if e.1 then 2 ^ e.2 else 0)).sum
    let busSet := fun m : BusMask => bits [m.foh, m.mon, m.amp]
    let noticeSet := fun m : NoticeSet => bits [m.guard, m.fault, m.scene, m.mute, m.tuner, m.tempo, m.link]
    let linkNo := fun k : Link => match k with
      | .player => (0 : Byte)
      | .crew => 1
      | .showControl => 2
    let a := args.getD 0 0
    let b := args.getD 1 0
    let c := args.getD 2 0
    (∀ it : Item, 3 < args.length → answer it .badRequest []) ∧
    (∀ it : Item, args.length ≤ 3 → (if it = .protection then 3 else 1) ≤ part.toNat → answer it .badRequest []) ∧
    (∀ it : Item, part = 0 →
      args.length < (match it with
        | .libraryGroup => 3
        | .sceneGroup | .recordState | .mapEntry => 2
        | .profile | .window | .setting | .link => 1
        | _ => 0) → answer it .badRequest []) ∧
    (args.length ≤ 3 → part = 0 →
      (answer .activeProfile .ok [n1 s.stores.active]) ∧
      (answer .tempo .ok
        (byte3 s.control.period ++ byte2 ((576000000 + s.control.period) / (2 * s.control.period)) ++
          [match s.control.source with
            | .default => 0
            | .tap => 1
            | .showSystem => 2
            | .preset => 3,
           flag s.control.locked, flag s.control.prevTap.isSome, n1 s.control.intervals.length] ++
          (let e := s.control.exp1
           byte2 ((e.p0 + e.p1 + e.p2 + e.p3) / 4)) ++
          (let e := s.control.exp2
           byte2 ((e.p0 + e.p1 + e.p2 + e.p3) / 4)))) ∧
      (let u := s.tuner
       let on := u.state ≠ .off
       answer .tuner .ok
        ([(match u.state with
            | .off => 0
            | .listening => 1
            | .reading => 2),
          (if u.mode = .free then 0 else 1), flag u.muteFlag, flag (decide on && u.muteFlag),
          flag (decide on && u.current.isSome)] ++
          (match u.current with
           | some r =>
             if on then
               [if r.mode = .free then 0 else 1] ++ byte3 r.centihertz ++ [n1 r.note, n1 (r.string.getD 255)] ++
                 signed2 r.deviation ++ [match r.band with
                   | .inTune => 0
                   | .nearFlat => 1
                   | .nearSharp => 2
                   | .flat => 3
                   | .sharp => 4]
             else List.replicate 9 0
           | none => List.replicate 9 0) ++
          [if on then n1 u.group.length else 0] ++ byte2 (if on then u.stale else 0) ++ byte2 u.reference ++
          byte3 u.hysteresis ++ [n1 u.wIn] ++ byte2 u.wNear ++ [busSet u.muteSet])) ∧
      (let m := s.mixer
       answer .mute .ok
        ([busSet m.mask, flag m.tunerMute, busSet m.tunerSet, n1 m.ramps.fohL, n1 m.ramps.fohR, n1 m.ramps.mon, n1 m.ramps.amp,
          n1 m.monRamp, flag m.monRequest, flag m.timer.isSome] ++ byte3 (m.timer.getD 0) ++ [flag m.expired] ++
          byte2 m.safetySetting ++ byte2 m.attenuation)) ∧
      (answer .capture .ok
        (match s.capture with
         | none => List.replicate 8 0
         | some r =>
           [1, (match r.cls with
                | .outOfWindow => 0
                | .emptySlot => 1
                | .noPreset => 2
                | .badFrame => 3
                | .badCheck => 4
                | .overrun => 5
                | .loadFail => 6
                | .powerOn => 7
                | .softReset => 8),
            flag (decide (r.cls = .loadFail ∨ r.cls = .powerOn ∨ r.cls = .softReset)),
            bits [r.link.isSome, r.place.isSome, r.preset.isSome], (r.link.map linkNo).getD 0,
            n1 ((r.place.map Prod.fst).getD 0), n1 ((r.place.map Prod.snd).getD 0), n1 (r.preset.getD 0)])) ∧
      (let lane := fun x : Lane =>
         [match x.state with
            | .idle => (0 : Byte)
            | .incoming => 1
            | .live => 2
            | .outgoing => 3
            | .tailing => 4
            | .cutting => 5,
          match x.role with
            | .single => 0
            | .dualA => 1
            | .dualB => 2] ++
           byte3 x.delayLength ++ [flag x.delayClamped, if x.gateState = .opened then 1 else 0] ++ byte2 x.weight ++
           [n1 x.outRamp]
       answer .laneStates .ok (lane s.lanes.a ++ lane s.lanes.b))) ∧
    (args.length ≤ 3 → part.toNat < 3 →
      let p := s.protection
      let head := [part, 3] ++ byte2 p.phase
      let all := [Bus.fohL, .fohR, .mon, .amp]
      let two := fun f : Pair → Bool =>
        [bits (all.map (fun x => f (p.pair x .overLevel)) ++ all.map (fun x => f (p.pair x .dc))),
         bits (all.map (fun x => f (p.pair x .loss)))]
      answer .protection .ok
        (if part = 0 then
          head ++ two (fun x => x.flag) ++ [bits [p.forced.overLevel, p.forced.dc, p.forced.loss]] ++ two (fun x => x.cond)
        else if part = 1 then
          head ++ ([ProtClass.overLevel, .dc, .loss].flatMap (fun k => all.flatMap (fun x => byte3 (p.pair x k).count)))
        else
          head ++ all.flatMap (fun x => byte3 (p.env.get x)) ++ all.flatMap (fun x => signed3 (p.mean.get x)) ++
            [flag p.request] ++ byte3 p.overThreshold ++ byte3 p.dcThreshold ++ byte3 p.lossFloor ++
            byte2 p.timers.overLevel ++ byte2 p.timers.dc ++ byte2 p.timers.loss)) ∧
    (1 ≤ args.length → args.length ≤ 3 → part = 0 →
      (8 ≤ a.toNat → answer .profile .badRequest []) ∧
      (a.toNat < 8 →
        let p := s.stores.profile a.toNat
        answer .profile .ok ([a] ++ p.label ++ [n1 p.notes.length] ++ p.notes.map n1 ++ byte2 p.trim ++
          [flag (decide (a.toNat = s.stores.active))])) ∧
      (3 ≤ a.toNat → answer .window .badRequest [] ∧ answer .link .badRequest []) ∧
      (∀ k : Link, linkNo k = a →
        (let w := s.arbiter.windows.get k
         let slot := s.arbiter.slots.get k
         let place := slot.bind (fun x => x.place)
         let tenure := s.arbiter.tenure
         let grant := s.arbiter.grant
         answer .window .ok
          ([a, n1 w.base, n1 w.size, n1 (s.arbiter.tenureSetting.get k),
            bits [slot.isSome, place.isSome, tenure.isSome, grant.isSome], n1 ((slot.map (fun x => x.index)).getD 0),
            n1 ((place.map Prod.fst).getD 0), n1 ((place.map Prod.snd).getD 0), (tenure.map (fun x => linkNo x.owner)).getD 0] ++
            byte2 ((tenure.map (fun x => x.count)).getD 0) ++ [(grant.map (fun x => linkNo x.origin)).getD 0])) ∧
        (let x := s.link k
         answer .link .ok
          [a, noticeSet x.mask, noticeSet x.flags, n1 x.reserved, n1 (x.queue.length + if k = l then 1 else 0),
           match x.cause with
            | none => 0
            | some .badFrame => 1
            | some .badCheck => 2
            | some .overrun => 3,
           flag x.lineLow, flag x.breakJudged, flag (decide (k = .crew) && x.closing)])) ∧
      ((∀ x : Setting, x.code ≠ a) → answer .setting .badRequest []) ∧
      (∀ x : Setting, x.code = a → answer .setting .ok ([a] ++ byte3 (match x with
        | .presenceFloor => s.frontEnd.pendingFloor.getD s.frontEnd.floor
        | .tenure k => s.arbiter.tenureSetting.get k
        | .referencePitch => s.tuner.reference
        | .hysteresis => s.tuner.hysteresis
        | .wIn => s.tuner.wIn
        | .wNear => s.tuner.wNear
        | .tunerMuteSet => (busSet s.tuner.muteSet).toNat
        | .safetyTimer => s.mixer.safetySetting
        | .attenuation => s.mixer.attenuation
        | .overThreshold => s.protection.overThreshold
        | .dcThreshold => s.protection.dcThreshold
        | .lossFloor => s.protection.lossFloor
        | .tOver => s.protection.timers.overLevel
        | .tDc => s.protection.timers.dc
        | .tLoss => s.protection.timers.loss)))) ∧
    (2 ≤ args.length → args.length ≤ 3 → part = 0 →
      (a.toNat < 32 ∧ b.toNat < 4 →
        answer .mapEntry .ok [a, b, n1 ((s.stores.mapEntry a.toNat b.toNat).getD 255)]) ∧
      (¬(a.toNat < 32 ∧ b.toNat < 4) → answer .mapEntry .badRequest []) ∧
      (let state := fun x : LoadState => match x with
         | .empty => (0 : Byte)
         | .filling => 1
         | .ready => 2
       (a = 0 → b.toNat < 8 → answer .recordState .ok
         ([a, b, state (s.stores.curve b.toNat).state] ++ byte2 (s.stores.curve b.toNat).parts.toNat ++
           [flag (curveInUse s b.toNat), 255])) ∧
       (a = 1 → b.toNat < 16 → answer .recordState .ok
         ([a, b, state (s.stores.impulse b.toNat).state] ++ byte2 (s.stores.impulse b.toNat).parts.toNat ++
           [flag (impulseInUse s b.toNat), 255])) ∧
       (a = 2 → b.toNat < 128 → answer .recordState .ok
         (match s.stores.preset b.toNat with
          | .empty => [a, b, 0, 0, 0, 0, 255]
          | .filling p => [a, b, 1, 0, 0, 0, if p.kind = .single then 0 else 1]
          | .valid p => [a, b, 2, 0, 0, 0, if p.kind = .single then 0 else 1])) ∧
       (¬(a = 0 ∧ b.toNat < 8) → ¬(a = 1 ∧ b.toNat < 16) → ¬(a = 2 ∧ b.toNat < 128) →
         answer .recordState .badRequest [])) ∧
      (let chainGroup := 4 ≤ a.toNat ∧ a.toNat ≤ 12
       let ok := a.toNat ≤ 12 ∧ (chainGroup → b = 0 ∨ b = 1)
       let chain : ChainId := if chainGroup ∧ b = 1 then .b else .a
       (¬ok → answer .sceneGroup .badRequest []) ∧
       (ok → s.engine.scene = none → answer .sceneGroup .noScene []) ∧
       ∀ sc, ok → s.engine.scene = some sc →
         (chain = .b → sc.preset.kind = .single → answer .sceneGroup .badRequest []) ∧
         (¬(chain = .b ∧ sc.preset.kind = .single) → answer .sceneGroup .ok
           ([n1 sc.source, flag sc.dirty, a, if chain = .b then 1 else 0] ++ sc.preset.groupBytes a.toNat chain)))) ∧
    (args.length = 3 → part = 0 →
      let chainGroup := 4 ≤ b.toNat ∧ b.toNat ≤ 12
      let ok := a.toNat < 128 ∧ b.toNat ≤ 12 ∧ (chainGroup → c = 0 ∨ c = 1)
      let chain : ChainId := if chainGroup ∧ c = 1 then .b else .a
      (¬ok → answer .libraryGroup .badRequest []) ∧
      (ok → s.stores.preset a.toNat = .empty → answer .libraryGroup .ok [0, 255, b, if chain = .b then 1 else 0]) ∧
      ∀ p code, ok → ((s.stores.preset a.toNat = .filling p ∧ code = 1) ∨ (s.stores.preset a.toNat = .valid p ∧ code = 2)) →
        (chain = .b → p.kind = .single → answer .libraryGroup .badRequest []) ∧
        (¬(chain = .b ∧ p.kind = .single) → answer .libraryGroup .ok
          ([code, if p.kind = .single then 0 else 1, b, if chain = .b then 1 else 0] ++ p.groupBytes b.toNat chain)))
end

