-- ==== Sys2Proof/Laws/Arith.lean ====
section
/-! SUPPORT. What the shared arithmetic, the logarithms of the tuner and the looks of the arbiter can do, said once. -/

namespace Sys2Proof.Machine

/-! ### Arithmetic -/

theorem saturate_mem (v : Int) : -8388608 ≤ saturate v ∧ saturate v ≤ 8388607 := by
  simp only [saturate, Config.sampleMin, Config.sampleMax]; omega

/-- Saturation leaves a sample as it is. -/
theorem saturate_of_mem {v : Int} (hlo : -8388608 ≤ v) (hhi : v ≤ 8388607) : saturate v = v := by
  simp only [saturate, Config.sampleMin, Config.sampleMax]; omega

theorem rhs_mem (p : Int) (s : Nat) : -8388608 ≤ rhs p s ∧ rhs p s ≤ 8388607 := saturate_mem _

theorem clamp_mem {lo hi : Nat} (h : lo ≤ hi) (v : Nat) : lo ≤ clamp lo hi v ∧ clamp lo hi v ≤ hi := by
  unfold clamp; split <;> (try split) <;> omega

/-- A clamp leaves a value of its range as it is, and no other. -/
theorem clamp_eq_self {lo hi : Nat} (v : Nat) : clamp lo hi v = v ↔ lo ≤ v ∧ v ≤ hi := by
  unfold clamp; split <;> (try split) <;> omega

theorem clamp_eq_max_min {lo hi : Nat} (h : lo ≤ hi) (v : Nat) : clamp lo hi v = max lo (min hi v) := by
  unfold clamp; split <;> (try split) <;> omega

theorem rampUp_eq_min {top k : Nat} (h : k ≤ top) : rampUp top k = min top (k + 1) := by
  unfold rampUp; split <;> omega

/-- A ramp position stays within its top. -/
theorem rampUp_le {top k : Nat} (h : k ≤ top) : rampUp top k ≤ top := by
  unfold rampUp; split <;> omega

theorem rampDown_le {top k : Nat} (h : k ≤ top) : rampDown k ≤ top := by
  unfold rampDown; omega

/-! ### Bytes of a number (R207) -/

@[simp] theorem byte1_toNat (n : Nat) : (byte1 n).toNat = n % 256 := by simp [byte1]

@[simp] theorem byte2_length (n : Nat) : (byte2 n).length = 2 := rfl

@[simp] theorem byte3_length (n : Nat) : (byte3 n).length = 3 := rfl

/-! ### Logarithms (R127 to R129) -/

/-- What a comparison of powers says: b·2^e ≤ a. -/
theorem powLe_iff (e : Int) (a b : Nat) : powLe e a b = true ↔ (b : ℚ) * 2 ^ e ≤ a := by
  have h2 : (0 : ℚ) < 2 ^ (-e).toNat := by positivity
  have he : (2 : ℚ) ^ e * 2 ^ (-e).toNat = 2 ^ e.toNat := by
    rw [← zpow_natCast, ← zpow_natCast, ← zpow_add₀ (by norm_num)]; congr 1; omega
  rw [powLe, decide_eq_true_eq, ← mul_le_mul_iff_left₀ h2, mul_assoc, he]
  exact_mod_cast Iff.rfl

/-- The search keeps its bracket: from k with 2^k ≤ a / b < 2^(k + 2^m) it ends at the floor of log2(a / b). -/
theorem powLe_search (a b m : Nat) (k : Int) (h : powLe k a b = true) (h' : powLe (k + 2 ^ m) a b = false) :
    let r := (List.range m).foldr (fun i k => if powLe (k + 2 ^ i) a b then k + 2 ^ i else k) k
    powLe r a b = true ∧ powLe (r + 1) a b = false := by
  induction m generalizing k with
  | zero => simpa using ⟨h, by simpa using h'⟩
  | succ m ih =>
    simp only [List.range_succ, List.foldr_append, List.foldr_cons, List.foldr_nil]
    by_cases hm : powLe (k + 2 ^ m) a b = true
    · simp only [hm, if_true]
      exact ih _ hm (by rwa [pow_succ, mul_two, ← add_assoc] at h')
    · simp only [hm, Bool.false_eq_true, if_false]
      exact ih _ h (by simpa using hm)

/-- The floor of n·log2(a / b): 2 to its power is at most (a / b)^n, 2 to the next power is above it. -/
theorem floorLog2_spec {n a b : Nat} (hn : n ≤ 32767) (ha : 0 < a) (hb : 0 < b) :
    (b : ℚ) ^ n * 2 ^ floorLog2 n a b ≤ (a : ℚ) ^ n ∧ (a : ℚ) ^ n < (b : ℚ) ^ n * 2 ^ (floorLog2 n a b + 1) := by
  have hb' : (0 : ℚ) < b := by exact_mod_cast hb
  have ha' : (0 : ℚ) < a := by exact_mod_cast ha
  have bound : ∀ c : Nat, 0 < c → (2 : ℚ) ^ (c.log2 : ℤ) ≤ c ∧ (c : ℚ) < 2 ^ ((c.log2 : ℤ) + 1) := by
    intro c hc
    constructor
    · exact_mod_cast Nat.log2_self_le hc.ne'
    · exact_mod_cast Nat.lt_log2_self
  have hlo : powLe ((n : Int) * (a.log2 - b.log2 - 1)) (a ^ n) (b ^ n) = true := by
    rw [powLe_iff, mul_comm (n : ℤ), zpow_mul, zpow_natCast]
    push_cast
    rw [← mul_pow]
    apply pow_le_pow_left₀ (by positivity)
    refine le_trans ?_ (bound a ha).1
    rw [show (a.log2 : ℤ) - b.log2 - 1 = a.log2 - (b.log2 + 1) by ring, zpow_sub₀ (by norm_num), mul_div_assoc',
      div_le_iff₀ (by positivity), mul_comm]
    exact mul_le_mul_of_nonneg_left (bound b hb).2.le (by positivity)
  have hhi : powLe ((n : Int) * (a.log2 - b.log2 - 1) + 2 ^ 16) (a ^ n) (b ^ n) = false := by
    rw [← Bool.not_eq_true, powLe_iff, not_le]
    push_cast
    have step : (a : ℚ) ^ n ≤ (b : ℚ) ^ n * 2 ^ ((n : Int) * (a.log2 - b.log2 + 1)) := by
      rw [mul_comm (n : ℤ), zpow_mul, zpow_natCast, ← mul_pow]
      apply pow_le_pow_left₀ (by positivity)
      refine (bound a ha).2.le.trans ?_
      rw [show (a.log2 : ℤ) - b.log2 + 1 = a.log2 + 1 - b.log2 by ring, zpow_sub₀ (by norm_num), mul_div_assoc',
        le_div_iff₀ (by positivity), mul_comm]
      exact mul_le_mul_of_nonneg_right (bound b hb).1 (by positivity)
    refine step.trans_lt (mul_lt_mul_of_pos_left (zpow_lt_zpow_right₀ (by norm_num) ?_) (by positivity))
    have : (n : ℤ) ≤ 32767 := by exact_mod_cast hn
    nlinarith
  obtain ⟨h1, h2⟩ := powLe_search (a ^ n) (b ^ n) 16 _ hlo hhi
  rw [powLe_iff] at h1
  rw [← Bool.not_eq_true, powLe_iff, not_le] at h2
  push_cast at h1 h2
  exact ⟨h1, h2⟩

/-! ### Looks of the arbiter (R84) -/

/-- With a transition in flight a look changes nothing. -/
theorem arbiterLook_of_transition {s : State} (h : s.engine.transition.isSome = true) : arbiterLook s = s := by
  simp [arbiterLook, look, h]

/-- With no slot that can be granted a look changes nothing. -/
theorem arbiterLook_of_no_choice {s : State} (h : s.arbiter.choice = none) : arbiterLook s = s := by
  simp [arbiterLook, look, h]

/-- What the arbiter chooses: a link whose slot can be granted and none of a higher rank can; or none, where no slot can be
granted. -/
theorem Arbiter.choice_spec (a : Arbiter) :
    match a.choice with
    | some l => a.grantable l = true ∧ ∀ k, linkRank k < linkRank l → a.grantable k = false
    | none => ∀ k, a.grantable k = false := by
  cases hp : a.grantable .player <;> cases hs : a.grantable .showControl <;> cases hc : a.grantable .crew <;>
    simp only [Arbiter.choice, hp, hs, hc, if_true, Bool.false_eq_true, if_false, true_and] <;> intro k <;> cases k <;>
    simp [linkRank, *]

/-- A slot the arbiter chooses is occupied and not barred. -/
theorem Arbiter.choice_grantable {a : Arbiter} {l : Link} (h : a.choice = some l) : a.grantable l = true := by
  have := a.choice_spec
  rw [h] at this
  exact this.1

/-- The arbiter chooses none exactly when no slot can be granted. -/
theorem Arbiter.choice_eq_none {a : Arbiter} : a.choice = none ↔ ∀ l, a.grantable l = false :=
  ⟨fun h => by simpa [h] using a.choice_spec, fun h => by simp [Arbiter.choice, h]⟩

end Sys2Proof.Machine
end

