-- ==== Sys2Proof/Laws/State.lean ====
section
/-! SUPPORT. One lemma per field and update of State, each true by unfolding, so that no proof unfolds a record update. -/

namespace Sys2Proof.Machine

/-! ### State.withFrontEnd -/

@[simp] theorem State.withFrontEnd_pending (s : State) (x : FrontEnd) : (s.withFrontEnd x).pending = s.pending := rfl
@[simp] theorem State.withFrontEnd_frontEnd (s : State) (x : FrontEnd) : (s.withFrontEnd x).frontEnd = x := rfl
@[simp] theorem State.withFrontEnd_lanes (s : State) (x : FrontEnd) : (s.withFrontEnd x).lanes = s.lanes := rfl
@[simp] theorem State.withFrontEnd_stores (s : State) (x : FrontEnd) : (s.withFrontEnd x).stores = s.stores := rfl
@[simp] theorem State.withFrontEnd_engine (s : State) (x : FrontEnd) : (s.withFrontEnd x).engine = s.engine := rfl
@[simp] theorem State.withFrontEnd_arbiter (s : State) (x : FrontEnd) : (s.withFrontEnd x).arbiter = s.arbiter := rfl
@[simp] theorem State.withFrontEnd_control (s : State) (x : FrontEnd) : (s.withFrontEnd x).control = s.control := rfl
@[simp] theorem State.withFrontEnd_tuner (s : State) (x : FrontEnd) : (s.withFrontEnd x).tuner = s.tuner := rfl
@[simp] theorem State.withFrontEnd_mixer (s : State) (x : FrontEnd) : (s.withFrontEnd x).mixer = s.mixer := rfl
@[simp] theorem State.withFrontEnd_protection (s : State) (x : FrontEnd) : (s.withFrontEnd x).protection = s.protection := rfl
@[simp] theorem State.withFrontEnd_capture (s : State) (x : FrontEnd) : (s.withFrontEnd x).capture = s.capture := rfl
@[simp] theorem State.withFrontEnd_links (s : State) (x : FrontEnd) : (s.withFrontEnd x).links = s.links := rfl
@[simp] theorem State.withFrontEnd_resetDue (s : State) (x : FrontEnd) : (s.withFrontEnd x).resetDue = s.resetDue := rfl

/-! ### State.withLanes -/

@[simp] theorem State.withLanes_pending (s : State) (x : PerLane Lane) : (s.withLanes x).pending = s.pending := rfl
@[simp] theorem State.withLanes_frontEnd (s : State) (x : PerLane Lane) : (s.withLanes x).frontEnd = s.frontEnd := rfl
@[simp] theorem State.withLanes_lanes (s : State) (x : PerLane Lane) : (s.withLanes x).lanes = x := rfl
@[simp] theorem State.withLanes_stores (s : State) (x : PerLane Lane) : (s.withLanes x).stores = s.stores := rfl
@[simp] theorem State.withLanes_engine (s : State) (x : PerLane Lane) : (s.withLanes x).engine = s.engine := rfl
@[simp] theorem State.withLanes_arbiter (s : State) (x : PerLane Lane) : (s.withLanes x).arbiter = s.arbiter := rfl
@[simp] theorem State.withLanes_control (s : State) (x : PerLane Lane) : (s.withLanes x).control = s.control := rfl
@[simp] theorem State.withLanes_tuner (s : State) (x : PerLane Lane) : (s.withLanes x).tuner = s.tuner := rfl
@[simp] theorem State.withLanes_mixer (s : State) (x : PerLane Lane) : (s.withLanes x).mixer = s.mixer := rfl
@[simp] theorem State.withLanes_protection (s : State) (x : PerLane Lane) : (s.withLanes x).protection = s.protection := rfl
@[simp] theorem State.withLanes_capture (s : State) (x : PerLane Lane) : (s.withLanes x).capture = s.capture := rfl
@[simp] theorem State.withLanes_links (s : State) (x : PerLane Lane) : (s.withLanes x).links = s.links := rfl
@[simp] theorem State.withLanes_resetDue (s : State) (x : PerLane Lane) : (s.withLanes x).resetDue = s.resetDue := rfl

/-! ### State.withStores -/

@[simp] theorem State.withStores_pending (s : State) (x : Stores) : (s.withStores x).pending = s.pending := rfl
@[simp] theorem State.withStores_frontEnd (s : State) (x : Stores) : (s.withStores x).frontEnd = s.frontEnd := rfl
@[simp] theorem State.withStores_lanes (s : State) (x : Stores) : (s.withStores x).lanes = s.lanes := rfl
@[simp] theorem State.withStores_stores (s : State) (x : Stores) : (s.withStores x).stores = x := rfl
@[simp] theorem State.withStores_engine (s : State) (x : Stores) : (s.withStores x).engine = s.engine := rfl
@[simp] theorem State.withStores_arbiter (s : State) (x : Stores) : (s.withStores x).arbiter = s.arbiter := rfl
@[simp] theorem State.withStores_control (s : State) (x : Stores) : (s.withStores x).control = s.control := rfl
@[simp] theorem State.withStores_tuner (s : State) (x : Stores) : (s.withStores x).tuner = s.tuner := rfl
@[simp] theorem State.withStores_mixer (s : State) (x : Stores) : (s.withStores x).mixer = s.mixer := rfl
@[simp] theorem State.withStores_protection (s : State) (x : Stores) : (s.withStores x).protection = s.protection := rfl
@[simp] theorem State.withStores_capture (s : State) (x : Stores) : (s.withStores x).capture = s.capture := rfl
@[simp] theorem State.withStores_links (s : State) (x : Stores) : (s.withStores x).links = s.links := rfl
@[simp] theorem State.withStores_resetDue (s : State) (x : Stores) : (s.withStores x).resetDue = s.resetDue := rfl

/-! ### State.withEngine -/

@[simp] theorem State.withEngine_pending (s : State) (x : Engine) : (s.withEngine x).pending = s.pending := rfl
@[simp] theorem State.withEngine_frontEnd (s : State) (x : Engine) : (s.withEngine x).frontEnd = s.frontEnd := rfl
@[simp] theorem State.withEngine_lanes (s : State) (x : Engine) : (s.withEngine x).lanes = s.lanes := rfl
@[simp] theorem State.withEngine_stores (s : State) (x : Engine) : (s.withEngine x).stores = s.stores := rfl
@[simp] theorem State.withEngine_engine (s : State) (x : Engine) : (s.withEngine x).engine = x := rfl
@[simp] theorem State.withEngine_arbiter (s : State) (x : Engine) : (s.withEngine x).arbiter = s.arbiter := rfl
@[simp] theorem State.withEngine_control (s : State) (x : Engine) : (s.withEngine x).control = s.control := rfl
@[simp] theorem State.withEngine_tuner (s : State) (x : Engine) : (s.withEngine x).tuner = s.tuner := rfl
@[simp] theorem State.withEngine_mixer (s : State) (x : Engine) : (s.withEngine x).mixer = s.mixer := rfl
@[simp] theorem State.withEngine_protection (s : State) (x : Engine) : (s.withEngine x).protection = s.protection := rfl
@[simp] theorem State.withEngine_capture (s : State) (x : Engine) : (s.withEngine x).capture = s.capture := rfl
@[simp] theorem State.withEngine_links (s : State) (x : Engine) : (s.withEngine x).links = s.links := rfl
@[simp] theorem State.withEngine_resetDue (s : State) (x : Engine) : (s.withEngine x).resetDue = s.resetDue := rfl

/-! ### State.withArbiter -/

@[simp] theorem State.withArbiter_pending (s : State) (x : Arbiter) : (s.withArbiter x).pending = s.pending := rfl
@[simp] theorem State.withArbiter_frontEnd (s : State) (x : Arbiter) : (s.withArbiter x).frontEnd = s.frontEnd := rfl
@[simp] theorem State.withArbiter_lanes (s : State) (x : Arbiter) : (s.withArbiter x).lanes = s.lanes := rfl
@[simp] theorem State.withArbiter_stores (s : State) (x : Arbiter) : (s.withArbiter x).stores = s.stores := rfl
@[simp] theorem State.withArbiter_engine (s : State) (x : Arbiter) : (s.withArbiter x).engine = s.engine := rfl
@[simp] theorem State.withArbiter_arbiter (s : State) (x : Arbiter) : (s.withArbiter x).arbiter = x := rfl
@[simp] theorem State.withArbiter_control (s : State) (x : Arbiter) : (s.withArbiter x).control = s.control := rfl
@[simp] theorem State.withArbiter_tuner (s : State) (x : Arbiter) : (s.withArbiter x).tuner = s.tuner := rfl
@[simp] theorem State.withArbiter_mixer (s : State) (x : Arbiter) : (s.withArbiter x).mixer = s.mixer := rfl
@[simp] theorem State.withArbiter_protection (s : State) (x : Arbiter) : (s.withArbiter x).protection = s.protection := rfl
@[simp] theorem State.withArbiter_capture (s : State) (x : Arbiter) : (s.withArbiter x).capture = s.capture := rfl
@[simp] theorem State.withArbiter_links (s : State) (x : Arbiter) : (s.withArbiter x).links = s.links := rfl
@[simp] theorem State.withArbiter_resetDue (s : State) (x : Arbiter) : (s.withArbiter x).resetDue = s.resetDue := rfl

/-! ### State.withControl -/

@[simp] theorem State.withControl_pending (s : State) (x : Control) : (s.withControl x).pending = s.pending := rfl
@[simp] theorem State.withControl_frontEnd (s : State) (x : Control) : (s.withControl x).frontEnd = s.frontEnd := rfl
@[simp] theorem State.withControl_lanes (s : State) (x : Control) : (s.withControl x).lanes = s.lanes := rfl
@[simp] theorem State.withControl_stores (s : State) (x : Control) : (s.withControl x).stores = s.stores := rfl
@[simp] theorem State.withControl_engine (s : State) (x : Control) : (s.withControl x).engine = s.engine := rfl
@[simp] theorem State.withControl_arbiter (s : State) (x : Control) : (s.withControl x).arbiter = s.arbiter := rfl
@[simp] theorem State.withControl_control (s : State) (x : Control) : (s.withControl x).control = x := rfl
@[simp] theorem State.withControl_tuner (s : State) (x : Control) : (s.withControl x).tuner = s.tuner := rfl
@[simp] theorem State.withControl_mixer (s : State) (x : Control) : (s.withControl x).mixer = s.mixer := rfl
@[simp] theorem State.withControl_protection (s : State) (x : Control) : (s.withControl x).protection = s.protection := rfl
@[simp] theorem State.withControl_capture (s : State) (x : Control) : (s.withControl x).capture = s.capture := rfl
@[simp] theorem State.withControl_links (s : State) (x : Control) : (s.withControl x).links = s.links := rfl
@[simp] theorem State.withControl_resetDue (s : State) (x : Control) : (s.withControl x).resetDue = s.resetDue := rfl

/-! ### State.withTuner -/

@[simp] theorem State.withTuner_pending (s : State) (x : Tuner) : (s.withTuner x).pending = s.pending := rfl
@[simp] theorem State.withTuner_frontEnd (s : State) (x : Tuner) : (s.withTuner x).frontEnd = s.frontEnd := rfl
@[simp] theorem State.withTuner_lanes (s : State) (x : Tuner) : (s.withTuner x).lanes = s.lanes := rfl
@[simp] theorem State.withTuner_stores (s : State) (x : Tuner) : (s.withTuner x).stores = s.stores := rfl
@[simp] theorem State.withTuner_engine (s : State) (x : Tuner) : (s.withTuner x).engine = s.engine := rfl
@[simp] theorem State.withTuner_arbiter (s : State) (x : Tuner) : (s.withTuner x).arbiter = s.arbiter := rfl
@[simp] theorem State.withTuner_control (s : State) (x : Tuner) : (s.withTuner x).control = s.control := rfl
@[simp] theorem State.withTuner_tuner (s : State) (x : Tuner) : (s.withTuner x).tuner = x := rfl
@[simp] theorem State.withTuner_mixer (s : State) (x : Tuner) : (s.withTuner x).mixer = s.mixer := rfl
@[simp] theorem State.withTuner_protection (s : State) (x : Tuner) : (s.withTuner x).protection = s.protection := rfl
@[simp] theorem State.withTuner_capture (s : State) (x : Tuner) : (s.withTuner x).capture = s.capture := rfl
@[simp] theorem State.withTuner_links (s : State) (x : Tuner) : (s.withTuner x).links = s.links := rfl
@[simp] theorem State.withTuner_resetDue (s : State) (x : Tuner) : (s.withTuner x).resetDue = s.resetDue := rfl

/-! ### State.withMixer -/

@[simp] theorem State.withMixer_pending (s : State) (x : Mixer) : (s.withMixer x).pending = s.pending := rfl
@[simp] theorem State.withMixer_frontEnd (s : State) (x : Mixer) : (s.withMixer x).frontEnd = s.frontEnd := rfl
@[simp] theorem State.withMixer_lanes (s : State) (x : Mixer) : (s.withMixer x).lanes = s.lanes := rfl
@[simp] theorem State.withMixer_stores (s : State) (x : Mixer) : (s.withMixer x).stores = s.stores := rfl
@[simp] theorem State.withMixer_engine (s : State) (x : Mixer) : (s.withMixer x).engine = s.engine := rfl
@[simp] theorem State.withMixer_arbiter (s : State) (x : Mixer) : (s.withMixer x).arbiter = s.arbiter := rfl
@[simp] theorem State.withMixer_control (s : State) (x : Mixer) : (s.withMixer x).control = s.control := rfl
@[simp] theorem State.withMixer_tuner (s : State) (x : Mixer) : (s.withMixer x).tuner = s.tuner := rfl
@[simp] theorem State.withMixer_mixer (s : State) (x : Mixer) : (s.withMixer x).mixer = x := rfl
@[simp] theorem State.withMixer_protection (s : State) (x : Mixer) : (s.withMixer x).protection = s.protection := rfl
@[simp] theorem State.withMixer_capture (s : State) (x : Mixer) : (s.withMixer x).capture = s.capture := rfl
@[simp] theorem State.withMixer_links (s : State) (x : Mixer) : (s.withMixer x).links = s.links := rfl
@[simp] theorem State.withMixer_resetDue (s : State) (x : Mixer) : (s.withMixer x).resetDue = s.resetDue := rfl

/-! ### State.withProtection -/

@[simp] theorem State.withProtection_pending (s : State) (x : Protection) : (s.withProtection x).pending = s.pending := rfl
@[simp] theorem State.withProtection_frontEnd (s : State) (x : Protection) : (s.withProtection x).frontEnd = s.frontEnd := rfl
@[simp] theorem State.withProtection_lanes (s : State) (x : Protection) : (s.withProtection x).lanes = s.lanes := rfl
@[simp] theorem State.withProtection_stores (s : State) (x : Protection) : (s.withProtection x).stores = s.stores := rfl
@[simp] theorem State.withProtection_engine (s : State) (x : Protection) : (s.withProtection x).engine = s.engine := rfl
@[simp] theorem State.withProtection_arbiter (s : State) (x : Protection) : (s.withProtection x).arbiter = s.arbiter := rfl
@[simp] theorem State.withProtection_control (s : State) (x : Protection) : (s.withProtection x).control = s.control := rfl
@[simp] theorem State.withProtection_tuner (s : State) (x : Protection) : (s.withProtection x).tuner = s.tuner := rfl
@[simp] theorem State.withProtection_mixer (s : State) (x : Protection) : (s.withProtection x).mixer = s.mixer := rfl
@[simp] theorem State.withProtection_protection (s : State) (x : Protection) : (s.withProtection x).protection = x := rfl
@[simp] theorem State.withProtection_capture (s : State) (x : Protection) : (s.withProtection x).capture = s.capture := rfl
@[simp] theorem State.withProtection_links (s : State) (x : Protection) : (s.withProtection x).links = s.links := rfl
@[simp] theorem State.withProtection_resetDue (s : State) (x : Protection) : (s.withProtection x).resetDue = s.resetDue := rfl

/-! ### State.withCapture -/

@[simp] theorem State.withCapture_pending (s : State) (x : Option FaultRec) : (s.withCapture x).pending = s.pending := rfl
@[simp] theorem State.withCapture_frontEnd (s : State) (x : Option FaultRec) : (s.withCapture x).frontEnd = s.frontEnd := rfl
@[simp] theorem State.withCapture_lanes (s : State) (x : Option FaultRec) : (s.withCapture x).lanes = s.lanes := rfl
@[simp] theorem State.withCapture_stores (s : State) (x : Option FaultRec) : (s.withCapture x).stores = s.stores := rfl
@[simp] theorem State.withCapture_engine (s : State) (x : Option FaultRec) : (s.withCapture x).engine = s.engine := rfl
@[simp] theorem State.withCapture_arbiter (s : State) (x : Option FaultRec) : (s.withCapture x).arbiter = s.arbiter := rfl
@[simp] theorem State.withCapture_control (s : State) (x : Option FaultRec) : (s.withCapture x).control = s.control := rfl
@[simp] theorem State.withCapture_tuner (s : State) (x : Option FaultRec) : (s.withCapture x).tuner = s.tuner := rfl
@[simp] theorem State.withCapture_mixer (s : State) (x : Option FaultRec) : (s.withCapture x).mixer = s.mixer := rfl
@[simp] theorem State.withCapture_protection (s : State) (x : Option FaultRec) : (s.withCapture x).protection = s.protection := rfl
@[simp] theorem State.withCapture_capture (s : State) (x : Option FaultRec) : (s.withCapture x).capture = x := rfl
@[simp] theorem State.withCapture_links (s : State) (x : Option FaultRec) : (s.withCapture x).links = s.links := rfl
@[simp] theorem State.withCapture_resetDue (s : State) (x : Option FaultRec) : (s.withCapture x).resetDue = s.resetDue := rfl

/-! ### State.withLinks -/

@[simp] theorem State.withLinks_pending (s : State) (x : PerLink LinkIf) : (s.withLinks x).pending = s.pending := rfl
@[simp] theorem State.withLinks_frontEnd (s : State) (x : PerLink LinkIf) : (s.withLinks x).frontEnd = s.frontEnd := rfl
@[simp] theorem State.withLinks_lanes (s : State) (x : PerLink LinkIf) : (s.withLinks x).lanes = s.lanes := rfl
@[simp] theorem State.withLinks_stores (s : State) (x : PerLink LinkIf) : (s.withLinks x).stores = s.stores := rfl
@[simp] theorem State.withLinks_engine (s : State) (x : PerLink LinkIf) : (s.withLinks x).engine = s.engine := rfl
@[simp] theorem State.withLinks_arbiter (s : State) (x : PerLink LinkIf) : (s.withLinks x).arbiter = s.arbiter := rfl
@[simp] theorem State.withLinks_control (s : State) (x : PerLink LinkIf) : (s.withLinks x).control = s.control := rfl
@[simp] theorem State.withLinks_tuner (s : State) (x : PerLink LinkIf) : (s.withLinks x).tuner = s.tuner := rfl
@[simp] theorem State.withLinks_mixer (s : State) (x : PerLink LinkIf) : (s.withLinks x).mixer = s.mixer := rfl
@[simp] theorem State.withLinks_protection (s : State) (x : PerLink LinkIf) : (s.withLinks x).protection = s.protection := rfl
@[simp] theorem State.withLinks_capture (s : State) (x : PerLink LinkIf) : (s.withLinks x).capture = s.capture := rfl
@[simp] theorem State.withLinks_links (s : State) (x : PerLink LinkIf) : (s.withLinks x).links = x := rfl
@[simp] theorem State.withLinks_resetDue (s : State) (x : PerLink LinkIf) : (s.withLinks x).resetDue = s.resetDue := rfl

/-! ### State.withResetDue -/

@[simp] theorem State.withResetDue_pending (s : State) (x : Bool) : (s.withResetDue x).pending = s.pending := rfl
@[simp] theorem State.withResetDue_frontEnd (s : State) (x : Bool) : (s.withResetDue x).frontEnd = s.frontEnd := rfl
@[simp] theorem State.withResetDue_lanes (s : State) (x : Bool) : (s.withResetDue x).lanes = s.lanes := rfl
@[simp] theorem State.withResetDue_stores (s : State) (x : Bool) : (s.withResetDue x).stores = s.stores := rfl
@[simp] theorem State.withResetDue_engine (s : State) (x : Bool) : (s.withResetDue x).engine = s.engine := rfl
@[simp] theorem State.withResetDue_arbiter (s : State) (x : Bool) : (s.withResetDue x).arbiter = s.arbiter := rfl
@[simp] theorem State.withResetDue_control (s : State) (x : Bool) : (s.withResetDue x).control = s.control := rfl
@[simp] theorem State.withResetDue_tuner (s : State) (x : Bool) : (s.withResetDue x).tuner = s.tuner := rfl
@[simp] theorem State.withResetDue_mixer (s : State) (x : Bool) : (s.withResetDue x).mixer = s.mixer := rfl
@[simp] theorem State.withResetDue_protection (s : State) (x : Bool) : (s.withResetDue x).protection = s.protection := rfl
@[simp] theorem State.withResetDue_capture (s : State) (x : Bool) : (s.withResetDue x).capture = s.capture := rfl
@[simp] theorem State.withResetDue_links (s : State) (x : Bool) : (s.withResetDue x).links = s.links := rfl
@[simp] theorem State.withResetDue_resetDue (s : State) (x : Bool) : (s.withResetDue x).resetDue = x := rfl

/-! ### State.withPending -/

@[simp] theorem State.withPending_pending (s : State) (x : List Instr) : (s.withPending x).pending = x := rfl
@[simp] theorem State.withPending_frontEnd (s : State) (x : List Instr) : (s.withPending x).frontEnd = s.frontEnd := rfl
@[simp] theorem State.withPending_lanes (s : State) (x : List Instr) : (s.withPending x).lanes = s.lanes := rfl
@[simp] theorem State.withPending_stores (s : State) (x : List Instr) : (s.withPending x).stores = s.stores := rfl
@[simp] theorem State.withPending_engine (s : State) (x : List Instr) : (s.withPending x).engine = s.engine := rfl
@[simp] theorem State.withPending_arbiter (s : State) (x : List Instr) : (s.withPending x).arbiter = s.arbiter := rfl
@[simp] theorem State.withPending_control (s : State) (x : List Instr) : (s.withPending x).control = s.control := rfl
@[simp] theorem State.withPending_tuner (s : State) (x : List Instr) : (s.withPending x).tuner = s.tuner := rfl
@[simp] theorem State.withPending_mixer (s : State) (x : List Instr) : (s.withPending x).mixer = s.mixer := rfl
@[simp] theorem State.withPending_protection (s : State) (x : List Instr) : (s.withPending x).protection = s.protection := rfl
@[simp] theorem State.withPending_capture (s : State) (x : List Instr) : (s.withPending x).capture = s.capture := rfl
@[simp] theorem State.withPending_links (s : State) (x : List Instr) : (s.withPending x).links = s.links := rfl
@[simp] theorem State.withPending_resetDue (s : State) (x : List Instr) : (s.withPending x).resetDue = s.resetDue := rfl

/-! ### State.setLane, State.setLink -/

@[simp] theorem State.setLane_pending (s : State) (k : LaneId) (x : Lane) : (s.setLane k x).pending = s.pending := rfl
@[simp] theorem State.setLane_frontEnd (s : State) (k : LaneId) (x : Lane) : (s.setLane k x).frontEnd = s.frontEnd := rfl
@[simp] theorem State.setLane_lanes (s : State) (k : LaneId) (x : Lane) : (s.setLane k x).lanes = s.lanes.set k x := rfl
@[simp] theorem State.setLane_stores (s : State) (k : LaneId) (x : Lane) : (s.setLane k x).stores = s.stores := rfl
@[simp] theorem State.setLane_engine (s : State) (k : LaneId) (x : Lane) : (s.setLane k x).engine = s.engine := rfl
@[simp] theorem State.setLane_arbiter (s : State) (k : LaneId) (x : Lane) : (s.setLane k x).arbiter = s.arbiter := rfl
@[simp] theorem State.setLane_control (s : State) (k : LaneId) (x : Lane) : (s.setLane k x).control = s.control := rfl
@[simp] theorem State.setLane_tuner (s : State) (k : LaneId) (x : Lane) : (s.setLane k x).tuner = s.tuner := rfl
@[simp] theorem State.setLane_mixer (s : State) (k : LaneId) (x : Lane) : (s.setLane k x).mixer = s.mixer := rfl
@[simp] theorem State.setLane_protection (s : State) (k : LaneId) (x : Lane) : (s.setLane k x).protection = s.protection := rfl
@[simp] theorem State.setLane_capture (s : State) (k : LaneId) (x : Lane) : (s.setLane k x).capture = s.capture := rfl
@[simp] theorem State.setLane_links (s : State) (k : LaneId) (x : Lane) : (s.setLane k x).links = s.links := rfl
@[simp] theorem State.setLane_resetDue (s : State) (k : LaneId) (x : Lane) : (s.setLane k x).resetDue = s.resetDue := rfl
@[simp] theorem State.setLink_pending (s : State) (l : Link) (x : LinkIf) : (s.setLink l x).pending = s.pending := rfl
@[simp] theorem State.setLink_frontEnd (s : State) (l : Link) (x : LinkIf) : (s.setLink l x).frontEnd = s.frontEnd := rfl
@[simp] theorem State.setLink_lanes (s : State) (l : Link) (x : LinkIf) : (s.setLink l x).lanes = s.lanes := rfl
@[simp] theorem State.setLink_stores (s : State) (l : Link) (x : LinkIf) : (s.setLink l x).stores = s.stores := rfl
@[simp] theorem State.setLink_engine (s : State) (l : Link) (x : LinkIf) : (s.setLink l x).engine = s.engine := rfl
@[simp] theorem State.setLink_arbiter (s : State) (l : Link) (x : LinkIf) : (s.setLink l x).arbiter = s.arbiter := rfl
@[simp] theorem State.setLink_control (s : State) (l : Link) (x : LinkIf) : (s.setLink l x).control = s.control := rfl
@[simp] theorem State.setLink_tuner (s : State) (l : Link) (x : LinkIf) : (s.setLink l x).tuner = s.tuner := rfl
@[simp] theorem State.setLink_mixer (s : State) (l : Link) (x : LinkIf) : (s.setLink l x).mixer = s.mixer := rfl
@[simp] theorem State.setLink_protection (s : State) (l : Link) (x : LinkIf) : (s.setLink l x).protection = s.protection := rfl
@[simp] theorem State.setLink_capture (s : State) (l : Link) (x : LinkIf) : (s.setLink l x).capture = s.capture := rfl
@[simp] theorem State.setLink_links (s : State) (l : Link) (x : LinkIf) : (s.setLink l x).links = s.links.set l x := rfl
@[simp] theorem State.setLink_resetDue (s : State) (l : Link) (x : LinkIf) : (s.setLink l x).resetDue = s.resetDue := rfl

/-! ### The small collections -/

@[simp] theorem PerLink.get_set_self {α : Type} (p : PerLink α) (l : Link) (v : α) : (p.set l v).get l = v := by
  cases l <;> rfl

theorem PerLink.get_set_other {α : Type} (p : PerLink α) {l k : Link} (v : α) (h : k ≠ l) : (p.set l v).get k = p.get k := by
  cases l <;> cases k <;> first | rfl | exact absurd rfl h

theorem PerLink.get_set {α : Type} (p : PerLink α) (l k : Link) (v : α) :
    (p.set l v).get k = if k = l then v else p.get k := by
  cases l <;> cases k <;> rfl

@[simp] theorem PerLink.get_map {α β : Type} (p : PerLink α) (f : α → β) (l : Link) : (p.map f).get l = f (p.get l) := by
  cases l <;> rfl

@[simp] theorem PerLink.set_set {α : Type} (p : PerLink α) (l : Link) (v w : α) : (p.set l v).set l w = p.set l w := by
  cases l <;> rfl

@[simp] theorem PerLink.set_get {α : Type} (p : PerLink α) (l : Link) : p.set l (p.get l) = p := by
  cases l <;> rfl

/-- Two families of values that agree at every link are equal. -/
theorem PerLink.ext_get {α : Type} {p q : PerLink α} (h : ∀ l, p.get l = q.get l) : p = q := by
  obtain ⟨a, b, c⟩ := p
  obtain ⟨a', b', c'⟩ := q
  have h0 := h .player
  have h1 := h .crew
  have h2 := h .showControl
  simp only [PerLink.get] at h0 h1 h2
  subst h0 h1 h2
  rfl

@[simp] theorem PerLane.get_set_self {α : Type} (p : PerLane α) (x : LaneId) (v : α) : (p.set x v).get x = v := by
  cases x <;> rfl

theorem PerLane.get_set {α : Type} (p : PerLane α) (x y : LaneId) (v : α) :
    (p.set x v).get y = if y = x then v else p.get y := by
  cases x <;> cases y <;> rfl

@[simp] theorem PerLane.get_map {α β : Type} (p : PerLane α) (f : α → β) (x : LaneId) : (p.map f).get x = f (p.get x) := by
  cases x <;> rfl

@[simp] theorem PerBus.get_build {α : Type} (f : Bus → α) (b : Bus) : (PerBus.build f).get b = f b := by
  cases b <;> rfl

@[simp] theorem PerBus.get_map {α β : Type} (p : PerBus α) (f : α → β) (b : Bus) : (p.map f).get b = f (p.get b) := by
  cases b <;> rfl

theorem PerBus.get_set {α : Type} (p : PerBus α) (b c : Bus) (v : α) :
    (p.set b v).get c = if c = b then v else p.get c := by
  cases b <;> cases c <;> rfl

theorem PerClass.get_set {α : Type} (p : PerClass α) (b c : ProtClass) (v : α) :
    (p.set b v).get c = if c = b then v else p.get c := by
  cases b <;> cases c <;> rfl

theorem NoticeSet.has_put (s : NoticeSet) (c d : NoticeClass) (v : Bool) :
    (s.put c v).has d = if d = c then v else s.has d := by
  cases c <;> cases d <;> rfl

@[simp] theorem State.link_setLink_self (s : State) (l : Link) (x : LinkIf) : (s.setLink l x).link l = x := by
  cases l <;> rfl

theorem State.link_setLink (s : State) (l k : Link) (x : LinkIf) :
    (s.setLink l x).link k = if k = l then x else s.link k := by
  cases l <;> cases k <;> rfl

theorem State.link_setLink_other (s : State) {l k : Link} (x : LinkIf) (h : k ≠ l) : (s.setLink l x).link k = s.link k := by
  cases l <;> cases k <;> first | rfl | exact absurd rfl h

@[simp] theorem State.link_withLinks (s : State) (x : PerLink LinkIf) (l : Link) : (s.withLinks x).link l = x.get l := rfl

/-- The links of a state read back link by link. -/
theorem State.links_get (s : State) (l : Link) : s.links.get l = s.link l := rfl

@[simp] theorem State.link_withFrontEnd (s : State) (x : FrontEnd) (l : Link) : (s.withFrontEnd x).link l = s.link l := rfl
@[simp] theorem State.link_withLanes (s : State) (x : PerLane Lane) (l : Link) : (s.withLanes x).link l = s.link l := rfl
@[simp] theorem State.link_withStores (s : State) (x : Stores) (l : Link) : (s.withStores x).link l = s.link l := rfl
@[simp] theorem State.link_withEngine (s : State) (x : Engine) (l : Link) : (s.withEngine x).link l = s.link l := rfl
@[simp] theorem State.link_withArbiter (s : State) (x : Arbiter) (l : Link) : (s.withArbiter x).link l = s.link l := rfl
@[simp] theorem State.link_withControl (s : State) (x : Control) (l : Link) : (s.withControl x).link l = s.link l := rfl
@[simp] theorem State.link_withTuner (s : State) (x : Tuner) (l : Link) : (s.withTuner x).link l = s.link l := rfl
@[simp] theorem State.link_withMixer (s : State) (x : Mixer) (l : Link) : (s.withMixer x).link l = s.link l := rfl
@[simp] theorem State.link_withProtection (s : State) (x : Protection) (l : Link) : (s.withProtection x).link l = s.link l := rfl
@[simp] theorem State.link_withCapture (s : State) (x : Option FaultRec) (l : Link) : (s.withCapture x).link l = s.link l := rfl
@[simp] theorem State.link_withResetDue (s : State) (x : Bool) (l : Link) : (s.withResetDue x).link l = s.link l := rfl
@[simp] theorem State.link_withPending (s : State) (x : List Instr) (l : Link) : (s.withPending x).link l = s.link l := rfl
@[simp] theorem State.link_setLane (s : State) (k : LaneId) (x : Lane) (l : Link) : (s.setLane k x).link l = s.link l := rfl

end Sys2Proof.Machine
end

