-- ==== Sys2Proof/Laws/Links.lean ====
section
/-! SUPPORT. What the reporting operations can do, said once: announcements, responses, transmitters, and the arrival of a
command in a state in which nothing is due. -/

namespace Sys2Proof.Machine

/-! ### Settling -/

theorem happen_of_not_due {e : Event} {s : State} (h : due e s = false) : happen e s = s := by simp [happen, h]

theorem happen_of_due {e : Event} {s : State} (h : due e s = true) : happen e s = pump (effect e s) := by simp [happen, h]

/-- Where nothing is due, settling changes nothing. -/
theorem settle_of_quiet {s : State} (h : quiet s = true) : settle s = s := by
  have aux : ∀ es : List Event, (∀ e ∈ es, due e s = false) → es.foldl (fun s e => happen e s) s = s := by
    intro es
    induction es with
    | nil => intro _; rfl
    | cons e es ih =>
      intro hes
      rw [List.foldl_cons, happen_of_not_due (hes e (by simp))]
      exact ih (fun e' he' => hes e' (by simp [he']))
  refine aux events (fun e he => ?_)
  have := (List.all_eq_true.mp h) e he
  simpa using this

theorem quiet_of_listening {l : Link} {s : State} (h : listening l s = true) : quiet s = true := by
  simp only [listening, Bool.and_eq_true] at h
  exact h.1.1

theorem listening_of_accepting {l : Link} {s : State} (h : accepting l s = true) : listening l s = true := by
  simp only [accepting, Bool.and_eq_true] at h
  exact h.1

theorem outside_of_quiet {s : State} (h : quiet s = true) (f : State → State) : outside f s = pump (f s) := by
  rw [outside, settle_of_quiet h]

/-- Where nothing is due, a drop is not either. -/
theorem takeDrops_of_quiet {s : State} (h : quiet s = true) (t : State) : takeDrops s t = t := by
  have hd : ∀ l : Link, due (.linkDrop l) s = false := fun l => by
    simpa using (List.all_eq_true.mp h) (.linkDrop l) (by cases l <;> decide)
  simp [takeDrops, hd]

/-- Where nothing is due, what comes from outside is simply done. -/
theorem beside_of_quiet {s : State} (h : quiet s = true) (own : Option Link) (f : State → State) :
    beside own f s = pump (f s) := by
  unfold beside
  split
  · exact takeDrops_of_quiet h _
  · exact outside_of_quiet h f

theorem lineUp_of_listening {l : Link} {s : State} (h : listening l s = true) : lineUp l s = s := by
  simp only [listening, Bool.and_eq_true, Bool.not_eq_true'] at h
  simp [lineUp, h.1.2]

theorem frameArrives_of_listening {l : Link} {s : State} (h : listening l s = true) (f : State → State) :
    frameArrives l f s = pump (f (setReceiver l .hunt s)) := by
  have hc : (s.link l).closing = false := by
    simp only [listening, Bool.and_eq_true, Bool.not_eq_true'] at h
    exact h.2
  simp [frameArrives, beside_of_quiet (quiet_of_listening h), lineUp_of_listening h, hc]

theorem byteArrives_of_listening {l : Link} {s : State} (h : listening l s = true) (b : Byte) :
    byteArrives l b s = pump (receive l b s) := by
  have hc : (s.link l).closing = false := by
    simp only [listening, Bool.and_eq_true, Bool.not_eq_true'] at h
    exact h.2
  simp [byteArrives, beside_of_quiet (quiet_of_listening h), lineUp_of_listening h, hc]

/-! ### Transmitters -/

/-- All a link does when it chooses: nothing, where the transmitter is not free or has nothing it may start; or the start of its
oldest response; or, with no response queued on a link that is not held, the start of its first pending notice, whose flag is cleared. -/
theorem LinkIf.choose_cases (s : State) (x : LinkIf) :
    ((x.tx ≠ .free ∨ (x.queue = [] ∧ (x.flags.first = none ∨ x.held s = true))) ∧ x.choose s = x) ∨
      (x.tx = .free ∧ ∃ m rest, x.queue = m :: rest ∧ x.choose s = { x with tx := .response (frameBytes m) }) ∨
      (x.tx = .free ∧ x.queue = [] ∧ x.held s = false ∧ ∃ c, x.flags.first = some c ∧
        x.choose s =
          { x with tx := .notice c (frameBytes ⟨c.code, 0, noticeBody s x c⟩), flags := x.flags.put c false }) := by
  rcases htx : x.tx with _ | _ | _
  · rcases hq : x.queue with _ | ⟨m, rest⟩
    · rcases hf : x.flags.first with _ | c <;> cases hd : x.held s <;> simp [LinkIf.choose, *]
    · simp [LinkIf.choose, *]
  all_goals simp [LinkIf.choose, *]

@[simp] theorem LinkIf.choose_core (s : State) (x : LinkIf) : (x.choose s).core = x.core := by
  obtain ⟨-, h⟩ | ⟨-, m, rest, -, h⟩ | ⟨-, -, -, c, -, h⟩ := x.choose_cases s <;> rw [h] <;> rfl

@[simp] theorem LinkIf.choose_mask (s : State) (x : LinkIf) : (x.choose s).mask = x.mask := by
  obtain ⟨-, h⟩ | ⟨-, m, rest, -, h⟩ | ⟨-, -, -, c, -, h⟩ := x.choose_cases s <;> rw [h]

@[simp] theorem LinkIf.choose_queue (s : State) (x : LinkIf) : (x.choose s).queue = x.queue := by
  obtain ⟨-, h⟩ | ⟨-, m, rest, -, h⟩ | ⟨-, -, -, c, -, h⟩ := x.choose_cases s <;> rw [h]

@[simp] theorem pump_pending (s : State) : (pump s).pending = s.pending := rfl
@[simp] theorem pump_frontEnd (s : State) : (pump s).frontEnd = s.frontEnd := rfl
@[simp] theorem pump_lanes (s : State) : (pump s).lanes = s.lanes := rfl
@[simp] theorem pump_stores (s : State) : (pump s).stores = s.stores := rfl
@[simp] theorem pump_engine (s : State) : (pump s).engine = s.engine := rfl
@[simp] theorem pump_arbiter (s : State) : (pump s).arbiter = s.arbiter := rfl
@[simp] theorem pump_control (s : State) : (pump s).control = s.control := rfl
@[simp] theorem pump_tuner (s : State) : (pump s).tuner = s.tuner := rfl
@[simp] theorem pump_mixer (s : State) : (pump s).mixer = s.mixer := rfl
@[simp] theorem pump_protection (s : State) : (pump s).protection = s.protection := rfl
@[simp] theorem pump_capture (s : State) : (pump s).capture = s.capture := rfl
@[simp] theorem pump_resetDue (s : State) : (pump s).resetDue = s.resetDue := rfl

/-- A link after the transmitters have chosen: it has chosen, or it is the CREW link and the soft reset is due. -/
theorem pump_link (s : State) (k : Link) :
    (pump s).link k = if k = .crew ∧ s.resetDue = true then s.link k else (s.link k).choose s := by
  cases k <;> cases h : s.resetDue <;> simp [pump, State.link, PerLink.get, h]

@[simp] theorem pump_link_core (s : State) (k : Link) : ((pump s).link k).core = (s.link k).core := by
  rw [pump_link]
  split <;> simp

@[simp] theorem pump_link_mask (s : State) (k : Link) : ((pump s).link k).mask = (s.link k).mask := by
  rw [pump_link]
  split <;> simp

@[simp] theorem pump_link_queue (s : State) (k : Link) : ((pump s).link k).queue = (s.link k).queue := by
  rw [pump_link]
  split <;> simp

/-- The class a link announces first is one whose flag is set. -/
theorem NoticeSet.has_of_first {f : NoticeSet} {c : NoticeClass} (h : f.first = some c) : f.has c = true := by
  have := List.find?_some h
  simpa using this

/-- No class comes first exactly when no flag is set. -/
theorem NoticeSet.first_eq_none {f : NoticeSet} : f.first = Option.none ↔ f = NoticeSet.none := by
  cases f
  simp [NoticeSet.first, noticeClasses, NoticeSet.has, NoticeSet.none]

/-- What choosing does to the transmitter and the pending flags: a transmitter that is not free goes on, and a flag is
cleared only by the start of its notice. -/
theorem LinkIf.choose_announces (s : State) (x : LinkIf) :
    (x.tx ≠ .free → (x.choose s).tx = x.tx) ∧
      ∀ c, (x.flags.has c = true →
          (x.choose s).flags.has c = true ∨ (x.tx = .free ∧ ∃ frame, (x.choose s).tx = .notice c frame)) ∧
        ((x.choose s).flags.has c = true → x.flags.has c = true) := by
  obtain ⟨-, h⟩ | ⟨htx, m, rest, -, h⟩ | ⟨htx, -, -, d, -, h⟩ := x.choose_cases s <;> rw [h]
  · exact ⟨fun _ => rfl, fun c => ⟨.inl, id⟩⟩
  · exact ⟨fun hbusy => absurd htx hbusy, fun c => ⟨.inl, id⟩⟩
  · refine ⟨fun hbusy => absurd htx hbusy, fun c => ?_⟩
    rw [NoticeSet.has_put]
    split
    · next hc => exact ⟨fun _ => .inr ⟨htx, _, by rw [hc]⟩, fun hno => absurd hno (by simp)⟩
    · exact ⟨.inl, id⟩

/-! ### Announcements -/

/-- s to t raises exactly the classes `raised` and moves no transmitter: what a step does before the transmitters choose. -/
def raises (raised : Link → NoticeClass → Bool) (s t : State) : Prop :=
  ∀ k : Link, (t.link k).tx = (s.link k).tx ∧
    ∀ c : NoticeClass, (t.link k).flags.has c = ((s.link k).flags.has c || (raised k c && (s.link k).mask.has c))

/-- A step that raises and then lets the transmitters choose announces. -/
theorem announces_pump {raised : Link → NoticeClass → Bool} {s t : State} (h : raises raised s t) :
    announces raised s (pump t) := by
  intro k
  obtain ⟨htx, hflags⟩ := h k
  have key := LinkIf.choose_announces t (t.link k)
  have hin : ∀ c, ((s.link k).flags.has c = true ∨ (raised k c = true ∧ (s.link k).mask.has c = true)) ↔
      (t.link k).flags.has c = true := by
    intro c
    rw [hflags c]
    simp
  rw [pump_link]
  split
  · refine ⟨fun _ => htx, fun c => ⟨fun hc => Or.inl ((hin c).mp hc), fun hc => (hin c).mpr hc⟩⟩
  · refine ⟨fun hfree => ?_, fun c => ⟨fun hc => ?_, fun hc => (hin c).mpr ((key.2 c).2 hc)⟩⟩
    · rw [key.1 (by rw [htx]; exact hfree), htx]
    · rcases (key.2 c).1 ((hin c).mp hc) with hf | ⟨hfree, frame, hframe⟩
      · exact Or.inl hf
      · refine Or.inr ⟨by rw [← htx]; exact hfree, frame, ?_⟩
        rw [pump_link, if_neg (by assumption)]
        exact hframe

theorem raises_refl (s : State) : raises noClass s s := fun k => ⟨rfl, fun c => by simp [noClass]⟩

@[simp] theorem LinkIf.raised_core (x : LinkIf) (c : NoticeClass) : (x.raised c).core = x.core := by
  unfold LinkIf.raised
  split <;> rfl

@[simp] theorem LinkIf.raised_tx (x : LinkIf) (c : NoticeClass) : (x.raised c).tx = x.tx := by
  unfold LinkIf.raised
  split <;> rfl

@[simp] theorem LinkIf.raised_mask (x : LinkIf) (c : NoticeClass) : (x.raised c).mask = x.mask := by
  unfold LinkIf.raised
  split <;> rfl

theorem LinkIf.raised_has (x : LinkIf) (c d : NoticeClass) :
    (x.raised c).flags.has d = (x.flags.has d || (d == c && x.mask.has d)) := by
  unfold LinkIf.raised
  by_cases hdc : d = c
  · subst hdc
    split <;> simp_all [NoticeSet.has_put]
  · split <;> simp [NoticeSet.has_put, hdc]

@[simp] theorem raiseNotice_pending (c : NoticeClass) (s : State) : (raiseNotice c s).pending = s.pending := rfl
@[simp] theorem raiseNotice_frontEnd (c : NoticeClass) (s : State) : (raiseNotice c s).frontEnd = s.frontEnd := rfl
@[simp] theorem raiseNotice_lanes (c : NoticeClass) (s : State) : (raiseNotice c s).lanes = s.lanes := rfl
@[simp] theorem raiseNotice_stores (c : NoticeClass) (s : State) : (raiseNotice c s).stores = s.stores := rfl
@[simp] theorem raiseNotice_engine (c : NoticeClass) (s : State) : (raiseNotice c s).engine = s.engine := rfl
@[simp] theorem raiseNotice_arbiter (c : NoticeClass) (s : State) : (raiseNotice c s).arbiter = s.arbiter := rfl
@[simp] theorem raiseNotice_control (c : NoticeClass) (s : State) : (raiseNotice c s).control = s.control := rfl
@[simp] theorem raiseNotice_tuner (c : NoticeClass) (s : State) : (raiseNotice c s).tuner = s.tuner := rfl
@[simp] theorem raiseNotice_mixer (c : NoticeClass) (s : State) : (raiseNotice c s).mixer = s.mixer := rfl
@[simp] theorem raiseNotice_protection (c : NoticeClass) (s : State) : (raiseNotice c s).protection = s.protection := rfl
@[simp] theorem raiseNotice_capture (c : NoticeClass) (s : State) : (raiseNotice c s).capture = s.capture := rfl
@[simp] theorem raiseNotice_resetDue (c : NoticeClass) (s : State) : (raiseNotice c s).resetDue = s.resetDue := rfl

@[simp] theorem raiseNotice_link (c : NoticeClass) (s : State) (k : Link) :
    (raiseNotice c s).link k = (s.link k).raised c := by
  cases k <;> rfl

/-- Raising a class on every link raises that class and nothing else. -/
theorem raises_raiseNotice (c : NoticeClass) (s : State) : raises (oneClass c) s (raiseNotice c s) := by
  intro k
  refine ⟨by simp, fun d => ?_⟩
  rw [raiseNotice_link, LinkIf.raised_has, oneClass]

@[simp] theorem raiseLinkNotice_pending (l : Link) (s : State) : (raiseLinkNotice l s).pending = s.pending := rfl
@[simp] theorem raiseLinkNotice_frontEnd (l : Link) (s : State) : (raiseLinkNotice l s).frontEnd = s.frontEnd := rfl
@[simp] theorem raiseLinkNotice_lanes (l : Link) (s : State) : (raiseLinkNotice l s).lanes = s.lanes := rfl
@[simp] theorem raiseLinkNotice_stores (l : Link) (s : State) : (raiseLinkNotice l s).stores = s.stores := rfl
@[simp] theorem raiseLinkNotice_engine (l : Link) (s : State) : (raiseLinkNotice l s).engine = s.engine := rfl
@[simp] theorem raiseLinkNotice_arbiter (l : Link) (s : State) : (raiseLinkNotice l s).arbiter = s.arbiter := rfl
@[simp] theorem raiseLinkNotice_control (l : Link) (s : State) : (raiseLinkNotice l s).control = s.control := rfl
@[simp] theorem raiseLinkNotice_tuner (l : Link) (s : State) : (raiseLinkNotice l s).tuner = s.tuner := rfl
@[simp] theorem raiseLinkNotice_mixer (l : Link) (s : State) : (raiseLinkNotice l s).mixer = s.mixer := rfl
@[simp] theorem raiseLinkNotice_protection (l : Link) (s : State) : (raiseLinkNotice l s).protection = s.protection := rfl
@[simp] theorem raiseLinkNotice_capture (l : Link) (s : State) : (raiseLinkNotice l s).capture = s.capture := rfl
@[simp] theorem raiseLinkNotice_resetDue (l : Link) (s : State) : (raiseLinkNotice l s).resetDue = s.resetDue := rfl
@[simp] theorem writeFault_pending (r : FaultRec) (s : State) : (writeFault r s).pending = s.pending := by
  unfold writeFault; split <;> rfl
@[simp] theorem writeFault_frontEnd (r : FaultRec) (s : State) : (writeFault r s).frontEnd = s.frontEnd := by
  unfold writeFault; split <;> rfl
@[simp] theorem writeFault_lanes (r : FaultRec) (s : State) : (writeFault r s).lanes = s.lanes := by
  unfold writeFault; split <;> rfl
@[simp] theorem writeFault_stores (r : FaultRec) (s : State) : (writeFault r s).stores = s.stores := by
  unfold writeFault; split <;> rfl
@[simp] theorem writeFault_engine (r : FaultRec) (s : State) : (writeFault r s).engine = s.engine := by
  unfold writeFault; split <;> rfl
@[simp] theorem writeFault_arbiter (r : FaultRec) (s : State) : (writeFault r s).arbiter = s.arbiter := by
  unfold writeFault; split <;> rfl
@[simp] theorem writeFault_control (r : FaultRec) (s : State) : (writeFault r s).control = s.control := by
  unfold writeFault; split <;> rfl
@[simp] theorem writeFault_tuner (r : FaultRec) (s : State) : (writeFault r s).tuner = s.tuner := by
  unfold writeFault; split <;> rfl
@[simp] theorem writeFault_mixer (r : FaultRec) (s : State) : (writeFault r s).mixer = s.mixer := by
  unfold writeFault; split <;> rfl
@[simp] theorem writeFault_protection (r : FaultRec) (s : State) : (writeFault r s).protection = s.protection := by
  unfold writeFault; split <;> rfl
@[simp] theorem writeFault_resetDue (r : FaultRec) (s : State) : (writeFault r s).resetDue = s.resetDue := by
  unfold writeFault; split <;> rfl

/-- What the capture holds after a fault is written (R174). -/
theorem writeFault_capture (r : FaultRec) (s : State) :
    (writeFault r s).capture = if captureTakes s.capture r then some r else s.capture := by
  unfold writeFault; split <;> rfl

/-- A link after a fault is written: FAULT is raised when the capture takes it (R174). -/
theorem writeFault_link (r : FaultRec) (s : State) (k : Link) :
    (writeFault r s).link k = if captureTakes s.capture r then (s.link k).raised .fault else s.link k := by
  unfold writeFault
  split
  · rw [raiseNotice_link, State.link_withCapture]
  · rfl

@[simp] theorem writeFault_link_core (r : FaultRec) (s : State) (k : Link) :
    ((writeFault r s).link k).core = (s.link k).core := by
  rw [writeFault_link]
  split <;> simp

/-! ### Responses -/

@[simp] theorem reserveSlot_pending (l : Link) (s : State) : (reserveSlot l s).pending = s.pending := rfl
@[simp] theorem queueMessage_pending (l : Link) (m : Message) (s : State) : (queueMessage l m s).pending = s.pending := rfl
@[simp] theorem setReceiver_pending (l : Link) (r : Receiver) (s : State) : (setReceiver l r s).pending = s.pending := rfl
@[simp] theorem respond_pending (l : Link) (t : ReqType) (tag : Byte) (r : Result) (s : State) :
    (respond l t tag r s).pending = s.pending := rfl
@[simp] theorem reserveSlot_frontEnd (l : Link) (s : State) : (reserveSlot l s).frontEnd = s.frontEnd := rfl
@[simp] theorem queueMessage_frontEnd (l : Link) (m : Message) (s : State) : (queueMessage l m s).frontEnd = s.frontEnd := rfl
@[simp] theorem setReceiver_frontEnd (l : Link) (r : Receiver) (s : State) : (setReceiver l r s).frontEnd = s.frontEnd := rfl
@[simp] theorem respond_frontEnd (l : Link) (t : ReqType) (tag : Byte) (r : Result) (s : State) :
    (respond l t tag r s).frontEnd = s.frontEnd := rfl
@[simp] theorem reserveSlot_lanes (l : Link) (s : State) : (reserveSlot l s).lanes = s.lanes := rfl
@[simp] theorem queueMessage_lanes (l : Link) (m : Message) (s : State) : (queueMessage l m s).lanes = s.lanes := rfl
@[simp] theorem setReceiver_lanes (l : Link) (r : Receiver) (s : State) : (setReceiver l r s).lanes = s.lanes := rfl
@[simp] theorem respond_lanes (l : Link) (t : ReqType) (tag : Byte) (r : Result) (s : State) :
    (respond l t tag r s).lanes = s.lanes := rfl
@[simp] theorem reserveSlot_stores (l : Link) (s : State) : (reserveSlot l s).stores = s.stores := rfl
@[simp] theorem queueMessage_stores (l : Link) (m : Message) (s : State) : (queueMessage l m s).stores = s.stores := rfl
@[simp] theorem setReceiver_stores (l : Link) (r : Receiver) (s : State) : (setReceiver l r s).stores = s.stores := rfl
@[simp] theorem respond_stores (l : Link) (t : ReqType) (tag : Byte) (r : Result) (s : State) :
    (respond l t tag r s).stores = s.stores := rfl
@[simp] theorem reserveSlot_engine (l : Link) (s : State) : (reserveSlot l s).engine = s.engine := rfl
@[simp] theorem queueMessage_engine (l : Link) (m : Message) (s : State) : (queueMessage l m s).engine = s.engine := rfl
@[simp] theorem setReceiver_engine (l : Link) (r : Receiver) (s : State) : (setReceiver l r s).engine = s.engine := rfl
@[simp] theorem respond_engine (l : Link) (t : ReqType) (tag : Byte) (r : Result) (s : State) :
    (respond l t tag r s).engine = s.engine := rfl
@[simp] theorem reserveSlot_arbiter (l : Link) (s : State) : (reserveSlot l s).arbiter = s.arbiter := rfl
@[simp] theorem queueMessage_arbiter (l : Link) (m : Message) (s : State) : (queueMessage l m s).arbiter = s.arbiter := rfl
@[simp] theorem setReceiver_arbiter (l : Link) (r : Receiver) (s : State) : (setReceiver l r s).arbiter = s.arbiter := rfl
@[simp] theorem respond_arbiter (l : Link) (t : ReqType) (tag : Byte) (r : Result) (s : State) :
    (respond l t tag r s).arbiter = s.arbiter := rfl
@[simp] theorem reserveSlot_control (l : Link) (s : State) : (reserveSlot l s).control = s.control := rfl
@[simp] theorem queueMessage_control (l : Link) (m : Message) (s : State) : (queueMessage l m s).control = s.control := rfl
@[simp] theorem setReceiver_control (l : Link) (r : Receiver) (s : State) : (setReceiver l r s).control = s.control := rfl
@[simp] theorem respond_control (l : Link) (t : ReqType) (tag : Byte) (r : Result) (s : State) :
    (respond l t tag r s).control = s.control := rfl
@[simp] theorem reserveSlot_tuner (l : Link) (s : State) : (reserveSlot l s).tuner = s.tuner := rfl
@[simp] theorem queueMessage_tuner (l : Link) (m : Message) (s : State) : (queueMessage l m s).tuner = s.tuner := rfl
@[simp] theorem setReceiver_tuner (l : Link) (r : Receiver) (s : State) : (setReceiver l r s).tuner = s.tuner := rfl
@[simp] theorem respond_tuner (l : Link) (t : ReqType) (tag : Byte) (r : Result) (s : State) :
    (respond l t tag r s).tuner = s.tuner := rfl
@[simp] theorem reserveSlot_mixer (l : Link) (s : State) : (reserveSlot l s).mixer = s.mixer := rfl
@[simp] theorem queueMessage_mixer (l : Link) (m : Message) (s : State) : (queueMessage l m s).mixer = s.mixer := rfl
@[simp] theorem setReceiver_mixer (l : Link) (r : Receiver) (s : State) : (setReceiver l r s).mixer = s.mixer := rfl
@[simp] theorem respond_mixer (l : Link) (t : ReqType) (tag : Byte) (r : Result) (s : State) :
    (respond l t tag r s).mixer = s.mixer := rfl
@[simp] theorem reserveSlot_protection (l : Link) (s : State) : (reserveSlot l s).protection = s.protection := rfl
@[simp] theorem queueMessage_protection (l : Link) (m : Message) (s : State) : (queueMessage l m s).protection = s.protection := rfl
@[simp] theorem setReceiver_protection (l : Link) (r : Receiver) (s : State) : (setReceiver l r s).protection = s.protection := rfl
@[simp] theorem respond_protection (l : Link) (t : ReqType) (tag : Byte) (r : Result) (s : State) :
    (respond l t tag r s).protection = s.protection := rfl
@[simp] theorem reserveSlot_capture (l : Link) (s : State) : (reserveSlot l s).capture = s.capture := rfl
@[simp] theorem queueMessage_capture (l : Link) (m : Message) (s : State) : (queueMessage l m s).capture = s.capture := rfl
@[simp] theorem setReceiver_capture (l : Link) (r : Receiver) (s : State) : (setReceiver l r s).capture = s.capture := rfl
@[simp] theorem respond_capture (l : Link) (t : ReqType) (tag : Byte) (r : Result) (s : State) :
    (respond l t tag r s).capture = s.capture := rfl
@[simp] theorem reserveSlot_resetDue (l : Link) (s : State) : (reserveSlot l s).resetDue = s.resetDue := rfl
@[simp] theorem queueMessage_resetDue (l : Link) (m : Message) (s : State) : (queueMessage l m s).resetDue = s.resetDue := rfl
@[simp] theorem setReceiver_resetDue (l : Link) (r : Receiver) (s : State) : (setReceiver l r s).resetDue = s.resetDue := rfl
@[simp] theorem respond_resetDue (l : Link) (t : ReqType) (tag : Byte) (r : Result) (s : State) :
    (respond l t tag r s).resetDue = s.resetDue := rfl

/-- The state in which an accepted request is carried out: the receiver in HUNT, one more slot reserved. -/
def accepted (l : Link) (s : State) : State := reserveSlot l (setReceiver l .hunt s)

@[simp] theorem accepted_link (l : Link) (s : State) :
    (accepted l s).link l = { s.link l with rx := .hunt, gap := 0, reserved := (s.link l).reserved + 1 } := by
  simp [accepted, reserveSlot, setReceiver]

theorem accepted_link_other {l k : Link} (s : State) (h : k ≠ l) : (accepted l s).link k = s.link k := by
  simp [accepted, reserveSlot, setReceiver, State.link_setLink, h]

@[simp] theorem accepted_pending (l : Link) (s : State) : (accepted l s).pending = s.pending := rfl
@[simp] theorem accepted_frontEnd (l : Link) (s : State) : (accepted l s).frontEnd = s.frontEnd := rfl
@[simp] theorem accepted_lanes (l : Link) (s : State) : (accepted l s).lanes = s.lanes := rfl
@[simp] theorem accepted_stores (l : Link) (s : State) : (accepted l s).stores = s.stores := rfl
@[simp] theorem accepted_engine (l : Link) (s : State) : (accepted l s).engine = s.engine := rfl
@[simp] theorem accepted_arbiter (l : Link) (s : State) : (accepted l s).arbiter = s.arbiter := rfl
@[simp] theorem accepted_control (l : Link) (s : State) : (accepted l s).control = s.control := rfl
@[simp] theorem accepted_tuner (l : Link) (s : State) : (accepted l s).tuner = s.tuner := rfl
@[simp] theorem accepted_mixer (l : Link) (s : State) : (accepted l s).mixer = s.mixer := rfl
@[simp] theorem accepted_protection (l : Link) (s : State) : (accepted l s).protection = s.protection := rfl
@[simp] theorem accepted_capture (l : Link) (s : State) : (accepted l s).capture = s.capture := rfl
@[simp] theorem accepted_resetDue (l : Link) (s : State) : (accepted l s).resetDue = s.resetDue := rfl

/-- From the accepted state to t no link changes but in its transmitter and pending flags. -/
def coreKept (s t : State) : Prop := ∀ k : Link, (t.link k).core = (s.link k).core

/-- The one response of an accepted request: the links of the state after it. -/
theorem respondsWith_pump {l : Link} {m : Message} {s t : State} (h : coreKept (accepted l s) t) :
    respondsWith l m s (pump (queueMessage l m t)) := by
  constructor
  · have hl := h l
    simp only [accepted_link, LinkIf.core, LinkIf.mk.injEq] at hl
    obtain ⟨h1, h2, h3, h4, h5, h6, h7, h8, h9, h10, h11, h12, h13⟩ := hl
    rw [pump_link_core, queueMessage, State.link_setLink_self]
    simp only [LinkIf.core, LinkIf.mk.injEq]
    simp_all
  · intro k hk
    have hk' := h k
    rw [accepted_link_other s hk] at hk'
    rw [pump_link_core, queueMessage, State.link_setLink_other _ _ hk]
    exact hk'

/-- The announcements of an accepted request whose owner raises classes. -/
theorem announces_request {raised : Link → NoticeClass → Bool} {l : Link} {m : Message} {s t : State}
    (h : raises raised (accepted l s) t) : announces raised s (pump (queueMessage l m t)) := by
  apply announces_pump
  intro k
  obtain ⟨htx, hflags⟩ := h k
  by_cases hk : k = l
  · subst hk
    simp only [accepted_link] at htx hflags
    simpa [queueMessage] using ⟨htx, hflags⟩
  · rw [accepted_link_other s hk] at htx hflags
    simpa [queueMessage, State.link_setLink_other _ _ hk] using ⟨htx, hflags⟩

/-- A request of an allowed length, from a role permitted to make it, on a link that accepts it, is carried out. -/
theorem requestArrives_of_accepting {t : ReqType} {l : Link} {tag : Byte} {body : List Byte} {s : State}
    (h : accepting l s = true) (htag : tag ≠ 0) (hp : t.permitted l = true) (hl : t.lengthOk body.length = true)
    (h60 : body.length ≤ 60) : requestArrives t l tag body s = pump (carryOut t l tag body (accepted l s)) := by
  have hocc : ¬ Config.responseSlots ≤ ((setReceiver l .hunt s).link l).occupied := by
    simp only [accepting, Bool.and_eq_true, decide_eq_true_eq] at h
    have h2 := h.2
    simpa [setReceiver, LinkIf.occupied] using h2
  rw [requestArrives, frameArrives_of_listening (listening_of_accepting h)]
  have hb : ¬ Config.bodyMax < body.length := by simpa [Config.bodyMax] using h60
  simp only [acceptance, hb, htag, hocc, if_false, checkRequest, hp, hl, Bool.not_true, Bool.false_eq_true]
  rfl

/-- A query of at most three argument bytes, on a link that accepts it, is answered. -/
theorem queryArrives_of_accepting {it : Item} {l : Link} {tag part : Byte} {args : List Byte} {s : State}
    (h : accepting l s = true) (htag : tag ≠ 0) (ha : args.length ≤ 3) :
    queryArrives it l tag part args s =
      pump (queueMessage l ⟨ReqType.query.responseCode, tag,
        (queryItem l it part.toNat args (accepted l s)).1.code :: (queryItem l it part.toNat args (accepted l s)).2⟩
        (accepted l s)) := by
  have hocc : ¬ Config.responseSlots ≤ ((setReceiver l .hunt s).link l).occupied := by
    simp only [accepting, Bool.and_eq_true, decide_eq_true_eq] at h
    have h2 := h.2
    simpa [setReceiver, LinkIf.occupied] using h2
  rw [queryArrives, frameArrives_of_listening (listening_of_accepting h)]
  have hb : ¬ Config.bodyMax < (it.code :: part :: args).length := by
    simp only [Config.bodyMax, List.length_cons]; omega
  have ha' : ¬ 3 < args.length := by omega
  simp only [acceptance, hb, htag, hocc, ha', if_false]
  rfl

/-- A setting from the CREW link, where it is accepted, is taken by its owner. -/
theorem settingArrives_of_accepting {t : Setting} {tag : Byte} {value : BitVec 24} {s : State}
    (h : accepting .crew s = true) (htag : tag ≠ 0) :
    settingArrives t .crew tag value s =
      pump (respond .crew .setting tag (setting t value.toNat (accepted .crew s)).1
        (setting t value.toNat (accepted .crew s)).2) := by
  have hocc : ¬ Config.responseSlots ≤ ((setReceiver .crew .hunt s).link .crew).occupied := by
    simp only [accepting, Bool.and_eq_true, decide_eq_true_eq] at h
    have h2 := h.2
    simpa [setReceiver, LinkIf.occupied] using h2
  rw [settingArrives, frameArrives_of_listening (listening_of_accepting h)]
  have hb : ¬ Config.bodyMax < (t.code :: byte3 value.toNat).length := by simp [Config.bodyMax, byte3]
  have hp : ReqType.setting.permitted .crew = true := rfl
  simp only [acceptance, hb, htag, hocc, if_false, hp, Bool.not_true, Bool.false_eq_true]
  rfl

end Sys2Proof.Machine
end

