-- ==== Sys2Proof/Laws/Tables.lean ====
section
/-! SUPPORT. The addressed tables: a read after a write, and that every write keeps the canonical form. -/

namespace Sys2Proof.Machine

variable {α : Type} [DecidableEq α]

/-- A canonical table from lo on is canonical from any lower index on. -/
theorem tableWfFrom_mono {d : α} : ∀ {t : Table α} {lo lo' : Nat}, lo' ≤ lo → tableWfFrom d lo t = true →
    tableWfFrom d lo' t = true
  | [], _, _, _, _ => rfl
  | (k, v) :: rest, lo, lo', hle, h => by
    simp only [tableWfFrom, Bool.and_eq_true, decide_eq_true_eq] at h ⊢
    exact ⟨⟨by omega, h.1.2⟩, h.2⟩

/-- Below its first index a canonical table lists nothing. -/
theorem tableGet_of_lt {d : α} : ∀ {t : Table α} {lo i : Nat}, tableWfFrom d lo t = true → i < lo → tableGet d t i = d
  | [], _, _, _, _ => rfl
  | (k, v) :: rest, lo, i, h, hi => by
    simp only [tableWfFrom, Bool.and_eq_true, decide_eq_true_eq] at h
    rw [tableGet, if_pos (by omega)]

/-- A write keeps the canonical form from any index at most the one written on. -/
theorem tablePut_wfFrom {d : α} : ∀ {t : Table α} {lo i : Nat} (v : α), tableWfFrom d lo t = true → lo ≤ i →
    tableWfFrom d lo (tablePut d t i v) = true
  | [], lo, i, v, _, hi => by
    unfold tablePut
    split
    · rfl
    · simp [tableWfFrom, *]
  | (k, x) :: rest, lo, i, v, h, hi => by
    have h' := h
    simp only [tableWfFrom, Bool.and_eq_true, decide_eq_true_eq] at h'
    unfold tablePut
    split
    · split
      · exact h
      · rename_i hik hv
        simp only [tableWfFrom, Bool.and_eq_true, decide_eq_true_eq]
        exact ⟨⟨hi, hv⟩, ⟨by omega, h'.1.2⟩, h'.2⟩
    · split
      · rename_i hik
        split
        · exact tableWfFrom_mono (by omega) h'.2
        · rename_i hv
          simp only [tableWfFrom, Bool.and_eq_true, decide_eq_true_eq]
          exact ⟨⟨hi, hv⟩, hik ▸ h'.2⟩
      · simp only [tableWfFrom, Bool.and_eq_true, decide_eq_true_eq]
        exact ⟨h'.1, tablePut_wfFrom v h'.2 (by omega)⟩

/-- Every write keeps the canonical form. -/
theorem tablePut_wf {d : α} {t : Table α} (i : Nat) (v : α) (h : tableWf d t = true) : tableWf d (tablePut d t i v) = true :=
  tablePut_wfFrom v h (Nat.zero_le i)

/-- Writing a run of values keeps the canonical form. -/
theorem tablePutAll_wf {d : α} : ∀ (vs : List α) {t : Table α} (i : Nat), tableWf d t = true →
    tableWf d (tablePutAll d t i vs) = true
  | [], _, _, h => h
  | v :: vs, _, i, h => tablePutAll_wf vs (i + 1) (tablePut_wf i v h)

/-- The empty table is canonical. -/
theorem tableWf_nil {d : α} : tableWf d ([] : Table α) = true := rfl

/-- A read of the index written gives the value written. -/
theorem tableGet_put_self {d : α} : ∀ {t : Table α} {lo : Nat} (i : Nat) (v : α), tableWfFrom d lo t = true →
    tableGet d (tablePut d t i v) i = v
  | [], _, i, v, _ => by
    unfold tablePut
    split <;> simp_all [tableGet]
  | (k, x) :: rest, lo, i, v, h => by
    have h' := h
    simp only [tableWfFrom, Bool.and_eq_true, decide_eq_true_eq] at h'
    unfold tablePut
    split
    · split
      · rename_i hik hv
        rw [tableGet, if_pos hik, hv]
      · simp [tableGet]
    · split
      · rename_i hik
        split
        · rename_i hv
          rw [tableGet_of_lt h'.2 (by omega), hv]
        · simp [tableGet]
      · rename_i h1 h2
        rw [tableGet, if_neg h1, if_neg h2]
        exact tableGet_put_self i v h'.2

/-- A read of any other index gives what it gave before. -/
theorem tableGet_put_other {d : α} : ∀ {t : Table α} {lo : Nat} (i j : Nat) (v : α), tableWfFrom d lo t = true → j ≠ i →
    tableGet d (tablePut d t i v) j = tableGet d t j
  | [], _, i, j, v, _, hj => by
    unfold tablePut
    split
    · rfl
    · simp [tableGet, hj]
  | (k, x) :: rest, lo, i, j, v, h, hj => by
    have h' := h
    simp only [tableWfFrom, Bool.and_eq_true, decide_eq_true_eq] at h'
    unfold tablePut
    split
    · rename_i hik
      split
      · rfl
      · rw [tableGet]
        split
        · rw [tableGet, if_pos (by omega)]
        · rfl
    · rename_i h1
      split
      · rename_i h2
        split
        · rw [tableGet]
          split
          · exact tableGet_of_lt h'.2 (by omega)
          · rw [if_neg (by omega)]
        · rw [tableGet, tableGet]
          split
          · rw [if_pos (by omega)]
          · rw [if_neg (by omega), if_neg (by omega)]
      · rw [tableGet, tableGet]
        split
        · rfl
        · split
          · rfl
          · exact tableGet_put_other i j v h'.2 hj

omit [DecidableEq α] in
/-- What a canonical table reads as at one index is what is listed there, or the value of an unlisted index. -/
theorem tableGet_mem {d : α} : ∀ (t : Table α) (i : Nat), tableGet d t i = d ∨ (i, tableGet d t i) ∈ t
  | [], _ => Or.inl rfl
  | (k, v) :: rest, i => by
    rw [tableGet]
    split
    · exact Or.inl rfl
    · split
      · rename_i h
        exact Or.inr (by simp [h])
      · rcases tableGet_mem rest i with h | h
        · exact Or.inl h
        · exact Or.inr (List.mem_cons_of_mem _ h)

/-- Every entry of a table after a write is the one written or was there before. -/
theorem mem_tablePut {d : α} : ∀ {t : Table α} {i : Nat} {v : α} {e : Nat × α}, e ∈ tablePut d t i v → e = (i, v) ∨ e ∈ t
  | [], i, v, e, h => by
    unfold tablePut at h
    split at h
    · simp at h
    · exact Or.inl (by simpa using h)
  | (k, x) :: rest, i, v, e, h => by
    unfold tablePut at h
    split at h
    · split at h
      · exact Or.inr h
      · rcases List.mem_cons.mp h with h | h
        · exact Or.inl h
        · exact Or.inr h
    · split at h
      · split at h
        · exact Or.inr (List.mem_cons_of_mem _ h)
        · rcases List.mem_cons.mp h with h | h
          · exact Or.inl h
          · exact Or.inr (List.mem_cons_of_mem _ h)
      · rcases List.mem_cons.mp h with h | h
        · exact Or.inr (by simp [h])
        · rcases mem_tablePut h with h | h
          · exact Or.inl h
          · exact Or.inr (List.mem_cons_of_mem _ h)

end Sys2Proof.Machine
end

