-- ==== Sys2Proof/WellFormed.lean ====
section
/-! DEFINITION. Which commands can come about as their rows say: what a sound frame can carry. A command that is not well formed
still has its meaning (a body of the wrong length is refused, a tag of 0 is discarded). -/

namespace Sys2Proof

/-- The tag of a request is in 1..255 (R190, R194). -/
def tagLegal (tag : Byte) : Bool := tag != 0

/-- A frame carries a body of at most 60 bytes (R187). -/
def bodyLegal (body : List Byte) : Bool := decide (body.length ≤ Config.bodyMax)

/-- Whether a TYPE byte is one of the request types (R208). -/
def isRequestType (type : Byte) : Bool := (Machine.reqTypeOf type).isSome

/-- A command that can come about as its row says: a legal tag and body; for an unknown request a TYPE that is no request type
(R195); for a query at most three argument bytes (R208). -/
def Instr.wellFormed : Instr → Bool
  | .powerOn | .inputFrame _ _ | .ifeBlockBoundary | .laneBlockBoundary _ | .dcWindowEnd | .flagLatch _ _
  | .decimatedSample | .tunerStale | .fadeComplete | .dipOutEnd | .dipComplete | .tailTimerExpiry _
  | .tailFloorEnd _ | .cutEnd _ | .tenureExpiry | .safetyTimerExpiry | .gapTimeout _ | .breakEnd _ | .linkDrop _
  | .badFrame _ | .badCheck _ | .overrun _ | .messageSent _ | .softReset | .byteReceived _ _ | .breakBegins _
  | .controlMillisecond => true
  | .unknownRequest _ type tag body => tagLegal tag && bodyLegal body && !isRequestType type
  | .recall _ tag body | .recallIndex _ tag body | .windowSet _ tag body | .edit _ tag body | .store _ tag body
  | .curveBegin _ tag body | .curvePut _ tag body | .impulseBegin _ tag body | .impulsePut _ tag body
  | .presetBegin _ tag body | .presetPut _ tag body | .presetEnd _ tag body | .presetErase _ tag body
  | .mapSet _ tag body | .profilePut _ tag body | .instrumentSelect _ tag body | .pedal _ tag body
  | .tap _ tag body | .tempo _ tag body | .tunerEngage _ tag body | .tunerRelease _ tag body | .mute _ tag body
  | .ack _ tag body | .force _ tag body | .captureClear _ tag body | .subscribe _ tag body | .reset _ tag body =>
    tagLegal tag && bodyLegal body
  | .settingPresenceFloor _ tag _ | .settingTenure _ tag _ _ | .settingReferencePitch _ tag _
  | .settingHysteresis _ tag _ | .settingWIn _ tag _ | .settingWNear _ tag _ | .settingTunerMuteSet _ tag _
  | .settingSafetyTimer _ tag _ | .settingAttenuation _ tag _ | .settingOverThreshold _ tag _
  | .settingDcThreshold _ tag _ | .settingLossFloor _ tag _ | .settingTOver _ tag _ | .settingTDc _ tag _
  | .settingTLoss _ tag _ => tagLegal tag
  | .queryWorkingSceneGroup _ tag _ args | .queryLibraryGroup _ tag _ args | .queryStoreRecordState _ tag _ args
  | .queryMapEntry _ tag _ args | .queryProfile _ tag _ args | .queryActiveProfile _ tag _ args
  | .queryWindow _ tag _ args | .queryTempo _ tag _ args | .queryTuner _ tag _ args | .queryMute _ tag _ args
  | .queryProtectionFlags _ tag _ args | .queryCapture _ tag _ args | .queryLaneStates _ tag _ args
  | .querySetting _ tag _ args | .queryLink _ tag _ args => tagLegal tag && decide (args.length ≤ 3)

end Sys2Proof
end

