-- ==== Sys2Proof/Tests/Slice0.lean ====
section
/-! SUPPORT. The model's own tests: the checks of WellFormed, the worked cases of spec/, and for every obligation with
hypotheses a state and operands that meet them, one clause at a time. Expected values are the spec's own figures. -/

namespace Sys2Proof.Machine.Tests

open Sys2Proof Sys2Proof.Machine

set_option Elab.async false

/-! ### A small rig -/

/-- The state after a command. -/
def after (c : Instr) (s : State) : State :=
  match exec c s with
  | .next t => t
  | _ => s

/-- The straight line curve (R12). -/
def straight : WaveRec :=
  ⟨.ready, 0x1F, tablePutAll 0 [] 0 ((List.range 64).map (fun k => -8388608 + 262144 * (k : Int)) ++ [8388607])⟩

/-- A curve record being loaded, four of its five parts received. -/
def loading : WaveRec := ⟨.filling, 0x0F, []⟩

/-- The SINGLE preset at index 1 of the rig: clean, with the two assignments of the worked case of 5.2. -/
def single : Preset :=
  { kind := .single, label := List.replicate 12 32, fade := 32, tailHold := 2, levels := ⟨4096, 4096, 4096⟩
    expression := [⟨.exp1, .delayWet, .a, 0, 3000⟩, ⟨.exp1, .drivePre, .a, 768, 256⟩], tempo := some 12000
    chainA := { Chain.default with delay := ⟨.tempo, 24000, 4, 0, 4096, 0⟩ }, chainB := none }

/-- The DUAL preset at index 2 of the rig. -/
def double : Preset :=
  { single with kind := .dual, expression := [], tempo := none, chainA := .default, chainB := some .default }

/-- A SINGLE preset whose drive curve, curve 1, is not READY. -/
def unready : Preset := { single with chainA := { Chain.default with drive := ⟨256, 1, 4096⟩ } }

/-- The stores of the rig: curve 0 straight, curve 1 loading; impulse 0 loading with one part missing; presets 1 (SINGLE),
2 (DUAL), 3 (SINGLE, not READY), 4 (FILLING, DUAL), 5 (SINGLE); slots 0 to 3 of bank 0 name presets 1, 2, 3 and 9, and slot 0 of
bank 1 preset 5. -/
def stores : Stores :=
  { curves := [(0, straight), (1, loading)], impulses := [(0, ⟨.filling, 0x7FFF, []⟩)]
    presets := [(1, .valid single), (2, .valid double), (3, .valid unready), (4, .filling double), (5, .valid single)]
    bankMap := [(0, some 1), (1, some 2), (2, some 3), (3, some 9), (4, some 5)], profiles := [], active := 0 }

/-- The working scene of the rig: preset 1, clean, both pedals at 0. -/
def scene : Scene := ⟨single, 1, false, [0, 768]⟩

/-- A lane that carries the scene's chain A, unity weight, all ramps open. -/
def laneIn (st : LaneState) : Lane :=
  { Lane.initial with
    state := st, params := scene.params .a, weight := 32768, outRamp := 96, gateRamp := 64, gateState := .opened
    delayLength := 18000 }

/-- The part with preset 1 LIVE on lane A. -/
def rig : State :=
  { State.reset with
    stores := stores, lanes := ⟨laneIn .live, .initial⟩, engine := ⟨some scene, none, none⟩, capture := none }

/-- The rig without a scene, both lanes IDLE. -/
def silentRig : State := { rig with lanes := ⟨.initial, .initial⟩, engine := ⟨none, none, none⟩ }

/-- The rig playing the DUAL preset 2. -/
def dualRig : State :=
  { rig with
    lanes := ⟨{ laneIn .live with role := .dualA, params := ⟨.default, ⟨4096, 4096, 4096⟩⟩ },
      { laneIn .live with role := .dualB, params := ⟨.default, ⟨4096, 4096, 4096⟩⟩ }⟩
    engine := ⟨some ⟨double, 2, false, []⟩, none, none⟩ }

/-- A FADE to preset 5 in CROSS, at the end of its ramp: lane B INCOMING, lane A OUTGOING. -/
def record : Transition :=
  { origin := .player, index := 5, copied := single, kind := .fade, phase := .cross, fade := 32, j := 32, target := some .b
    tailHold := some 2, tailCut := false, editsDiscarded := false }

/-- The rig at the end of that FADE, the PLAYER's response owed. -/
def crossRig : State :=
  { rig with
    lanes := ⟨{ laneIn .outgoing with weight := 0 }, laneIn .incoming⟩
    engine := ⟨some { scene with source := 5 }, some record, none⟩
    arbiter := { rig.arbiter with grant := some ⟨.player, 7, false, true⟩ }
    links := { rig.links with player := { LinkIf.initial with reserved := 1 } } }

/-- Every law of Safety. -/
def lawful (s : State) : Bool :=
  tablesCanonical s && transmittersServed s && slotLaw s && weightLaw s && sceneLaw s && restLaw s && presetLaw s &&
    readyLaw s && rangeLaw s && derivedLaw s && muteLaw s

theorem test_rig_lawful : lawful rig = true ∧ lawful dualRig = true ∧ lawful crossRig = true ∧ lawful silentRig = true := by
  decide +kernel

theorem test_rig_accepts : ∀ l ∈ [Link.player, .crew, .showControl],
    accepting l rig = true ∧ accepting l dualRig = true ∧ accepting l silentRig = true ∧ accepting l State.reset = true := by
  decide +kernel

/-! ### WellFormed refuses what no sound frame carries -/

theorem test_wellFormed_request : (Instr.mute .player 1 [0]).wellFormed = true ∧ (Instr.mute .player 0 [0]).wellFormed = false ∧
    (Instr.edit .crew 1 (List.replicate 61 0)).wellFormed = false := by decide +kernel

theorem test_wellFormed_unknown : (Instr.unknownRequest .crew 0x13 1 []).wellFormed = true ∧
    (Instr.unknownRequest .crew 0x10 1 []).wellFormed = false ∧ (Instr.unknownRequest .crew 0x13 0 []).wellFormed = false ∧
    (Instr.unknownRequest .crew 0x13 1 (List.replicate 61 0)).wellFormed = false := by decide +kernel

theorem test_wellFormed_setting : (Instr.settingWIn .crew 1 5).wellFormed = true ∧
    (Instr.settingWIn .crew 0 5).wellFormed = false := by decide +kernel

theorem test_wellFormed_query : (Instr.queryTempo .crew 1 0 []).wellFormed = true ∧
    (Instr.queryTempo .crew 0 0 []).wellFormed = false ∧ (Instr.queryTempo .crew 1 0 [1, 2, 3, 4]).wellFormed = false := by
  decide +kernel

/-! ### Worked cases of spec/ -/

/-- Chapter 1, one frame of the drive stage. -/
theorem test_drive_stage :
    let st : Stores := { stores with curves := [(2, ⟨.ready, 0x1F, [(42, 4000000), (43, 4200000)]⟩),
                                                (3, ⟨.ready, 0x1F, [(42, 4200000), (43, 4000000)]⟩)] }
    shape st ⟨512, 2, 2048⟩ 1350000 = 2029969 ∧ shape st ⟨512, 3, 4096⟩ 1350000 = 4140063 := by decide +kernel

/-- Chapter 1, one tone section: a step of 1,000,000 over three frames. -/
theorem test_tone_section :
    let c : Coefs := ⟨1048576, 2097152, 1048576, -2097152, 524288⟩
    let f1 := biquad c .zero 1000000
    let f2 := biquad c f1.2 1000000
    let f3 := biquad c f2.2 1000000
    f1.1 = 250000 ∧ f2.1 = 875000 ∧ f3.1 = 1406250 ∧ (biquad c .zero 3).1 = 1 ∧ (biquad c .zero (-2)).1 = 0 ∧
      (biquad c .zero (-3)).1 = -1 := by decide +kernel

/-- Chapter 1, spillover: the entry written, the FOH and the AMP contribution of a TAILING lane at weight 0 that reads 600,000. -/
theorem test_spillover :
    let l := { laneIn .tailing with
      params := { (laneIn .live).params with
        chain := { Chain.default with delay := ⟨.fixed, 48, 0, 2048, 4096, 2048⟩ } }
      weight := 0, delayLength := 48, fill := 60, writePos := 60, delayHalf := [(12, 600000)], tailTimer := 96 }
    let r := l.frame stores false 0
    tableGet 0 r.1.delayHalf 60 = 300000 ∧ r.2 = ⟨300000, 300000, 0⟩ ∧ r.1.tailTimer = 95 := by decide +kernel

/-- 5.2, smoothing and a falling assignment: the first PEDAL of 800 and the last of 1,500. -/
theorem test_pedal_sweep :
    let t := after (.pedal .player 1 [0, 3, 32]) rig
    let u := after (.pedal .player 1 [0, 5, 220]) { rig with control := { rig.control with exp1 := ⟨800, 800, 800, 800⟩ } }
    t.lanes.a.pendingSet.wet = some 586 ∧ t.lanes.a.pendingSet.drivePre = some 668 ∧
      u.lanes.a.pendingSet.wet = some 2507 ∧ u.lanes.a.pendingSet.drivePre = some 341 ∧
      u.links.player.queue = [⟨0xC0, 1, [1]⟩] := by decide +kernel

/-- 5.3, a tapped tempo: the tap at 48,480 after one at 24,000. -/
theorem test_tap :
    let s := { rig with
      frontEnd := { rig.frontEnd with frameCount := 48480 }
      control := { rig.control with prevTap := some 24000, intervals := [24000] } }
    let t := after (.tap .player 1 []) s
    t.control.period = 24240 ∧ t.control.intervals = [24000, 24480] ∧ tempoQuotient t.control.period = 11881 := by
  decide +kernel

/-- 5.3, a fifth interval drops the oldest; a pause of 179,500 frames restarts the sequence and keeps the period. -/
theorem test_tap_full_and_restart :
    let at' := fun (now prev : BitVec 32) => { rig with
      frontEnd := { rig.frontEnd with frameCount := now }
      control := { rig.control with period := 24125, prevTap := some prev, intervals := [24000, 24480, 23520, 24500] } }
    (after (.tap .player 1 []) (at' 120500 96500)).control.intervals = [24480, 23520, 24500, 24000] ∧
      (after (.tap .player 1 []) (at' 120500 96500)).control.period = 24125 ∧
      (after (.tap .player 1 []) (at' 300000 120500)).control.intervals = [] ∧
      (after (.tap .player 1 []) (at' 300000 120500)).control.period = 24125 := by decide +kernel

/-- 5.4, show tempo: b = 12,800 gives 22,500 and D = 16,875; b = 1,000 is clamped to 2,000, 144,000 and D = 96,000, clamped. -/
theorem test_show_tempo :
    let t := after (.tempo .showControl 1 [0x32, 0x00, 0]) rig
    let u := after (.tempo .showControl 1 [0x03, 0xE8, 1]) rig
    t.control.period = 22500 ∧ t.lanes.a.pendingSet.length = some (16875, false) ∧ u.control.period = 144000 ∧
      u.lanes.a.pendingSet.length = some (96000, true) ∧ u.control.locked = true ∧
      u.links.showControl.queue = [⟨0xC2, 1, [1]⟩] := by decide +kernel

/-- 6.3, one crossing time. -/
theorem test_crossing_time : crossingTime 10 83886 50000 250000 = 2347 ∧ crossingTime 83 83886 (-10000) 170000 = 21125 := by
  decide +kernel

/-- 6.4 and 6.5, readings from S: STRING, the low E string flat by 103 tenths; FREE, an octave below it, flat by one. -/
theorem test_readings :
    let t := { Tuner.initial with mode := .string }
    let r := readingOf t Profile.standard.notes 150000
    let q := readingOf Tuner.initial Profile.standard.notes 298240
    r = ⟨.string, 8192, 40, some 1, -103, .flat⟩ ∧ q = ⟨.free, 4120, 28, none, -1, .inTune⟩ := by decide +kernel

/-- 6.4, the group of the worked case: the eighth period completes it with S = 150,000; a late period breaks it. -/
theorem test_period_group :
    addPeriod [18800, 18790, 18760, 18740, 18740, 18730, 18720] 18720 = ([], some 150000) ∧
      addPeriod [18778, 18750] 22000 = ([], none) := by decide +kernel

/-- 7.2, one frame of a DUAL scene: the bus sums and the finished MON sample at ramp 47 and at ramp 0. -/
theorem test_dual_mix :
    let a : Contribution := ⟨2000000, 1500001, -3000001⟩
    let b : Contribution := ⟨-1000000, 2500000, 1000000⟩
    let sum := busSum ⟨.dualA, .dualB⟩ ⟨a, b⟩
    let m := { Mixer.initial with monRamp := 47 }
    sum .fohL = 2000000 ∧ sum .fohR = -1000000 ∧ sum .mon = 2000000 ∧ sum .amp = -1000001 ∧
      m.finished .mon 2000000 = 1235535 ∧ ({ m with monRamp := 0 }).finished .mon 2000000 = 502380 := by decide +kernel

/-- 8.2, a DC window: the mean 175,000 reaches the default threshold. -/
theorem test_dc_window :
    let s := { State.reset with protection := { Protection.initial with phase := 4096, sum := ⟨0, 0, 0, 716800000⟩ } }
    let t := after .dcWindowEnd s
    t.protection.mean.amp = 175000 ∧ (t.protection.pair .amp .dc).cond = true ∧ (t.protection.pair .amp .dc).count = 1 ∧
      t.protection.phase = 0 := by decide +kernel

/-- 8.4, the envelope of 8,000,000 one frame later. -/
theorem test_envelope_release : peakEnvelope 10 8000000 7937500 = 7992188 ∧ peakEnvelope 10 0 0 = 0 := by decide +kernel

/-- 10.2, the RECALL frame. -/
theorem test_recall_frame : frameBytes ⟨0x10, 42, [2, 1, 0]⟩ = [0xE7, 5, 0x10, 42, 2, 1, 0, 0xBE] := by decide +kernel

/-- A clean rig passes a sample to every output slot. -/
theorem test_clean_rig :
    let s := { rig with lanes := ⟨{ laneIn .live with params := ⟨.default, ⟨4096, 4096, 4096⟩⟩ }, .initial⟩ }
    (after (.inputFrame 0x12345600 0) s).mixer.output = ⟨0x12345600, 0x12345600, 0x12345600, 0x12345600⟩ := by decide +kernel

/-- A recall of a SINGLE preset from the rig begins a FADE into lane B; from the DUAL rig a DIP. -/
theorem test_recall_begins :
    ((after (.recall .player 9 [1, 0, 0]) rig).engine.transition.map (fun t => (t.kind, t.phase, t.target))) =
        some (.fade, .cross, some .b) ∧
      ((after (.recall .player 9 [0, 0, 0]) dualRig).engine.transition.map (fun t => (t.kind, t.phase, t.target))) =
        some (.dip, .dipOut, none) := by decide +kernel

/-- 8.1, a frame that latches the OVER flags of all four buses, handled whole: no GUARD starts before the last latch, and the one
that then starts shows all four. -/
theorem test_latches_of_one_frame :
    let ready : PerClass Pair := ⟨⟨true, 47, false, false⟩, .initial, .initial⟩
    let s := { rig with
      protection := { rig.protection with overThreshold := 0, timers := ⟨1, 1000, 2000⟩, pairs := ⟨ready, ready, ready, ready⟩ }
      links := { rig.links with crew := { LinkIf.initial with mask := { NoticeSet.none with guard := true } } } }
    let latch := fun (b : Bus) (s : State) => after (.flagLatch b .overLevel) s
    let three := latch .mon (latch .fohR (latch .fohL (after (.inputFrame 0 0) s)))
    (three.link .crew).tx = .free ∧ (three.link .crew).flags.guard = true ∧
      ((latch .amp three).link .crew).tx = .notice .guard (frameBytes ⟨0xF0, 0, [0x0F, 0, 0]⟩) := by decide +kernel

/-- 10.5, a class raised together with a drop of its link: taken first, its flag is cleared and no notice comes; taken second, it
is sent. -/
theorem test_raised_with_a_drop :
    let s := { crossRig with
      arbiter := rig.arbiter
      links := { rig.links with player := { LinkIf.initial with
        mask := { NoticeSet.none with scene := true }, lineLow := true, breakCount := 10 } } }
    let raised := after .fadeComplete s
    let first := after (.linkDrop .player) raised
    let second := after .fadeComplete (after (.linkDrop .player) s)
    (due (.linkDrop .player) s = true ∧ (raised.link .player).flags.scene = true ∧ (raised.link .player).tx = .free ∧
      (first.link .player).flags = .none ∧ (first.link .player).tx = .free) ∧ startedNotice .player .scene s second :=
  ⟨by decide +kernel, rfl, _, rfl⟩

/-- The same with a MUTE from the CREW link: the drop that it comes together with follows it; named first, it goes before it. -/
theorem test_row_with_a_drop :
    let s := rig.setLink .player { LinkIf.initial with
      mask := { NoticeSet.none with mute := true }, lineLow := true, breakCount := 10 }
    let row := after (.mute .crew 1 [7]) s
    let named := after (.mute .crew 1 [7]) (after (.linkDrop .player) s)
    ((row.link .player).tx = .free ∧ (row.link .player).flags = .none ∧ (row.link .player).breakJudged = true ∧
      row.mixer.mask = ⟨true, true, true⟩) ∧ startedNotice .player .mute s named :=
  ⟨by decide +kernel, rfl, _, rfl⟩

/-- The same with FADE_COMPLETE: the frame that ends the ramp leaves it and the drop due side by side. -/
theorem test_event_with_a_drop :
    let s := { crossRig with
      engine := { crossRig.engine with transition := some { record with j := 31 } }
      arbiter := rig.arbiter
      links := { rig.links with player := { LinkIf.initial with
        mask := { NoticeSet.none with scene := true }, lineLow := true, breakCount := 10 } } }
    let frame := after (.inputFrame 0 0) s
    let last := after (.linkDrop .player) (after .fadeComplete frame)
    due .fadeComplete frame = true ∧ due (.linkDrop .player) frame = true ∧ last.engine.transition = none ∧
      (last.link .player).tx = .free ∧ (last.link .player).flags = .none := by decide +kernel

/-! ### Witnesses: for every obligation with hypotheses, states and operands that meet them, clause by clause

Where a hypothesis says that a link accepts, `test_rig_accepts` above is the witness for the rigs; a hypothesis on a tag is
met by tag 1. -/

/-- The rig in CROSS at ramp position 10 of 32. -/
def fading : State :=
  { crossRig with
    lanes := ⟨{ laneIn .outgoing with weight := 22528 }, { laneIn .incoming with weight := 10240 }⟩
    engine := ⟨crossRig.engine.scene, some { record with j := 10 }, none⟩ }

/-- The same moment of a DIP to the SINGLE preset 5: lane A INCOMING, lane B IDLE. -/
def dipping : State :=
  { crossRig with
    lanes := ⟨{ laneIn .incoming with weight := 10240 }, .initial⟩
    engine := ⟨crossRig.engine.scene, some { record with kind := .dip, phase := .dipIn, target := none, j := 10 }, none⟩ }

/-- The rig with lane B in a state of its own. -/
def withB (b : Lane) : State := { rig with lanes := ⟨laneIn .live, b⟩ }

/-- The rig with the tenure of a link. -/
def tenured (o : Link) (n : Nat) (slots : PerLink (Option Waiting)) : State :=
  { rig with arbiter := { rig.arbiter with tenure := some ⟨o, n⟩, slots := slots } }

/-- The rig with one link's interface changed. -/
def linked (l : Link) (f : LinkIf → LinkIf) : State := rig.setLink l (f (rig.link l))

theorem test_witness_lawful_states :
    lawful fading = true ∧ lawful dipping = true ∧ quiet fading = true ∧ quiet dipping = true ∧ quiet crossRig = false ∧
      accepting .crew fading = true ∧ accepting .player fading = true := by decide +kernel

theorem test_witness_StepRunsFrontCommand :
    (rig.withPending [.powerOn, .controlMillisecond]).pending = [.powerOn, .controlMillisecond] ∧ rig.pending = [] ∧
      quiet rig = true := by decide +kernel

theorem test_witness_EveryCommandAnswers : due .softReset rig = false ∧ due (.cutEnd .a) rig = false := by decide +kernel

/-- The hypotheses of the five statements about laws that every step keeps. -/
theorem test_witness_StepKeeps : ∀ s ∈ [rig, silentRig, dualRig, crossRig, fading, dipping],
    lawful (s.withPending [.controlMillisecond]) = true ∧
      (match step (s.withPending [.controlMillisecond]) with
        | .next t => lawful t
        | _ => false) = true := by decide +kernel

/-- The byte that completes a CAPTURE_CLEAR, a soft reset that is due, and a drop of the closing CREW link among them. -/
theorem test_witness_MajorRecordIsLocked :
    let byte := State.reset.setLink .crew { LinkIf.initial with rx := .check 2 [0x55, 9] }
    let bye := State.reset.setLink .crew { LinkIf.initial with closing := true, lineLow := true, breakCount := 10 }
    let reset := some (FaultRec.mk .softReset (some .crew) none none)
    rig.capture = none ∧ captureLocked State.reset = true ∧ captureLocked rig = false ∧
      (after (.captureClear .crew 1 []) State.reset).capture = none ∧
      (after (.captureClear .player 1 []) State.reset).capture = some ⟨.powerOn, none, none, none⟩ ∧
      (after (.byteReceived .crew 0xA0) byte).capture = none ∧ (after .controlMillisecond bye).capture = reset ∧
      (after .controlMillisecond { State.reset with resetDue := true }).capture = reset := by decide +kernel

theorem test_witness_RhsRoundsHalfUp :
    (2 ^ 1 * 3 ≤ (5 : Int) + 2 ^ 0 ∧ (5 : Int) + 2 ^ 0 < 2 ^ 1 * (3 + 1)) ∧
      (2 ^ 1 * (-9000000) ≤ (-18000000 : Int) + 2 ^ 0 ∧ (-18000000 : Int) + 2 ^ 0 < 2 ^ 1 * (-9000000 + 1)) ∧
      (2 ^ 1 * 9000000 ≤ (18000000 : Int) + 2 ^ 0 ∧ (18000000 : Int) + 2 ^ 0 < 2 ^ 1 * (9000000 + 1)) := by decide +kernel

theorem test_witness_PeakEnvelope :
    5 ≤ (-5 : Int).natAbs ∧ (4 : Int).natAbs < 5 ∧ 8388608 ≤ (-8388608 : Int).natAbs := by decide +kernel

theorem test_witness_CurveLookup :
    (-8388608 : Int) + 8388608 = 262144 * 0 + 0 ∧ (8388607 : Int) + 8388608 = 262144 * 63 + 262143 := by decide +kernel

/-- Both ends of the delay length. -/
theorem test_witness_DelayReadsBack :
    let l := { Lane.initial with params := (laneIn .live).params }
    tableWf 0 l.delayHalf = true ∧ l.writePos = 0 ∧ l.fill = 0 ∧ l.params.chain.delay.mode ≠ .off ∧
      48 ≤ ({ l with delayLength := 48 }).delayLength ∧ ({ l with delayLength := 96000 }).delayLength ≤ 96000 := by
  decide +kernel

theorem test_witness_LaneComputesItsChain : ∀ st ∈ [LaneState.incoming, .live, .outgoing, .tailing, .cutting],
    (laneIn st).state ≠ .idle ∧ (laneIn st).boundaryFalls = false ∧ (laneIn st).gateRamp ≤ 64 ∧ (laneIn st).fill ≤ 96000 := by
  decide +kernel

/-- An input frame in which nothing is due: with the front end before a boundary, with the tuner engaged. -/
theorem test_witness_InputFrameFrontEnd :
    quiet rig = true ∧ quiet { rig with frontEnd := { rig.frontEnd with phase := 15, pendingTrim := some 4000 } } = true ∧
      quiet { rig with tuner := { rig.tuner with state := .listening, count := 7 } } = true := by decide +kernel

theorem test_witness_InputFrameMovesLanes :
    quiet rig = true ∧ rig.lanes.b.state = .idle ∧ rig.lanes.a.state = .live ∧ rig.engine.transition = none ∧
      quiet fading = true ∧ fading.engine.transition = some { record with j := 10 } ∧ fading.lanes.a.state = .outgoing ∧
      fading.lanes.b.state = .incoming := by decide +kernel

theorem test_witness_InputFrameMixes : quiet dualRig = true ∧ rangeLaw dualRig = true := by decide +kernel

/-- Phases 0 and 4,095; a timer of 0 and one above 0. -/
theorem test_witness_InputFrameProtects :
    let s := { rig with protection := { rig.protection with phase := 4095, timers := ⟨0, 4000, 1⟩ } }
    quiet rig = true ∧ rig.protection.phase = 0 ∧ quiet s = true ∧ s.protection.phase = 4095 ∧
      s.protection.timers.get .overLevel = 0 ∧ 0 < s.protection.timers.get .dc ∧
      (after (.inputFrame 0 0) s).protection.phase = 4096 := by decide +kernel

theorem test_witness_CleanRigPassesTheSample :
    let s := { rig with lanes := ⟨{ laneIn .live with params := ⟨.default, ⟨4096, 4096, 4096⟩⟩ }, .initial⟩ }
    quiet s = true ∧ s.frontEnd.trim = 4096 ∧ s.frontEnd.boundaryFalls = false ∧ s.lanes.a.state = .live ∧
      s.lanes.a.role = .single ∧ s.lanes.a.boundaryFalls = false ∧ s.lanes.b.state = .idle ∧
      s.lanes.a.params = ⟨Chain.default, ⟨4096, 4096, 4096⟩⟩ ∧ s.lanes.a.weight = 32768 ∧ s.lanes.a.outRamp = 96 ∧
      (∀ k : Fin 64, tableGet 0 (s.stores.curve 0).values k.val = -8388608 + 262144 * (k.val : Int)) ∧
      tableGet 0 (s.stores.curve 0).values 64 = 8388607 ∧ s.engine.transition = none ∧ s.mixer.ramps = ⟨96, 96, 96, 96⟩ ∧
      s.mixer.monRamp = 96 ∧ s.mixer.mask = .none ∧ s.mixer.tunerMute = false ∧ s.mixer.monRequest = false ∧
      s.mixer.attenuation ≤ 32768 ∧ (0x7E000000 : Slot).toInt / 256 ≤ 8257536 := by decide +kernel

theorem test_witness_BlockBoundaryRows :
    let s := { rig with frontEnd := { rig.frontEnd with phase := 15 } }
    let u := { rig with lanes := ⟨{ laneIn .live with phase := 15 }, .initial⟩ }
    quiet s = true ∧ s.frontEnd.phase = 15 ∧ s.frontEnd.boundaryTaken = false ∧ transmittersServed s = true ∧
      quiet u = true ∧ u.lanes.a.state ≠ .idle ∧ u.lanes.a.phase = 15 ∧ u.lanes.a.boundaryTaken = false ∧
      transmittersServed u = true := by decide +kernel

/-- In range and in use, in range and free, out of range: index 0, 7 and 8 of the curves, 0, 15 and 16 of the impulses. -/
theorem test_witness_BeginOpensRecord :
    let s := { dualRig with lanes := { dualRig.lanes with
      b := { dualRig.lanes.b with pendingSet := { PendingSet.empty with cab := some (some 0) } } } }
    tablesCanonical rig = true ∧ curveInUse rig 0 = true ∧ curveInUse rig 7 = false ∧ accepting .crew s = true ∧
      tablesCanonical s = true ∧ impulseInUse s 0 = true ∧ impulseInUse s 15 = false := by decide +kernel

/-- In use, not FILLING, FILLING with and without the last part to come. -/
theorem test_witness_PutWritesPart :
    let live := { laneIn .live with pendingSet := { PendingSet.empty with cab := some (some 0) } }
    let used := { rig with lanes := ⟨live, .initial⟩ }
    tablesCanonical rig = true ∧ curveInUse rig 0 = true ∧ curveInUse rig 7 = false ∧
      (rig.stores.curve 7).state ≠ .filling ∧ curveInUse rig 1 = false ∧ (rig.stores.curve 1).state = .filling ∧
      (after (.curvePut .crew 1 (1 :: 4 :: List.replicate 39 0)) rig).stores.curve 1 = ⟨.ready, 0x1F, []⟩ ∧
      ((after (.curvePut .crew 1 (1 :: 0 :: List.replicate 39 0)) rig).stores.curve 1).state = .filling ∧
      accepting .crew used = true ∧ tablesCanonical used = true ∧ impulseInUse used 0 = true ∧ impulseInUse rig 0 = false ∧
      (rig.stores.impulse 0).state = .filling ∧ (rig.stores.impulse 15).state ≠ .filling ∧
      ((after (.impulsePut .crew 1 (0 :: 15 :: List.replicate 48 0)) rig).stores.impulse 0).state = .ready := by decide +kernel

theorem test_witness_PresetRecordsOpenCloseErase :
    accepting .crew rig = true ∧ tablesCanonical rig = true ∧ rig.stores.preset 4 = .filling double ∧
      rig.stores.preset 127 = .empty := by decide +kernel

/-- A group that fits with and without a clamp, and each way not to fit. -/
theorem test_witness_PresetPutWritesGroup :
    tablesCanonical rig = true ∧ rig.stores.preset 4 = .filling double ∧ groupOf 12 [16, 0] = some (.lane 4096, false) ∧
      groupOf 3 [1, 0, 0] = some (.tempo (some 2000), true) ∧ groupOf 12 [16] = none ∧
      groupOf 0 (List.replicate 12 32 ++ [0, 0, 32, 0, 0]) = some (.header (List.replicate 12 32) .single 32 0, false) := by
  decide +kernel

/-- The number of content bytes and the assignment lists of `GroupContents` are met. -/
theorem test_witness_GroupContents :
    12 < 13 ∧ ([] : List Byte).length ≠ ([17, 6, 0, 3, 7, 5, 15, 15, 15, 5, 1, 11, 2] : List Nat).getD 1 0 ∧
      (List.replicate 12 (32 : Byte)).length = 12 ∧ ([[0, 6, 0, 15, 51, 0, 0]] : List (List Byte)).length = (1 : Byte).toNat ∧
      groupOf 2 [1, 0, 6, 0, 15, 52, 0, 0] = some (.expression [⟨.exp1, .delayFeedback, .a, 3891, 0⟩], true) ∧
      groupOf 2 [2, 0, 6, 0, 0, 0, 0, 0, 0, 6, 2, 0, 0, 0, 0] = none := by decide +kernel

theorem test_witness_GroupBytesReadBack :
    single.legal = true ∧ double.legal = true ∧ unready.legal = true ∧ double.kind = .dual ∧
      groupOf 2 (single.groupBytes 2 .a) = some (.expression single.expression, false) := by decide +kernel

/-- An idle tuner and an engaged one; the active profile and another. -/
theorem test_witness_MapAndProfileRequests :
    let s := { rig with tuner := { rig.tuner with state := .listening } }
    tablesCanonical rig = true ∧ rig.tuner.state = .off ∧ accepting .crew s = true ∧ tablesCanonical s = true ∧
      s.tuner.state ≠ .off ∧ rig.stores.active = 0 ∧ (rig.stores.profile 0).trim = 4096 := by decide +kernel

/-- Every way an EDIT ends: bad content, no scene, no fit, not READY, carried out; EXPRESSION among the refusals. -/
theorem test_witness_EditChangesScene :
    groupOf 12 [16] = none ∧ groupOf 12 [16, 0] = some (.lane 4096, false) ∧ silentRig.engine.scene = none ∧
      rig.engine.scene = some scene ∧ groupFits scene.preset.kind 12 .b (.lane 4096) = false ∧
      groupFits scene.preset.kind 12 .a (.lane 4096) = true ∧
      groupOf 5 [1, 0, 1, 16, 0] = some (.drive ⟨256, 1, 4096⟩, false) ∧ rig.stores.groupReady (.drive ⟨256, 1, 4096⟩) = false ∧
      rig.stores.groupReady (.lane 4096) = true ∧ accepting .showControl rig = true ∧ groupOf 2 [5] = none ∧
      groupOf 2 [1, 1, 9, 2, 0, 5, 0, 0] = some (.expression [⟨.exp2, .ampLevel, .both, 5, 0⟩], false) ∧
      groupFits scene.preset.kind 2 .a (.expression [⟨.exp2, .ampLevel, .both, 5, 0⟩]) = false ∧
      (after (.edit .crew 1 [12, 0, 16, 0]) rig).lanes.a.pendingSet.level = some 4096 ∧
      (after (.edit .crew 1 [5, 0, 16, 0, 0, 8, 0]) rig).lanes.a.pendingSet.drivePre = none ∧
      (after (.edit .crew 1 [5, 0, 16, 0, 0, 8, 0]) rig).lanes.a.pendingSet.drivePost = some 2048 := by decide +kernel

theorem test_witness_EditExpression :
    groupOf 2 [1, 1, 9, 0, 0, 5, 0, 0] = some (.expression [⟨.exp2, .ampLevel, .a, 5, 0⟩], false) ∧
      rig.engine.scene = some scene ∧ scene.preset.kind = .single ∧
      (after (.edit .crew 1 [2, 0, 1, 1, 9, 0, 0, 5, 0, 0]) rig).lanes.a.pendingSet =
        { PendingSet.empty with amp := some 5, wet := some 0, drivePre := some 256 } := by decide +kernel

theorem test_witness_StoreWritesScene :
    tablesCanonical rig = true ∧ rig.engine.scene = some scene ∧ tablesCanonical silentRig = true ∧
      silentRig.engine.scene = none := by decide +kernel

/-- The window of the PLAYER, an empty slot, a slot that names no preset, an empty record. -/
theorem test_witness_RecallRefusedOnArrival :
    (rig.arbiter.windows.get .player).base = 0 ∧ 1 < (rig.arbiter.windows.get .player).size ∧
      (rig.arbiter.windows.get .player).size < 256 ∧ rig.stores.mapEntry 1 3 = none ∧ rig.stores.mapEntry 0 3 = some 9 ∧
      rig.stores.preset 9 = .empty ∧ rig.stores.preset 127 = .empty := by decide +kernel

/-- With a transition in flight; barred by a tenure of a higher rank; with and without a recall in the slot. -/
theorem test_witness_RecallWaits :
    let s := tenured .player 8 ⟨none, some ⟨5, none, 3⟩, none⟩
    let u : State := s.setLink .crew { s.link .crew with reserved := 1 }
    accepting .player fading = true ∧ restLaw fading = true ∧ fading.engine.transition.isSome = true ∧
      fading.arbiter.slots.get .player = none ∧ fading.stores.preset 1 = .valid single ∧
      accepting .crew u = true ∧ restLaw u = true ∧
      u.arbiter.barred .crew = true ∧ u.arbiter.slots.get .crew = some ⟨5, none, 3⟩ := by decide +kernel

theorem test_witness_recallOf :
    recallOf .player 1 5 false (.recall .player 1 [1, 0, 0]) rig ∧ recallOf .crew 1 5 true (.recallIndex .crew 1 [5]) rig ∧
      recallOf .player 1 1 false (.recall .player 1 [0, 0, 1]) fading :=
  ⟨.inl ⟨rfl, 1, 0, 0, rfl, by decide +kernel⟩,
    .inr ⟨rfl, rfl, 5, by decide +kernel⟩,
    .inl ⟨rfl, 0, 0, 1, rfl, by decide +kernel⟩⟩

/-- LOAD_FAIL: preset 3 names curve 1, which is not READY. SAME: preset 1 is the scene's source and the scene is clean. -/
theorem test_witness_GrantEndsAtOnce :
    recallOf .player 1 3 false (.recall .player 1 [0, 2, 0]) rig ∧ recallOf .crew 1 1 true (.recallIndex .crew 1 [1]) rig ∧
      grantsAtOnce .player rig = true ∧ grantsAtOnce .crew rig = true ∧ rig.stores.preset 3 = .valid unready ∧
      (rig.stores.curve 1).state ≠ .ready ∧ rig.stores.preset 1 = .valid single ∧ rig.stores.presetReady single = true ∧
      rig.engine.scene = some scene ∧ scene.source = 1 ∧ scene.dirty = false :=
  ⟨.inl ⟨rfl, 0, 2, 0, rfl, by decide +kernel⟩,
    .inr ⟨rfl, rfl, 1, by decide +kernel⟩, by decide +kernel⟩

/-- The target lane IDLE, TAILING and CUTTING; and no scene. The recall of preset 5 is that of `test_witness_recallOf`. -/
theorem test_witness_GrantBeginsFade :
    recallOf .player 1 5 false (.recall .player 1 [1, 0, 0]) silentRig ∧
      rig.stores.preset 5 = .valid single ∧ rig.stores.presetReady single = true ∧ single.kind = .single ∧ scene.source ≠ 5 ∧
      grantsAtOnce .player rig = true ∧ rig.lanes.b.state = .idle ∧
      grantsAtOnce .player (withB { laneIn .tailing with tailTimer := 9 }) = true ∧
      grantsAtOnce .player (withB (laneIn .cutting)) = true ∧ grantsAtOnce .player silentRig = true ∧
      silentRig.engine.scene = none :=
  ⟨.inl ⟨rfl, 1, 0, 0, rfl, by decide +kernel⟩, by decide +kernel⟩

/-- From a sounding DUAL scene to preset 1, and from silence into the DUAL preset 2. -/
theorem test_witness_GrantBeginsDip :
    recallOf .crew 1 1 true (.recallIndex .crew 1 [1]) dualRig ∧ recallOf .crew 1 2 true (.recallIndex .crew 1 [2]) silentRig ∧
      grantsAtOnce .crew dualRig = true ∧ dualRig.stores.preset 1 = .valid single ∧
      dualRig.stores.presetReady single = true ∧ dualRig.engine.scene.map (fun sc => sc.preset.kind) = some .dual ∧
      dualRig.engine.scene.map (fun sc => sc.source) = some 2 ∧ dualRig.lanes.a.state ≠ .idle ∧ dualRig.lanes.a.outRamp ≠ 0 ∧
      grantsAtOnce .crew silentRig = true ∧ silentRig.stores.preset 2 = .valid double ∧
      silentRig.stores.presetReady double = true ∧ double.kind = .dual ∧ silentRig.engine.scene = none ∧
      silentRig.lanes.a.state = .idle ∧ silentRig.lanes.b.state = .idle :=
  ⟨.inr ⟨rfl, rfl, 1, by decide +kernel⟩,
    .inr ⟨rfl, rfl, 2, by decide +kernel⟩, by decide +kernel⟩

theorem test_witness_DipOutEndLoads :
    let tr := { record with kind := .dip, phase := .dipOut, target := none, j := 0 }
    let s := { dualRig with
      lanes := ⟨{ dualRig.lanes.a with outRamp := 0 }, { dualRig.lanes.b with outRamp := 0 }⟩
      engine := { dualRig.engine with transition := some tr } }
    s.engine.transition = some tr ∧ tr.kind = .dip ∧ tr.phase = .dipOut ∧ s.lanes.a.outRamp = 0 ∧ s.lanes.b.outRamp = 0 ∧
      (after .dipOutEnd s).lanes.a.state = .incoming ∧ (after .dipOutEnd s).lanes.b.state = .idle := by decide +kernel

/-- A FADE and a DIP at the end of their ramps, the response owed and not; a recall of the CREW link that waits, granted in the
same step, and one that the PLAYER's new tenure bars. -/
theorem test_witness_TransitionCompletes :
    let dip := { record with kind := .dip, phase := .dipIn, target := none }
    let u := { dipping with engine := { dipping.engine with transition := some dip } }
    let w := { crossRig with arbiter := { crossRig.arbiter with grant := some ⟨.player, 7, false, false⟩ } }
    let one : State := { crossRig.setLink .crew { LinkIf.initial with reserved := 1 } with
      arbiter := { crossRig.arbiter with slots := ⟨none, some ⟨1, none, 3⟩, none⟩ } }
    let held := { one with arbiter := { one.arbiter with tenureSetting := ⟨1, 0, 0⟩ } }
    (after .fadeComplete one).arbiter.grant = some ⟨.crew, 3, true, true⟩ ∧
      (after .fadeComplete one).engine.transition.map (fun t => (t.phase, t.target, t.tailCut)) = some (.prepare, some .a, true) ∧
      (after .fadeComplete held).arbiter = { held.arbiter with grant := none, tenure := some ⟨.player, 8⟩ } ∧
      crossRig.engine.transition = some record ∧ record.fade ≤ record.j ∧ record.phase = .cross ∧
      crossRig.arbiter.slots = ⟨none, none, none⟩ ∧ u.engine.transition = some dip ∧ dip.fade ≤ dip.j ∧ dip.phase = .dipIn ∧
      u.arbiter.slots = ⟨none, none, none⟩ ∧ crossRig.arbiter.grant.map (fun g => g.owed) = some true ∧
      w.arbiter.grant.map (fun g => g.owed) = some false ∧
      (after .fadeComplete crossRig).lanes.a.tailTimer = 96 ∧ (after .fadeComplete crossRig).lanes.b.state = .live := by
  decide +kernel

/-- A tail at the end of its timer and of its floor counter, a cut at its end, and the PREPARE that waits for it. -/
theorem test_witness_TailsAndCutsEnd :
    let t0 := withB { laneIn .tailing with tailTimer := 0 }
    let t1 := withB { laneIn .tailing with tailTimer := 9, floorCount := 4800 }
    let c0 := withB { laneIn .cutting with outRamp := 0 }
    let tr := { record with phase := .prepare, j := 0, tailHold := none }
    let c1 := { c0 with engine := { c0.engine with transition := some tr } }
    t0.lanes.b.state = .tailing ∧ t0.lanes.b.tailTimer = 0 ∧ t1.lanes.b.state = .tailing ∧ t1.lanes.b.floorCount = 4800 ∧
      c0.lanes.b.state = .cutting ∧ c0.lanes.b.outRamp = 0 ∧ c0.engine.transition = none ∧ c1.engine.transition = some tr ∧
      tr.phase = .prepare ∧ tr.kind = .fade ∧ tr.target = some .b ∧ (after (.cutEnd .b) c1).lanes.b.state = .incoming ∧
      (after (.cutEnd .b) c1).lanes.a.state = .outgoing := by decide +kernel

/-- Sizes 1 and 32 with bases 31 and 0, and a base that is no multiple of the size. -/
theorem test_witness_WindowSetReplacesWindow :
    (after (.windowSet .crew 1 [2, 31, 1]) rig).arbiter.windows.showControl = ⟨31, 1⟩ ∧
      (after (.windowSet .crew 1 [0, 0, 32]) rig).arbiter.windows.player = ⟨0, 32⟩ ∧
      (after (.windowSet .crew 1 [0, 1, 2]) rig).arbiter = rig.arbiter := by decide +kernel

/-- A tenure that ends with every slot empty and with a recall that waits alone, for each outcome of the grant: NO_PRESET,
LOAD_FAIL, SAME, a FADE into an IDLE, a TAILING and a CUTTING lane B, a DIP that waits and one into silence. -/
theorem test_witness_TenureExpiryGrants :
    let e := tenured .player 0 ⟨none, none, none⟩
    let g := fun (i : Nat) => tenured .player 0 ⟨none, some ⟨i, none, 3⟩, none⟩
    let answer := fun (i : Nat) => ((after .tenureExpiry (g i)).link .crew).queue
    let begun := fun (s : State) => (after .tenureExpiry s).engine.transition.map (fun t => (t.kind, t.phase, t.tailCut))
    let tailing := { g 5 with lanes := ⟨laneIn .live, { laneIn .tailing with tailTimer := 9 }⟩ }
    let cutting := { g 5 with lanes := ⟨laneIn .live, laneIn .cutting⟩ }
    let silent := { silentRig with arbiter := (g 2).arbiter }
    e.arbiter.tenure = some ⟨.player, 0⟩ ∧ e.arbiter.slots = ⟨none, none, none⟩ ∧ (g 5).arbiter.tenure = some ⟨.player, 0⟩ ∧
      (g 5).engine.transition = none ∧ (g 5).arbiter.slots = ⟨none, some ⟨5, none, 3⟩, none⟩ ∧
      answer 9 = [resultMessage .recallIndex 3 .noPreset] ∧ answer 3 = [resultMessage .recallIndex 3 .loadFail] ∧
      answer 1 = [resultMessage .recallIndex 3 .same] ∧ begun (g 5) = some (.fade, .cross, false) ∧
      begun tailing = some (.fade, .prepare, true) ∧ begun cutting = some (.fade, .prepare, false) ∧
      begun (g 2) = some (.dip, .dipOut, false) ∧ begun silent = some (.dip, .dipIn, false) := by decide +kernel

theorem test_witness_EffectiveValues :
    0 ≤ 1023 ∧ anyClash scene.preset.expression = false ∧ scene.effective.length = scene.preset.expression.length ∧
      (Assign.mk .exp1 .drivePre .a 768 256).onChain .a = true ∧
      (scene.params .a).target .drivePre = 768 ∧ (Assign.mk .exp1 .drivePre .a 768 256).valueAt 1 = 768 := by decide +kernel

theorem test_witness_DelayLengths :
    (⟨.tempo, 24000, 4, 0, 4096, 0⟩ : Delay).mode = .tempo ∧ (⟨.off, 47, 0, 0, 0, 0⟩ : Delay).mode ≠ .tempo ∧
      (12000 : Nat) ≤ 12000 := by decide +kernel

theorem test_witness_PedalMovesTargets : presetLaw rig = true ∧ derivedLaw rig = true ∧ rig.engine.scene = some scene ∧
    presetLaw silentRig = true ∧ derivedLaw silentRig = true ∧ silentRig.engine.scene = none := by decide +kernel

/-- Locked; a first tap; intervals of 11,999, 12,000, 144,000 and 144,001 frames. -/
theorem test_witness_TapAndTempoWriteTempo :
    let locked := { rig with control := { rig.control with locked := true } }
    let gap := fun n : BitVec 32 => { rig with
      frontEnd := { rig.frontEnd with frameCount := n }, control := { rig.control with prevTap := some 0 } }
    accepting .player locked = true ∧ locked.control.locked = true ∧ rig.control.locked = false ∧ rig.control.prevTap = none ∧
      accepting .player (gap 12000) = true ∧ (after (.tap .player 1 []) (gap 11999)).control.intervals = [] ∧
      (after (.tap .player 1 []) (gap 12000)).control.intervals = [12000] ∧
      (after (.tap .player 1 []) (gap 144000)).control.intervals = [144000] ∧
      (after (.tap .player 1 []) (gap 144001)).control.intervals = [] := by decide +kernel

theorem test_witness_TunerEngageAndRelease :
    let s := { rig with tuner := { rig.tuner with state := .listening } }
    rig.tuner.state = .off ∧ accepting .player s = true ∧ accepting .crew s = true ∧ s.tuner.state ≠ .off := by decide +kernel

/-- A sample that completes a group of eight, the same without presence, and the end of the stale count. -/
theorem test_witness_DecimatedSampleHandled :
    let u : Tuner := { Tuner.initial with
      state := .listening, sum := 8 * 170000, count := 8, index := 83, prevSample := some (-10000), polarity := .low
      prevCrossing := some 2405, group := [18800, 18790, 18760, 18740, 18740, 18730, 18720] }
    let s := { rig with tuner := u, frontEnd := { rig.frontEnd with presence := true } }
    let t := { rig with tuner := u, frontEnd := { rig.frontEnd with presence := false } }
    let r := after .decimatedSample s
    let w := { s with tuner := { r.tuner with stale := 1500 } }
    s.tuner.state ≠ .off ∧ s.tuner.count = 8 ∧ (after .decimatedSample t).tuner.group = [] ∧ r.tuner.state = .reading ∧
      r.tuner.current.map (fun x => x.centihertz) = some 8192 ∧ w.tuner.state = .reading ∧ w.tuner.stale = 1500 ∧
      (after .tunerStale w).tuner.state = .listening := by decide +kernel

/-- The ends of the two ranges. -/
theorem test_witness_TargetAndDeviation :
    (40000 ≤ 40000 ∧ 8192 ≤ 8192 ∧ 46600 ≤ 46600 ∧ 491520 ≤ 491520) ∧
      0 ≤ freeNote 46600 491520 ∧ freeNote 40000 8192 ≤ 127 := by decide +kernel

theorem test_witness_ReadingRecord :
    40000 ≤ Tuner.initial.reference ∧ Tuner.initial.reference ≤ 46600 ∧ 8192 ≤ 150000 ∧ 150000 ≤ 491520 ∧
      Profile.standard.notes ≠ [] ∧ (∀ n ∈ Profile.standard.notes, n ≤ 127) ∧ 1 ≤ Tuner.initial.wIn ∧
      Tuner.initial.wIn ≤ Tuner.initial.wNear := by decide +kernel

/-- Mask bytes 0, 7 and 8; a safety timer at its end. -/
theorem test_witness_MuteAndSafetyTimer :
    let s := { rig with mixer := { rig.mixer with mask := ⟨true, false, false⟩, timer := some 0 } }
    (after (.mute .player 1 [7]) rig).mixer.mask = ⟨true, true, true⟩ ∧ (after (.mute .player 1 [8]) rig).mixer = rig.mixer ∧
      s.mixer.timer = some 0 ∧ (after .safetyTimerExpiry s).mixer.mask = .none := by decide +kernel

theorem test_witness_DcWindowEndAndFlagLatch :
    let s := { rig with protection := { rig.protection with phase := 4096 } }
    let u := { rig with protection := rig.protection.setPair .mon .overLevel ⟨true, 9600, false, true⟩ }
    4096 ≤ s.protection.phase ∧ (u.protection.pair .mon .overLevel).latchDue = true ∧
      (after (.flagLatch .mon .overLevel) u).mixer.monRequest = true := by decide +kernel

theorem test_witness_AckAndForce :
    ([Bus.fohL, .fohR, .mon, .amp])[(3 : Byte).toNat]? = some .amp ∧
      ([ProtClass.overLevel, .dc, .loss])[(2 : Byte).toNat]? = some .loss ∧ (1 : Byte).toNat < 2 ∧
      (after (.force .crew 1 [0, 1]) rig).mixer.monRequest = true := by decide +kernel

/-- The transmitter free and busy; mask bytes 127 and 128. -/
theorem test_witness_ClearSubscribeReset :
    let busy := linked .crew (fun x => { x with tx := .notice .scene [0] })
    (rig.link .crew).tx = .free ∧ accepting .crew busy = true ∧ (busy.link .crew).tx ≠ .free ∧
      ((after (.subscribe .crew 1 [127]) rig).link .crew).mask = ⟨true, true, true, true, true, true, true⟩ ∧
      ((after (.subscribe .crew 1 [128]) rig).link .crew).mask = (rig.link .crew).mask := by decide +kernel

theorem test_witness_ResetsRestoreBlocks : ({ rig with resetDue := true }).resetDue = true := rfl

/-- Each of the four discards: a listening link, one with eight slots taken, a gap of 3. -/
theorem test_witness_DiscardsReport :
    let full := linked .player (fun x => { x with queue := List.replicate 8 ⟨0, 1, []⟩, tx := .response [0] })
    let late := linked .player (fun x => { x with rx := .length, gap := 3 })
    listening .player rig = true ∧ listening .player full = true ∧
      8 ≤ (full.link .player).reserved + (full.link .player).queue.length ∧ (late.link .player).rx ≠ .hunt ∧
      (late.link .player).gap = 3 ∧ (after (.gapTimeout .player) late).capture = some ⟨.badFrame, some .player, none, none⟩ := by
  decide +kernel

/-- A line at idle and at break level, in HUNT and in a frame; a break of ten milliseconds, with a response in flight, and on the
closing CREW link. -/
theorem test_witness_BreaksAndMilliseconds :
    let low := linked .player (fun x => { x with lineLow := true, breakPartial := true })
    let torn := linked .player (fun x => { x with lineLow := true, rx := .length })
    let drop := linked .player (fun x =>
      { x with lineLow := true, breakCount := 10, queue := [⟨0, 1, []⟩, ⟨0, 2, []⟩], tx := .response [0] })
    let bye := linked .crew (fun x => { x with lineLow := true, breakCount := 10, closing := true })
    (after (.linkDrop .crew) bye).engine.scene = none ∧ (after (.linkDrop .crew) bye).link .crew =
        { LinkIf.initial with lineLow := true, breakCount := 10, breakJudged := true } ∧
      quiet rig = true ∧ (rig.link .player).lineLow = false ∧ quiet low = true ∧ (low.link .player).lineLow = true ∧
      (low.link .player).rx = .hunt ∧ quiet torn = true ∧ (torn.link .player).rx ≠ .hunt ∧
      (drop.link .player).lineLow = true ∧ (drop.link .player).breakCount = 10 ∧ (drop.link .player).breakJudged = false ∧
      (drop.link .player).closing = false ∧ ((after (.linkDrop .player) drop).link .player).queue = [⟨0, 1, []⟩] := by
  decide +kernel

/-- The end of a response with another queued, with notices pending, with nothing left; the end of the RESET's OK. -/
theorem test_witness_MessageSentChoosesNext :
    let two := linked .crew (fun x => { x with queue := [⟨0, 1, []⟩, ⟨0, 2, []⟩], tx := .response [0] })
    let some' := linked .crew (fun x =>
      { x with flags := { NoticeSet.none with mute := true, tempo := true }, tx := .notice .scene [0] })
    let bye := linked .crew (fun x => { x with queue := [resultMessage .reset 4 .ok], tx := .response [0], closing := true })
    (∀ s ∈ [two, some', bye], quiet s = true ∧ transmittersServed s = true ∧ (s.link .crew).tx ≠ .free) ∧
      ((after (.messageSent .crew) two).link .crew).queue = [⟨0, 2, []⟩] ∧
      ((after (.messageSent .crew) some').link .crew).flags = { NoticeSet.none with tempo := true } ∧
      (after (.messageSent .crew) bye).resetDue = true := by decide +kernel

/-- Each state of the receiver, a sound frame of tag 0 among them; and a whole frame, MUTE, byte by byte. -/
theorem test_witness_BytesMakeFrames :
    let body := linked .player (fun x => { x with rx := .content 3 [1] })
    let sum := linked .player (fun x => { x with rx := .check 2 [1, 2] })
    listening .player rig = true ∧ transmittersServed rig = true ∧ (rig.link .player).rx = .hunt ∧ (rig.link .player).gap = 0 ∧
      ((after (.byteReceived .player 253) (linked .player (fun x => { x with rx := .check 2 [1, 0] }))).link .player).cause =
        some .badFrame ∧
      listening .player body = true ∧ listening .player sum = true ∧ (2 + (1 + 2) + 0) % 256 ≠ 0 ∧
      ReqType.mute.command .player 9 [3] = some (.mute .player 9 [3]) ∧ reqTypeOf 0x13 = none ∧
      [0xE7, 3, ReqType.mute.code, 9, 3, 0 - (3 + ReqType.mute.code + 9 + 3)].foldl (fun s b => after (.byteReceived .player b) s) rig =
        after (.mute .player 9 [3]) rig := by decide +kernel

/-- Not permitted, of a wrong length, with eight slots taken, of an unknown type. -/
theorem test_witness_RequestsAreChecked :
    let full := linked .player (fun x => { x with queue := List.replicate 8 ⟨0, 1, []⟩, tx := .response [0] })
    ReqType.store.permitted .player = false ∧ ReqType.store.command .player 1 [5] = some (.store .player 1 [5]) ∧
      ReqType.mute.permitted .player = true ∧ ReqType.mute.command .player 1 [] = some (.mute .player 1 []) ∧
      ReqType.mute.bodyRange = (1, 1) ∧ listening .player full = true ∧
      8 ≤ (full.link .player).reserved + (full.link .player).queue.length ∧ reqTypeOf 0x13 = none ∧
      ((after (.queryTempo .player 1 0 []) full).link .player).cause = some .overrun := by decide +kernel

/-- An idle and an engaged tuner; a value within the range, and one beyond it. -/
theorem test_witness_SettingsAreStored :
    let s := { rig with tuner := { rig.tuner with state := .listening } }
    rangeLaw rig = true ∧ derivedLaw rig = true ∧ accepting .crew s = true ∧ rangeLaw s = true ∧ derivedLaw s = true ∧
      s.tuner.state ≠ .off ∧ (after (.settingWIn .crew 1 101) rig).tuner.wIn = min 100 rig.tuner.wNear ∧
      (after (.settingTenure .crew 1 .player 250) rig).arbiter.tenureSetting.player = 250 := by decide +kernel

/-- Argument lists of zero to three bytes; a scene and none; records of the three states. -/
theorem test_witness_QueriesAnswer :
    ([1, 2, 3] : List Byte).length ≤ 3 ∧ rig.engine.scene = some scene ∧ silentRig.engine.scene = none ∧
      rig.stores.preset 0 = .empty ∧ rig.stores.preset 4 = .filling double ∧ rig.stores.preset 5 = .valid single ∧
      ((after (.queryMapEntry .player 1 0 [0, 1]) rig).link .player).queue = [⟨0xE2, 1, [0, 0, 1, 2]⟩] := by decide +kernel

end Sys2Proof.Machine.Tests
end

/-! Peak envelopes (R4): an equation for each side of the comparison, the range, and the obligation on them. -/

namespace Sys2Proof.Machine

/-- The attack of R4: a magnitude of at least the held value is taken at once. -/
theorem peakEnvelope_of_le {prev : Nat} {v : Int} (s : Nat) (h : prev ≤ v.natAbs) : peakEnvelope s prev v = v.natAbs :=
  if_pos h

/-- The release of R4, in natural numbers: the truncated subtraction is the limit at 0. -/
theorem peakEnvelope_of_lt {prev : Nat} {v : Int} (s : Nat) (h : v.natAbs < prev) :
    peakEnvelope s prev v = prev - max 1 (prev / 2 ^ s) :=
  if_neg (Nat.not_le.mpr h)

/-- A released envelope falls, whatever its release shift: the decrement is at least 1. -/
theorem peakEnvelope_lt_of_lt {prev : Nat} {v : Int} (s : Nat) (h : v.natAbs < prev) : peakEnvelope s prev v < prev := by
  rw [peakEnvelope_of_lt s h]
  omega

/-- Every bound of the held value and of the magnitude bounds the next value. -/
theorem peakEnvelope_le {prev bound : Nat} {v : Int} (s : Nat) (hprev : prev ≤ bound) (hv : v.natAbs ≤ bound) :
    peakEnvelope s prev v ≤ bound := by
  rcases Nat.lt_or_ge v.natAbs prev with hrelease | hattack
  · exact (peakEnvelope_lt_of_lt s hrelease).le.trans hprev
  · exact (peakEnvelope_of_le s hattack).trans_le hv

/-- The release of R4 as the rule writes it: a right shift, and a difference of integers limited at 0. -/
theorem peakEnvelope_eq_max_sub_shift {prev : Nat} {v : Int} (s : Nat) (h : v.natAbs < prev) :
    (peakEnvelope s prev v : Int) = max 0 ((prev : Int) - max 1 ((prev >>> s : Nat) : Int)) := by
  rw [peakEnvelope_of_lt s h, Nat.shiftRight_eq_div_pow]
  omega

end Sys2Proof.Machine

namespace Sys2Proof.InputFrontEnd

open Sys2Proof.Machine

/-- Settles O11: the two equations, the fall and the bound, with the values R4 gives at the ends of the range. -/
theorem peakEnvelope : Obligations.PeakEnvelope := by
  refine ⟨fun s _ _ => peakEnvelope_of_le s,
    fun s _ _ h => ⟨peakEnvelope_eq_max_sub_shift s h, peakEnvelope_lt_of_lt s h⟩, ?range,
    fun s => peakEnvelope_of_le s le_rfl, peakEnvelope_of_lt 10 (by decide), rfl⟩
  case range =>
    intro s prev v hprev hlow hhigh
    have hv : v.natAbs ≤ 8388608 := by omega
    exact peakEnvelope_le s hprev hv

end Sys2Proof.InputFrontEnd

/-! Requests that answer with a result alone: the rule that takes an owner's effect to the claim's terms. -/

namespace Sys2Proof.Machine

/-- What the owner of an accepted request did, read after its response: the parts it left alone are left alone, its response is
the only change to the links apart from what it raised. -/
theorem carriedOut_respond {t : ReqType} {l : Link} {tag : Byte} {r : Result} {bs : List Block}
    {raised : Link → NoticeClass → Bool} {s u : State} (hframe : changesOnly (.links :: bs) (accepted l s) u)
    (hcore : coreKept (accepted l s) u) (hraises : raises raised (accepted l s) u) :
    carriedOut t l tag r bs raised s (pump (respond l t tag r u)) := by
  refine ⟨fun b hb => ?frame, respondsWith_pump hcore, announces_request hraises⟩
  case frame =>
    have hsame := hframe b hb
    cases b
    case links => exact absurd List.mem_cons_self hb
    all_goals exact hsame

/-- A request whose owner does nothing is refused in the claim's terms, whatever its result. -/
theorem refusedWith_respond (t : ReqType) (l : Link) (tag : Byte) (r : Result) (s : State) :
    refusedWith t l tag r s (pump (respond l t tag r (accepted l s))) := by
  refine carriedOut_respond (fun b _ => ?_) (fun _ => rfl) (raises_refl _)
  cases b <;> rfl

/-! ### Writes toward the lanes (R54, R110) -/

theorem LaneState.carries_iff (x : LaneState) : x.carries = true ↔ x = .incoming ∨ x = .live := by
  cases x <;> decide

/-- After a change of period with no working scene, no lane is written. -/
theorem pendLengths_of_no_scene {s : State} (h : s.engine.scene = none) : pendLengths s = s := by
  simp [pendLengths, h]

/-- After a change of period, the length of every lane is pended that carries the working scene, and nothing else. -/
theorem pendLengths_of_scene {s : State} {sc : Scene} (h : s.engine.scene = some sc) :
    pendLengths s = s.withLanes (s.lanes.map (fun x => x.pend (fun c p =>
      { p with length := some (deriveLength s.control.period (sc.preset.chain c).delay) }))) := by
  simp [pendLengths, h, pendLanes]

theorem pendLengths_eq_withLanes (s : State) : ∃ x, pendLengths s = s.withLanes x := by
  cases h : s.engine.scene with
  | none => exact ⟨s.lanes, pendLengths_of_no_scene h⟩
  | some sc => exact ⟨_, pendLengths_of_scene h⟩

/-! ### The tempo record -/

/-- A write of the tempo record is the new record, TEMPO raised, and writes toward the lanes. -/
theorem writeTempo_eq_withLanes (ctl : Control) (s : State) :
    ∃ x, writeTempo ctl s = (raiseNotice .tempo (s.withControl ctl)).withLanes x :=
  pendLengths_eq_withLanes _

@[simp] theorem writeTempo_control (ctl : Control) (s : State) : (writeTempo ctl s).control = ctl := by
  obtain ⟨x, hx⟩ := writeTempo_eq_withLanes ctl s
  simp [hx]

@[simp] theorem writeTempo_link (ctl : Control) (s : State) (k : Link) :
    (writeTempo ctl s).link k = (s.link k).raised .tempo := by
  obtain ⟨x, hx⟩ := writeTempo_eq_withLanes ctl s
  simp [hx]

/-- A write of the tempo record changes the record, the lanes' pending sets and, by its notice, the links. -/
theorem changesOnly_writeTempo (ctl : Control) (s : State) : changesOnly [.links, .control, .lanes] s (writeTempo ctl s) := by
  obtain ⟨x, hx⟩ := writeTempo_eq_withLanes ctl s
  intro b hb
  rw [hx]
  cases b
  case links | control | lanes => simp at hb
  all_goals rfl

theorem raises_writeTempo (ctl : Control) (s : State) : raises (oneClass .tempo) s (writeTempo ctl s) := by
  intro k
  simpa using raises_raiseNotice .tempo s k

/-- The lanes after a write of the tempo record (R110). -/
theorem writeTempo_lane (ctl : Control) (s : State) (i : LaneId) :
    (writeTempo ctl s).lanes.get i = s.engine.scene.elim (s.lanes.get i) (fun sc =>
      if (s.lanes.get i).state = .incoming ∨ (s.lanes.get i).state = .live then
        { s.lanes.get i with pendingSet := { (s.lanes.get i).pendingSet with
            length := some (deriveLength ctl.period (sc.preset.chain (s.lanes.get i).role.chain).delay) } }
      else s.lanes.get i) := by
  cases h : s.engine.scene with
  | none => simp [writeTempo, pendLengths_of_no_scene, h]
  | some sc =>
    have hscene : (raiseNotice .tempo (s.withControl ctl)).engine.scene = some sc := h
    simp [writeTempo, pendLengths_of_scene hscene, Lane.pend, LaneState.carries_iff]

/-- An accepted request that writes the tempo record, in the claim's terms. -/
theorem carriedOut_writeTempo (t : ReqType) (l : Link) (tag : Byte) (r : Result) (ctl : Control) (s : State) :
    carriedOut t l tag r [.control, .lanes] (oneClass .tempo) s (pump (respond l t tag r (writeTempo ctl (accepted l s)))) :=
  carriedOut_respond (changesOnly_writeTempo ctl _) (fun k => by simp) (raises_writeTempo ctl _)

theorem pump_respond_writeTempo_control (t : ReqType) (l : Link) (tag : Byte) (r : Result) (ctl : Control) (s : State) :
    (pump (respond l t tag r (writeTempo ctl s))).control = ctl := by
  simp

/-- An accepted request that replaces the control block and announces nothing, in the claim's terms. -/
theorem carriedOut_withControl (t : ReqType) (l : Link) (tag : Byte) (r : Result) (ctl : Control) (s : State) :
    carriedOut t l tag r [.control] noClass s (pump (respond l t tag r ((accepted l s).withControl ctl))) := by
  refine carriedOut_respond (fun b hb => ?_) (fun _ => rfl) (raises_refl (accepted l s))
  cases b
  case links | control => simp at hb
  all_goals rfl

/-! ### TAP (R104) -/

/-- A tap on a link that accepts it is answered with what the unit does. -/
theorem exec_tap_of_accepting {s : State} {tag : Byte} (h : accepting .player s = true) (htag : tag ≠ 0) :
    exec (.tap .player tag []) s = .next (pump (respond .player .tap tag (tap (accepted .player s)).1
      (tap (accepted .player s)).2)) :=
  congrArg Host.Outcome.next (requestArrives_of_accepting h htag rfl rfl (by decide))

theorem tap_of_locked {s : State} (h : s.control.locked = true) : tap s = (.locked, s) := by simp [tap, h]

/-- A first tap, and one too soon or too late after the last, restarts the sequence. -/
theorem tap_of_restart {s : State} (hlock : s.control.locked = false)
    (hout : ∀ prev, s.control.prevTap = some prev →
      (s.frontEnd.frameCount - prev).toNat < 12000 ∨ 144000 < (s.frontEnd.frameCount - prev).toNat) :
    tap s = (.ok, s.withControl { s.control with prevTap := some s.frontEnd.frameCount, intervals := [] }) := by
  cases hprev : s.control.prevTap with
  | none => simp [tap, hlock, hprev]
  | some prev => simp only [tap, hlock, hprev, if_pos (hout prev hprev), Bool.false_eq_true, if_false]

/-- A tap in range writes the tempo record with the mean of the intervals. -/
theorem tap_of_in_range {s : State} {prev : BitVec 32} {xs : List Nat} (hlock : s.control.locked = false)
    (hprev : s.control.prevTap = some prev) (hlo : 12000 ≤ (s.frontEnd.frameCount - prev).toNat)
    (hhi : (s.frontEnd.frameCount - prev).toNat ≤ 144000)
    (hxs : addInterval s.control.intervals (s.frontEnd.frameCount - prev).toNat = xs) :
    tap s = (.ok, writeTempo
      { s.control with
        period := xs.sum / xs.length, source := .tap, prevTap := some s.frontEnd.frameCount, intervals := xs } s) := by
  have hin : ¬((s.frontEnd.frameCount - prev).toNat < 12000 ∨ 144000 < (s.frontEnd.frameCount - prev).toNat) := by omega
  simp only [tap, hlock, hprev, hxs, if_neg hin, Bool.false_eq_true, if_false]

/-- Of a list of at most four intervals, the oldest leaves where there are four. -/
theorem addInterval_of_le_four {xs : List Nat} (h : xs.length ≤ 4) (i : Nat) :
    addInterval xs i = (if xs.length = 4 then xs.tail else xs) ++ [i] := by
  have hfull : 4 ≤ xs.length ↔ xs.length = 4 := by omega
  simp [addInterval, hfull]

/-! ### TEMPO (R105) -/

/-- A TEMPO on a link that accepts it is answered with what the unit does. -/
theorem exec_tempo_of_accepting {s : State} {tag : Byte} (h : accepting .showControl s = true) (htag : tag ≠ 0)
    (b1 b0 lock : Byte) :
    exec (.tempo .showControl tag [b1, b0, lock]) s = .next (pump (respond .showControl .tempo tag
      (tempo [b1, b0, lock] (accepted .showControl s)).1 (tempo [b1, b0, lock] (accepted .showControl s)).2)) :=
  congrArg Host.Outcome.next (requestArrives_of_accepting h htag rfl rfl (Nat.le_of_ble_eq_true rfl))

/-- The fields of a TEMPO body: bpm×100, then the lock byte. -/
theorem num_bpm (b1 b0 lock : Byte) : num [b1, b0, lock] 0 2 = 256 * b1.toNat + b0.toNat := by
  simp [num, be]

theorem num_lock (b1 b0 lock : Byte) : byte1 (num [b1, b0, lock] 2 1) = lock := by
  simp [num, be, byte1]

/-- A lock byte that is no flag refuses TEMPO. -/
theorem tempo_of_bad_lock {lock : Byte} (h : flagOf lock = none) (b1 b0 : Byte) (s : State) :
    tempo [b1, b0, lock] s = (.badRequest, s) := by
  simp [tempo, num_lock, h]

/-- A TEMPO with a lock flag writes the tempo record, whether it is locked or not. -/
theorem tempo_of_lock {lock : Byte} {f : Bool} (h : flagOf lock = some f) (b1 b0 : Byte) (s : State) :
    tempo [b1, b0, lock] s =
      (okOr (decide (max 2000 (min 24000 (256 * b1.toNat + b0.toNat)) ≠ 256 * b1.toNat + b0.toNat)), writeTempo
        { s.control with
          period := tempoQuotient (max 2000 (min 24000 (256 * b1.toNat + b0.toNat)))
          source := .showSystem, locked := f, prevTap := none, intervals := [] } s) := by
  simp only [tempo, num_lock, h, num_bpm, clamp_eq_max_min (show 2000 ≤ 24000 by decide)]

theorem okOr_ne (a b : Nat) : okOr (decide (a ≠ b)) = if a = b then .ok else .clamped := by
  by_cases h : a = b <;> simp [okOr, h]

/-! ### Delay lengths (R109) -/

/-- Out of TEMPO the length is the fixed length in its range, and the indication is clear. -/
theorem deriveLength_of_ne_tempo {d : Delay} (h : d.mode ≠ .tempo) (period : Nat) :
    deriveLength period d = (max 48 (min 96000 d.fixedLength), false) := by
  have hclamp := clamp_eq_max_min (show 48 ≤ 96000 by decide) d.fixedLength
  cases hm : d.mode with
  | tempo => exact absurd hm h
  | off => simp [deriveLength, hm, Config.delayEntries, hclamp]
  | fixed => simp [deriveLength, hm, Config.delayEntries, hclamp]

/-- In TEMPO the length is the division of the period in its range, and the indication says whether that is another value. -/
theorem deriveLength_of_tempo {d : Delay} {num den : Nat} (h : d.mode = .tempo) (hdiv : division d.division = (num, den))
    (period : Nat) :
    deriveLength period d = (max 48 (min 96000 (period * num / den)),
      decide (period * num / den < 48 ∨ 96000 < period * num / den)) := by
  have hclamp := clamp_eq_max_min (show 48 ≤ 96000 by decide) (period * num / den)
  have hacts : max 48 (min 96000 (period * num / den)) ≠ period * num / den ↔
      period * num / den < 48 ∨ 96000 < period * num / den := by omega
  simp only [deriveLength, h, hdiv, Config.delayEntries, hclamp, hacts]

/-- A delay length lies in its range, whatever the mode. -/
theorem deriveLength_mem (period : Nat) (d : Delay) :
    48 ≤ (deriveLength period d).1 ∧ (deriveLength period d).1 ≤ 96000 := by
  by_cases h : d.mode = .tempo
  · rw [deriveLength_of_tempo h rfl]
    omega
  · rw [deriveLength_of_ne_tempo h]
    omega

/-- The nine division codes with their fractions (R109). -/
def divisionTable : List (Nat × Nat × Nat) :=
  [(0, 4, 1), (1, 2, 1), (2, 3, 2), (3, 1, 1), (4, 3, 4), (5, 2, 3), (6, 1, 2), (7, 1, 3), (8, 1, 4)]

/-- The table gives the model's division of each code. Every fraction is at least 1/4, so that only the upper end of the
range can act on a period of at least 12,000. -/
theorem division_of_mem_divisionTable {x : Nat × Nat × Nat} (h : x ∈ divisionTable) :
    division x.1 = x.2 ∧ 0 < x.2.2 ∧ x.2.2 ≤ 4 * x.2.1 :=
  (by decide : ∀ x ∈ divisionTable, division x.1 = x.2 ∧ 0 < x.2.2 ∧ x.2.2 ≤ 4 * x.2.1) x h

/-- A fraction of at least 1/4 of the shortest period is no less than 3,000. -/
theorem le_period_mul_div {period num den : Nat} (hden : 0 < den) (hquarter : den ≤ 4 * num) (hperiod : 12000 ≤ period) :
    3000 ≤ period * num / den := by
  rw [Nat.le_div_iff_mul_le hden]
  calc 3000 * den ≤ 3000 * (4 * num) := Nat.mul_le_mul_left _ hquarter
    _ = 12000 * num := by ring
    _ ≤ period * num := Nat.mul_le_mul_right _ hperiod

end Sys2Proof.Machine

namespace Sys2Proof.ExpressionAndTempo

open Sys2Proof.Machine

/-- Settles O42: the range and the two equations of a length, and the table's fractions against the shortest period. -/
theorem delayLengths : Obligations.DelayLengths := by
  refine ⟨fun period d => ⟨(deriveLength_mem period d).1, (deriveLength_mem period d).2,
    fun h => deriveLength_of_ne_tempo h period⟩, fun period d num den hmode hmem => ?_⟩
  obtain ⟨hdiv, hden, hquarter⟩ := division_of_mem_divisionTable hmem
  exact ⟨deriveLength_of_tempo hmode hdiv period, le_period_mul_div hden hquarter⟩

/-- Settles O44: TAP by its three outcomes, TEMPO by its lock byte; both write through the one rule for the tempo record. -/
theorem tapAndTempoWriteTempo : Obligations.TapAndTempoWriteTempo := by
  intro s tag htag lengths
  have hlengths (t : ReqType) (l : Link) (r : Result) (ctl : Control) :
      lengths (pump (respond l t tag r (writeTempo ctl (accepted l s)))) := by
    intro i
    rw [pump_respond_writeTempo_control, pump_lanes, respond_lanes, writeTempo_lane, accepted_lanes, accepted_engine]
    cases s.engine.scene <;> rfl
  refine ⟨fun hacc => ⟨_, exec_tap_of_accepting hacc htag, fun hlock => ?locked, fun hlock => ⟨?restart, ?joins⟩⟩,
    fun hacc b1 b0 lock => ⟨_, exec_tempo_of_accepting hacc htag b1 b0 lock, ?badLock, ?written⟩⟩
  case locked =>
    rw [tap_of_locked (s := accepted .player s) hlock]
    exact refusedWith_respond ..
  case restart =>
    intro hout
    rw [tap_of_restart (s := accepted .player s) hlock hout]
    exact ⟨carriedOut_withControl .., rfl⟩
  case joins =>
    intro prev hprev hlo hhi hfour xs
    have hxs : addInterval s.control.intervals (s.frontEnd.frameCount - prev).toNat = xs := addInterval_of_le_four hfour _
    rw [tap_of_in_range (s := accepted .player s) hlock hprev hlo hhi hxs]
    exact ⟨carriedOut_writeTempo .., pump_respond_writeTempo_control .., hlengths _ _ _ _⟩
  case badLock =>
    rintro ⟨h0, h1⟩
    rw [tempo_of_bad_lock ((if_neg h0).trans (if_neg h1))]
    exact refusedWith_respond ..
  case written =>
    intro hlock sent b
    have hflag : flagOf lock = some (decide (lock = 1)) := by
      rcases hlock with rfl | rfl <;> rfl
    rw [tempo_of_lock hflag, okOr_ne]
    exact ⟨carriedOut_writeTempo .., pump_respond_writeTempo_control .., hlengths _ _ _ _⟩

end Sys2Proof.ExpressionAndTempo

/-! The pitch of a reading (R127, R129): the model's floors of logarithms are those of the real logarithm, which turns the FREE
note and the tenths into its rounded multiples; and no tenths lie halfway, for a halfway value would make a 24,000th power of a
fraction an odd power of 2. -/

namespace Sys2Proof.Machine

/-! ### Whole multiples of a logarithm -/

/-- Comparing a whole number with n·log2 x compares powers. -/
theorem intCast_le_mul_logb_iff {x : ℝ} (hx : 0 < x) (n : Nat) (z : Int) :
    (z : ℝ) ≤ n * Real.logb 2 x ↔ (2 : ℝ) ^ z ≤ x ^ n := by
  rw [← Real.logb_pow, Real.le_logb_iff_rpow_le one_lt_two (pow_pos hx n), Real.rpow_intCast]

/-- The search for powers of 2 ends at the floor of the real logarithm. -/
theorem floorLog2_eq_floor {n a b : Nat} (hn : n ≤ 32767) (ha : 0 < a) (hb : 0 < b) :
    floorLog2 n a b = ⌊n * Real.logb 2 ((a : ℝ) / b)⌋ := by
  have hpos : 0 < (a : ℝ) / b := by positivity
  have hpow : (0 : ℝ) < (b : ℝ) ^ n := by positivity
  obtain ⟨hle, hlt⟩ := floorLog2_spec hn ha hb
  rify at hle hlt
  apply le_antisymm
  · rwa [Int.le_floor, intCast_le_mul_logb_iff hpos, div_pow, le_div_iff₀' hpow]
  · rwa [← Int.lt_add_one_iff, Int.floor_lt, ← not_le, intCast_le_mul_logb_iff hpos, not_le, div_pow, div_lt_iff₀' hpow]

/-- A power of 2 that is the n-th power of a fraction has an exponent that n divides: the fraction's valuation at 2 is the
quotient. -/
theorem dvd_of_mul_logb_eq_intCast {n a b : Nat} (ha : 0 < a) (hb : 0 < b) {z : Int}
    (h : n * Real.logb 2 ((a : ℝ) / b) = z) : (n : Int) ∣ z := by
  have hpow : ((a : ℚ) / b) ^ n = 2 ^ z := by
    rw [← Real.logb_pow, Real.logb_eq_iff_rpow_eq two_pos one_lt_two.ne' (by positivity), Real.rpow_intCast] at h
    rify
    exact h.symm
  have htwo : padicValRat 2 2 = 1 := by exact_mod_cast padicValRat.self one_lt_two
  have hval : (n : Int) * padicValRat 2 ((a : ℚ) / b) = z := by
    simpa [htwo] using congrArg (padicValRat 2) hpow
  exact ⟨_, hval.symm⟩

/-! ### Rounding -/

/-- Away from the halves, rounding is off by less than a half. -/
theorem abs_sub_round_lt_half {x : ℝ} (h : ∀ z : Int, 2 * x = z → Even z) : |x - round x| < 1 / 2 := by
  refine lt_of_le_of_ne (abs_sub_round x) fun heq => ?_
  rcases eq_or_eq_neg_of_abs_eq heq with hhalf | hhalf
  · have := h (2 * round x + 1) (by push_cast; linarith)
    grind
  · have := h (2 * round x - 1) (by push_cast; linarith)
    grind

/-- Rounding keeps a range between whole numbers. -/
theorem round_mem {x : ℝ} {lo hi : Int} (hlo : lo ≤ x) (hhi : x ≤ hi) : lo ≤ round x ∧ round x ≤ hi := by
  rw [round_eq, Int.le_floor, ← Int.lt_add_one_iff, Int.floor_lt]
  push_cast
  constructor <;> linarith

/-! ### The pitch of a reading in octaves -/

/-- The position of f = 12,288,000 / S above the reference, in octaves: log2(f·100 / ref) of R127. -/
noncomputable def pitchOctaves (ref sum : Nat) : ℝ := Real.logb 2 (12288000 / sum * 100 / ref)

section
variable {ref sum : Nat}

/-- The fraction whose powers the model compares is f·100 / ref. -/
theorem pitchOctaves_eq_logb (ref sum : Nat) :
    pitchOctaves ref sum = Real.logb 2 ((pitchNumerator : ℝ) / (sum * ref : Nat)) := by
  rw [pitchOctaves, pitchNumerator, div_mul_eq_mul_div, div_div]
  norm_num

/-- With octaves divided into n parts, the model's search gives the floor of a pitch in those parts. -/
theorem floorLog2_pitch {n : Nat} (hn : n ≤ 32767) (href : 0 < ref) (hsum : 0 < sum) :
    floorLog2 n pitchNumerator (sum * ref) = ⌊n * pitchOctaves ref sum⌋ := by
  rw [pitchOctaves_eq_logb, floorLog2_eq_floor hn (by decide) (Nat.mul_pos hsum href)]

theorem pitchTenths_eq_round (href : 0 < ref) (hsum : 0 < sum) :
    pitchTenths ref sum = round (12000 * pitchOctaves ref sum) := by
  rw [pitchTenths, floorLog2_pitch (by decide) href hsum, round_eq_div, ← mul_assoc]
  norm_num

theorem freeNote_eq_round (href : 0 < ref) (hsum : 0 < sum) :
    freeNote ref sum = 69 + round (12 * pitchOctaves ref sum) := by
  rw [freeNote, floorLog2_pitch (by decide) href hsum, round_eq_div, ← mul_assoc]
  norm_num

/-- The tenths are the nearest whole number: no value lies halfway. -/
theorem abs_sub_pitchTenths_lt (href : 0 < ref) (hsum : 0 < sum) :
    |12000 * pitchOctaves ref sum - pitchTenths ref sum| < 1 / 2 := by
  rw [pitchTenths_eq_round href hsum]
  refine abs_sub_round_lt_half fun z hz => ?_
  have hpower : (24000 : Nat) * Real.logb 2 ((pitchNumerator : ℝ) / (sum * ref : Nat)) = z := by
    rw [← pitchOctaves_eq_logb, ← hz]
    push_cast
    ring
  have hdvd : ((24000 : Nat) : Int) ∣ z := dvd_of_mul_logb_eq_intCast (by decide) (Nat.mul_pos hsum href) hpower
  exact even_iff_two_dvd.mpr (dvd_trans (by decide) hdvd)

/-- The octaves of f above note n are those above the reference, less the note's distance from 69. -/
theorem logb_div_note (href : 0 < ref) (hsum : 0 < sum) (y : ℝ) :
    Real.logb 2 (12288000 / sum / ((ref / 100 : ℝ) * (2 : ℝ) ^ y)) = pitchOctaves ref sum - y := by
  have hf : (0 : ℝ) < 12288000 / sum * 100 / ref := by positivity
  have hnote : (0 : ℝ) < 2 ^ y := by positivity
  rw [← div_div, div_div_eq_mul_div, Real.logb_div hf.ne' hnote.ne', Real.logb_rpow two_pos one_lt_two.ne', pitchOctaves]

/-- The range of a pitch, from the lowest f against the highest reference to the highest f against the lowest. -/
theorem pitchOctaves_mem (hrefLo : 40000 ≤ ref) (hrefHi : ref ≤ 46600) (hsumLo : 8192 ≤ sum)
    (hsumHi : sum ≤ 491520) :
    -5 ≤ pitchOctaves ref sum ∧ pitchOctaves ref sum ≤ 2 := by
  have hprod : 8192 * 40000 ≤ sum * ref := Nat.mul_le_mul hsumLo hrefLo
  have hprod' : sum * ref ≤ 491520 * 46600 := Nat.mul_le_mul hsumHi hrefHi
  have hpos : (0 : ℝ) < (sum * ref : Nat) := by exact_mod_cast (by decide : 0 < 8192 * 40000).trans_le hprod
  have hfrac : (0 : ℝ) < (pitchNumerator : ℝ) / (sum * ref : Nat) := div_pos (by norm_num [pitchNumerator]) hpos
  rify at hprod hprod'
  have hnumerator : (pitchNumerator : ℝ) = 1228800000 := by norm_num [pitchNumerator]
  have hlow : (2 : ℝ) ^ (-5 : ℝ) = 1 / 32 := by norm_num
  have hhigh : (2 : ℝ) ^ (2 : ℝ) = 4 := by norm_num
  rw [pitchOctaves_eq_logb, Real.le_logb_iff_rpow_le one_lt_two hfrac, Real.logb_le_iff_le_rpow one_lt_two hfrac,
    le_div_iff₀ hpos, div_le_iff₀ hpos, hnumerator, hlow, hhigh]
  push_cast
  constructor <;> linarith

end

/-! ### The FREE note and its deviation -/

/-- The FREE note lies within the range of notes, and well inside it. -/
theorem freeNote_mem {ref sum : Nat} (hrefLo : 40000 ≤ ref) (hrefHi : ref ≤ 46600) (hsumLo : 8192 ≤ sum)
    (hsumHi : sum ≤ 491520) :
    9 ≤ freeNote ref sum ∧ freeNote ref sum ≤ 93 := by
  obtain ⟨hlow, hhigh⟩ := pitchOctaves_mem hrefLo hrefHi hsumLo hsumHi
  have hround : -60 ≤ round (12 * pitchOctaves ref sum) ∧ round (12 * pitchOctaves ref sum) ≤ 24 := by
    apply round_mem <;> push_cast <;> linarith
  rw [freeNote_eq_round (by omega) (by omega)]
  omega

/-- The FREE note is at most half a note from f, which is 500 tenths: the rounded distance is no more, and the clamp does not
act (R129). -/
theorem deviation_freeNote_mem {ref sum : Nat} (href : 0 < ref) (hsum : 0 < sum) :
    -500 ≤ deviation ref sum (freeNote ref sum) ∧ deviation ref sum (freeNote ref sum) ≤ 500 := by
  have hdist : pitchTenths ref sum - 1000 * (freeNote ref sum - 69) =
      round (12000 * pitchOctaves ref sum - (1000 * round (12 * pitchOctaves ref sum) : Int)) := by
    rw [pitchTenths_eq_round href hsum, freeNote_eq_round href hsum, add_sub_cancel_left, round_sub_intCast]
  obtain ⟨hlow, hhigh⟩ := abs_le.mp (abs_sub_round (12 * pitchOctaves ref sum))
  have hmem : -500 ≤ pitchTenths ref sum - 1000 * (freeNote ref sum - 69) ∧
      pitchTenths ref sum - 1000 * (freeNote ref sum - 69) ≤ 500 := by
    rw [hdist]
    apply round_mem <;> push_cast <;> linarith
  rw [deviation]
  omega

end Sys2Proof.Machine

namespace Sys2Proof.TunerReadings

open Sys2Proof.Machine

/-- Settles O47: the note and the tenths as rounded multiples of the pitch in octaves, whose range and half-note bound give the
limits; the nearest whole number is the model's tenths less the note's. -/
theorem targetAndDeviation : Obligations.TargetAndDeviation := by
  intro ref sum hrefLo hrefHi hsumLo hsumHi f tenths
  have href : 0 < ref := by omega
  have hsum : 0 < sum := by omega
  obtain ⟨hlow, hhigh⟩ := freeNote_mem hrefLo hrefHi hsumLo hsumHi
  refine ⟨?note, by omega, by omega, fun n => ⟨pitchTenths ref sum - 1000 * (n - 69), ?nearest, rfl⟩,
    deviation_freeNote_mem href hsum⟩
  case note =>
    calc freeNote ref sum = 69 + round (12 * pitchOctaves ref sum) := freeNote_eq_round href hsum
      _ = round (69 + 12 * pitchOctaves ref sum) := (round_ofNat_add 69 _).symm
      _ = ⌊69 + 12 * pitchOctaves ref sum + 1 / 2⌋ := round_eq _
  case nearest =>
    have hdist : tenths n - (pitchTenths ref sum - 1000 * (n - 69) : Int) =
        12000 * pitchOctaves ref sum - pitchTenths ref sum := by
      simp only [tenths, f, logb_div_note href hsum]
      push_cast
      ring
    rw [hdist]
    exact abs_sub_pitchTenths_lt href hsum

end Sys2Proof.TunerReadings

/-! The lock of the Fault Capture (R174): the table of what a capture takes; then what could end a MAJOR record, and that every
operation of the part but the two resets, CAPTURE_CLEAR and what leads up to them leaves that as it is. -/

namespace Sys2Proof.Machine

/-! ### What the capture takes (R174) -/

theorem FaultClass.major_iff (c : FaultClass) : c.major = true ↔ c = .loadFail ∨ c = .powerOn ∨ c = .softReset := by
  cases c <;> decide

theorem captureTakes_iff (held : Option FaultRec) (r : FaultRec) :
    captureTakes held r = true ↔
      held = none ∨ ∃ old, held = some old ∧ ¬old.cls.major = true ∧ r.cls.major = true := by
  cases held <;> simp [captureTakes, and_comm]

/-- A fault that the capture does not take changes nothing. -/
theorem writeFault_of_not_taken {r : FaultRec} {s : State} (h : captureTakes s.capture r = false) : writeFault r s = s := by
  simp [writeFault, h]

/-- A fault is written to the capture and, by its notice, to the links. -/
theorem changesOnly_writeFault (r : FaultRec) (s : State) : changesOnly [.capture, .links] s (writeFault r s) := by
  intro b hb
  cases b
  case capture | links => simp at hb
  all_goals simp [Block.same]

theorem writeFault_link_tx (r : FaultRec) (s : State) (k : Link) : ((writeFault r s).link k).tx = (s.link k).tx := by
  rw [writeFault_link]
  split <;> simp

/-! ### What the lock hangs on -/

/-- What decides whether a MAJOR record stands: the record itself, the mark that a soft reset is due, and of the CREW link what
a drop, and the byte that completes a CAPTURE_CLEAR, look at. -/
structure LockView where
  capture : Option FaultRec
  resetDue : Bool
  crewRx : Receiver
  crewClosing : Bool
  crewDropDue : Bool

/-- What a state shows of it. -/
def lockView (s : State) : LockView :=
  ⟨s.capture, s.resetDue, (s.link .crew).rx, (s.link .crew).closing, (s.link .crew).dropDue⟩

/-- Whether the record is MAJOR. -/
def LockView.locked (v : LockView) : Bool := v.capture.any (fun r => r.cls.major)

theorem captureLocked_eq_locked (s : State) : captureLocked s = (lockView s).locked := rfl

/-- A MAJOR record gives way to no fault. -/
theorem writeFault_of_locked {s : State} (hs : (lockView s).locked = true) (r : FaultRec) : writeFault r s = s := by
  apply writeFault_of_not_taken
  cases hc : s.capture with
  | none => simp [lockView, LockView.locked, hc] at hs
  | some old =>
    have hold : old.cls.major = true := by simpa [lockView, LockView.locked, hc] using hs
    simp [captureTakes, hold]

/-- A step that moves no link but in its transmitter and pending flags is seen in the capture and the mark alone. -/
theorem lockView_of_core {s t : State} (hcapture : t.capture = s.capture) (hdue : t.resetDue = s.resetDue)
    (hcore : (t.link .crew).core = (s.link .crew).core) : lockView t = lockView s := by
  simp only [LinkIf.core, LinkIf.mk.injEq] at hcore
  obtain ⟨hrx, -, hlow, -, hcount, hjudged, -, -, -, -, -, -, hclosing⟩ := hcore
  simp [lockView, LinkIf.dropDue, *]

/-! ### Updates -/

@[simp] theorem lockView_withFrontEnd (s : State) (x : FrontEnd) : lockView (s.withFrontEnd x) = lockView s := rfl
@[simp] theorem lockView_withLanes (s : State) (x : PerLane Lane) : lockView (s.withLanes x) = lockView s := rfl
@[simp] theorem lockView_withStores (s : State) (x : Stores) : lockView (s.withStores x) = lockView s := rfl
@[simp] theorem lockView_withEngine (s : State) (x : Engine) : lockView (s.withEngine x) = lockView s := rfl
@[simp] theorem lockView_withArbiter (s : State) (x : Arbiter) : lockView (s.withArbiter x) = lockView s := rfl
@[simp] theorem lockView_withControl (s : State) (x : Control) : lockView (s.withControl x) = lockView s := rfl
@[simp] theorem lockView_withTuner (s : State) (x : Tuner) : lockView (s.withTuner x) = lockView s := rfl
@[simp] theorem lockView_withMixer (s : State) (x : Mixer) : lockView (s.withMixer x) = lockView s := rfl
@[simp] theorem lockView_withProtection (s : State) (x : Protection) : lockView (s.withProtection x) = lockView s := rfl
@[simp] theorem lockView_setLane (s : State) (k : LaneId) (x : Lane) : lockView (s.setLane k x) = lockView s := rfl

/-- The lock does not hang on the other two links. -/
theorem lockView_setLink_of_ne {l : Link} (hl : l ≠ .crew) (s : State) (x : LinkIf) : lockView (s.setLink l x) = lockView s := by
  simp [lockView, State.link_setLink_other s x hl.symm]

/-! ### Reports -/

@[simp] theorem lockView_raiseNotice (c : NoticeClass) (s : State) : lockView (raiseNotice c s) = lockView s :=
  lockView_of_core rfl rfl (by simp)

@[simp] theorem lockView_raiseLinkNotice (l : Link) (s : State) : lockView (raiseLinkNotice l s) = lockView s := by
  refine lockView_of_core rfl rfl ?_
  rw [raiseLinkNotice, State.link_setLink]
  split
  · next hcrew => rw [hcrew, LinkIf.raised_core]
  · rfl

@[simp] theorem lockView_pump (s : State) : lockView (pump s) = lockView s := lockView_of_core rfl rfl (by simp)

@[simp] theorem lockView_reserveSlot (l : Link) (s : State) : lockView (reserveSlot l s) = lockView s := by
  cases l <;> rfl

@[simp] theorem lockView_queueMessage (l : Link) (m : Message) (s : State) : lockView (queueMessage l m s) = lockView s := by
  cases l <;> rfl

@[simp] theorem lockView_respond (l : Link) (t : ReqType) (tag : Byte) (r : Result) (s : State) :
    lockView (respond l t tag r s) = lockView s :=
  lockView_queueMessage l _ s

@[simp] theorem lockView_unknownType (l : Link) (tag : Byte) (s : State) : lockView (unknownType l tag s) = lockView s :=
  lockView_queueMessage l _ s

/-! ### Control Rate Unit -/

@[simp] theorem lockView_pendLanes (f : ChainId → PendingSet → PendingSet) (s : State) :
    lockView (pendLanes f s) = lockView s := rfl

@[simp] theorem lockView_pendEffective (f : Assign → Bool) (sc : Scene) (s : State) :
    lockView (pendEffective f sc s) = lockView s := rfl

@[simp] theorem lockView_setScene (sc : Scene) (s : State) : lockView (setScene sc s) = lockView s := rfl

@[simp] theorem lockView_pedal (body : List Byte) (s : State) : lockView (pedal body s).2 = lockView s := by
  simp only [pedal]
  split
  · rfl
  · split <;> simp

@[simp] theorem lockView_expressionChange (old : List Assign) (sc : Scene) (s : State) :
    lockView (expressionChange old sc s) = lockView s := rfl

@[simp] theorem lockView_writeTempo (ctl : Control) (s : State) : lockView (writeTempo ctl s) = lockView s := by
  obtain ⟨x, hx⟩ := writeTempo_eq_withLanes ctl s
  simp [hx]

@[simp] theorem lockView_tap (s : State) : lockView (tap s).2 = lockView s := by
  simp only [tap]
  split
  · rfl
  · split
    · rfl
    · split <;> simp

@[simp] theorem lockView_tempo (body : List Byte) (s : State) : lockView (tempo body s).2 = lockView s := by
  simp only [tempo]
  split <;> simp

@[simp] theorem lockView_applyPresetTempo (t : Option Nat) (s : State) : lockView (applyPresetTempo t s) = lockView s := by
  unfold applyPresetTempo
  split
  · rfl
  · split <;> simp

/-! ### Output Mixer -/

@[simp] theorem lockView_mixerFrame (roles : PerLane Role) (c : PerLane Contribution) (s : State) :
    lockView (mixerFrame roles c s).1 = lockView s := rfl

@[simp] theorem lockView_mute (body : List Byte) (s : State) : lockView (mute body s).2 = lockView s := by
  simp only [mute]
  split <;> simp

@[simp] theorem lockView_safetyExpiry (s : State) : lockView (safetyExpiry s) = lockView s := by
  simp [safetyExpiry]

@[simp] theorem lockView_setSafetyTimer (v : Nat) (s : State) : lockView (setSafetyTimer v s) = lockView s := by
  simp only [setSafetyTimer]
  split
  · rfl
  · split
    · split <;> simp
    · simp

/-! ### Model Stores -/

@[simp] theorem lockView_putCurve (i : Nat) (r : WaveRec) (s : State) : lockView (putCurve i r s) = lockView s := rfl

@[simp] theorem lockView_putImpulse (i : Nat) (r : WaveRec) (s : State) : lockView (putImpulse i r s) = lockView s := rfl

@[simp] theorem lockView_curveBegin (body : List Byte) (s : State) : lockView (curveBegin body s).2 = lockView s := by
  simp only [curveBegin]
  split
  · rfl
  · split <;> simp

@[simp] theorem lockView_impulseBegin (body : List Byte) (s : State) : lockView (impulseBegin body s).2 = lockView s := by
  simp only [impulseBegin]
  split
  · rfl
  · split <;> simp

@[simp] theorem lockView_curvePut (body : List Byte) (s : State) : lockView (curvePut body s).2 = lockView s := by
  simp only [curvePut]
  split
  · rfl
  · split
    · rfl
    · split <;> simp

@[simp] theorem lockView_impulsePut (body : List Byte) (s : State) : lockView (impulsePut body s).2 = lockView s := by
  simp only [impulsePut]
  split
  · rfl
  · split
    · rfl
    · split <;> simp

@[simp] theorem lockView_putPreset (i : Nat) (r : PresetRec) (s : State) : lockView (putPreset i r s) = lockView s := rfl

@[simp] theorem lockView_markDirty (i : Nat) (s : State) : lockView (markDirty i s) = lockView s := by
  unfold markDirty
  split
  · split <;> simp
  · rfl

@[simp] theorem lockView_presetBegin (body : List Byte) (s : State) : lockView (presetBegin body s).2 = lockView s := by
  simp only [presetBegin]
  split
  · split <;> simp
  · rfl

@[simp] theorem lockView_presetPut (body : List Byte) (s : State) : lockView (presetPut body s).2 = lockView s := by
  simp only [presetPut]
  split
  · rfl
  · split
    · split <;> simp
    · rfl

@[simp] theorem lockView_presetEnd (body : List Byte) (s : State) : lockView (presetEnd body s).2 = lockView s := by
  simp only [presetEnd]
  split
  · rfl
  · split <;> simp

@[simp] theorem lockView_presetErase (body : List Byte) (s : State) : lockView (presetErase body s).2 = lockView s := by
  simp only [presetErase]
  split <;> simp

@[simp] theorem lockView_mapSet (body : List Byte) (s : State) : lockView (mapSet body s).2 = lockView s := by
  simp only [mapSet]
  split <;> simp

@[simp] theorem lockView_pendTrim (v : Nat) (s : State) : lockView (pendTrim v s) = lockView s := rfl

@[simp] theorem lockView_profilePut (body : List Byte) (s : State) : lockView (profilePut body s).2 = lockView s := by
  simp only [profilePut]
  split
  · rfl
  · split
    · rfl
    · split
      · rfl
      · split <;> simp

@[simp] theorem lockView_instrumentSelect (body : List Byte) (s : State) :
    lockView (instrumentSelect body s).2 = lockView s := by
  simp only [instrumentSelect]
  split
  · rfl
  · split <;> simp

/-! ### Scene Engine -/

@[simp] theorem lockView_loadLanes (t : Transition) (sc : Scene) (s : State) : lockView (loadLanes t sc s) = lockView s := by
  unfold loadLanes
  split
  · split <;> simp
  · simp
  · simp

@[simp] theorem lockView_loadStep (t : Transition) (s : State) : lockView (loadStep t s) = lockView s := by
  simp [loadStep]

@[simp] theorem lockView_dipOutEnd (t : Transition) (s : State) : lockView (dipOutEnd t s) = lockView s := by
  simp [dipOutEnd]

@[simp] theorem lockView_enterDipOut (t : Transition) (s : State) : lockView (enterDipOut t s) = lockView s := by
  simp only [enterDipOut]
  split <;> simp

@[simp] theorem lockView_enterPrepare (t : Transition) (x : LaneId) (s : State) :
    lockView (enterPrepare t x s) = lockView s := by
  unfold enterPrepare
  split <;> simp

@[simp] theorem lockView_beginTransition (origin : Link) (i : Nat) (p : Preset) (s : State) :
    lockView (beginTransition origin i p s) = lockView s := by
  simp only [beginTransition]
  split <;> simp

@[simp] theorem lockView_engineGrant (origin : Link) (i : Nat) {s : State} (hs : (lockView s).locked = true) :
    lockView (engineGrant origin i s).2 = lockView s := by
  unfold engineGrant
  split
  · split
    · simp [writeFault_of_locked hs]
    · split <;> simp
  · simp [writeFault_of_locked hs]

@[simp] theorem lockView_engineFrame (s : State) : lockView (engineFrame s) = lockView s := by
  unfold engineFrame
  split
  · split <;> simp
  · rfl

@[simp] theorem lockView_laneIdle (x : LaneId) (s : State) : lockView (laneIdle x s) = lockView s := by
  simp only [laneIdle]
  split
  · split <;> simp
  · simp

@[simp] theorem lockView_carryEdit (sc : Scene) (c : ChainId) (g : Group) (s : State) :
    lockView (carryEdit sc c g s) = lockView s := by
  simp only [carryEdit]
  split <;> simp

@[simp] theorem lockView_edit (body : List Byte) (s : State) : lockView (edit body s).2 = lockView s := by
  simp only [edit]
  split
  · split
    · rfl
    · split
      · rfl
      · split <;> simp
  · rfl

@[simp] theorem lockView_store (body : List Byte) (s : State) : lockView (store body s).2 = lockView s := by
  simp only [store]
  split
  · rfl
  · split <;> simp

/-! ### Tuner -/

@[simp] theorem lockView_handTunerMute (s : State) : lockView (handTunerMute s) = lockView s := by
  simp only [handTunerMute]
  split <;> simp

@[simp] theorem lockView_tunerEngage (body : List Byte) (s : State) : lockView (tunerEngage body s).2 = lockView s := by
  simp only [tunerEngage]
  split <;> simp

@[simp] theorem lockView_tunerOff (s : State) : lockView (tunerOff s) = lockView s := by
  unfold tunerOff
  split <;> simp

@[simp] theorem lockView_tunerRelease (s : State) : lockView (tunerRelease s).2 = lockView s := lockView_tunerOff s

@[simp] theorem lockView_decimatedSample (s : State) : lockView (decimatedSample s) = lockView s := by
  simp only [decimatedSample]
  split <;> simp

@[simp] theorem lockView_tunerStale (s : State) : lockView (tunerStale s) = lockView s := by
  simp [tunerStale]

/-! ### Recall Arbiter -/

@[simp] theorem lockView_windowSet (body : List Byte) (s : State) : lockView (windowSet body s).2 = lockView s := by
  simp only [windowSet]
  split
  · rfl
  · split
    · rfl
    · split <;> simp

/-- A grant writes no fault but to the capture, which is locked. -/
@[simp] theorem lockView_grantRecall (l : Link) (w : Waiting) {s : State} (hs : (lockView s).locked = true) :
    lockView (grantRecall l w s) = lockView s := by
  simp only [grantRecall]
  split <;> split <;> simp [hs]

@[simp] theorem lockView_look (n : Nat) {s : State} (hs : (lockView s).locked = true) : lockView (look n s) = lockView s := by
  induction n generalizing s with
  | zero => rfl
  | succ n ih =>
    unfold look
    split
    · rfl
    · split
      · rfl
      · split
        · rfl
        · simp [ih, hs]

@[simp] theorem lockView_arbiterLook {s : State} (hs : (lockView s).locked = true) :
    lockView (arbiterLook s) = lockView s :=
  lockView_look 3 hs

@[simp] theorem lockView_enterSlot (l : Link) (w : Waiting) {s : State} (hs : (lockView s).locked = true) :
    lockView (enterSlot l w s) = lockView s := by
  simp only [enterSlot]
  split <;> simp [hs]

@[simp] theorem lockView_refuseRecall (l : Link) (byIndex : Bool) (tag : Byte) (r : Result) (f : Option FaultRec) {s : State}
    (hs : (lockView s).locked = true) : lockView (refuseRecall l byIndex tag r f s) = lockView s := by
  unfold refuseRecall
  split <;> simp [writeFault_of_locked hs]

@[simp] theorem lockView_takeRecall (l : Link) (tag : Byte) (body : List Byte) {s : State}
    (hs : (lockView s).locked = true) : lockView (takeRecall l tag body s) = lockView s := by
  simp only [takeRecall]
  split
  · simp [hs]
  · split <;> simp [hs]

@[simp] theorem lockView_takeRecallIndex (l : Link) (tag : Byte) (body : List Byte) {s : State}
    (hs : (lockView s).locked = true) : lockView (takeRecallIndex l tag body s) = lockView s := by
  simp only [takeRecallIndex]
  split
  · simp [hs]
  · split <;> simp [hs]

@[simp] theorem lockView_arbiterCompletion (origin : Link) {s : State} (hs : (lockView s).locked = true) :
    lockView (arbiterCompletion origin s) = lockView s := by
  simp only [arbiterCompletion]
  split
  · split <;> simp [hs]
  · simp [hs]

@[simp] theorem lockView_completeTransition (t : Transition) {s : State} (hs : (lockView s).locked = true) :
    lockView (completeTransition t s) = lockView s := by
  simp [completeTransition, hs]

@[simp] theorem lockView_fadeComplete (t : Transition) {s : State} (hs : (lockView s).locked = true) :
    lockView (fadeComplete t s) = lockView s := by
  simp [fadeComplete, hs]

@[simp] theorem lockView_dipComplete (t : Transition) {s : State} (hs : (lockView s).locked = true) :
    lockView (dipComplete t s) = lockView s := by
  simp [dipComplete, hs]

@[simp] theorem lockView_tenureExpiry {s : State} (hs : (lockView s).locked = true) :
    lockView (tenureExpiry s) = lockView s := by
  simp [tenureExpiry, hs]

/-! ### Bus Protection -/

@[simp] theorem lockView_formRequest (s : State) : lockView (formRequest s) = lockView s := rfl

@[simp] theorem lockView_movePairs (f : ProtClass → Bool) (cond : Bus → ProtClass → Bool) (s : State) :
    lockView (movePairs f cond s) = lockView s := by
  simp only [movePairs]
  split <;> simp

@[simp] theorem lockView_protectionFrame (finished : PerBus Int) (s : State) :
    lockView (protectionFrame finished s) = lockView s := by
  simp [protectionFrame]

@[simp] theorem lockView_dcWindowEnd (s : State) : lockView (dcWindowEnd s) = lockView s := by
  simp [dcWindowEnd]

@[simp] theorem lockView_flagLatch (b : Bus) (c : ProtClass) (s : State) : lockView (flagLatch b c s) = lockView s := by
  simp [flagLatch]

@[simp] theorem lockView_ack (body : List Byte) (s : State) : lockView (ack body s).2 = lockView s := by
  unfold ack
  split <;> simp

@[simp] theorem lockView_force (body : List Byte) (s : State) : lockView (force body s).2 = lockView s := by
  unfold force
  split <;> simp

@[simp] theorem lockView_setTimer (c : ProtClass) (v : Nat) (s : State) : lockView (setTimer c v s) = lockView s := by
  simp [setTimer]

/-! ### Settings and subscriptions -/

@[simp] theorem lockView_putSetting (t : Setting) (v : Nat) (s : State) : lockView (putSetting t v s) = lockView s := by
  cases t <;> simp [putSetting]

@[simp] theorem lockView_setting (t : Setting) (v : Nat) (s : State) : lockView (setting t v s).2 = lockView s := by
  simp only [setting]
  split
  · rfl
  · split <;> simp

@[simp] theorem lockView_subscribe (l : Link) (body : List Byte) (s : State) :
    lockView (subscribe l body s).2 = lockView s := by
  unfold subscribe
  split
  · rfl
  · cases l <;> rfl

/-! ### Audio frames -/

@[simp] theorem lockView_audioFrame (x : Int) (s : State) : lockView (audioFrame x s) = lockView s := by
  simp [audioFrame]

@[simp] theorem lockView_inputFrame (x : Int) (s : State) : lockView (inputFrame x s) = lockView s := by
  simp [inputFrame]

@[simp] theorem lockView_frontEndBoundary (s : State) : lockView (frontEndBoundary s) = lockView s := by
  unfold frontEndBoundary
  split <;> simp

@[simp] theorem lockView_laneBoundary (x : LaneId) (s : State) : lockView (laneBoundary x s) = lockView s := by
  simp only [laneBoundary]
  split <;> simp

end Sys2Proof.Machine

/-! What ends a MAJOR record (R174): an event of the part keeps it or is the soft reset; a row on a link keeps it or is the
CAPTURE_CLEAR; and the obligation on both. -/

namespace Sys2Proof.Machine

/-! ### From one state to the next -/

/-- A soft reset is called for: by the end of the RESET's OK, or by a drop that is due of the closing CREW link. -/
def resetCalled (s : State) : Prop :=
  s.resetDue = true ∨ ((s.link .crew).closing = true ∧ (s.link .crew).dropDue = true)

/-- What a soft reset leaves in the capture (R177). -/
def resetRecord : FaultRec := ⟨.softReset, some .crew, none, none⟩

/-- From s to t nothing comes nearer that could end the record: no soft reset is called for that was not, and no frame of the
CREW link has come to its last byte. -/
structure NoNearerEnd (s t : State) : Prop where
  called : resetCalled t → resetCalled s
  frame : ∀ n bytes, (t.link .crew).rx = .check n bytes → (s.link .crew).rx = .check n bytes

/-- From s to t the record stands, and nothing that could end it comes nearer. -/
structure RecordKept (s t : State) : Prop extends NoNearerEnd s t where
  capture : t.capture = s.capture

/-- From s to t nothing comes nearer that could end the record, but a soft reset that was called for may have replaced it. -/
structure KeptOrReset (s t : State) : Prop extends NoNearerEnd s t where
  capture : t.capture = s.capture ∨ (t.capture = some resetRecord ∧ resetCalled s)

theorem RecordKept.of_lockView {s t : State} (h : lockView t = lockView s) : RecordKept s t := by
  simp only [lockView, LockView.mk.injEq] at h
  obtain ⟨hcapture, hdue, hrx, hclosing, hdrop⟩ := h
  exact ⟨⟨by simp [resetCalled, hdue, hclosing, hdrop], by simp [hrx]⟩, hcapture⟩

theorem NoNearerEnd.trans {s t u : State} (h : NoNearerEnd s t) (h' : NoNearerEnd t u) : NoNearerEnd s u :=
  ⟨h.called ∘ h'.called, fun n bytes => h.frame n bytes ∘ h'.frame n bytes⟩

theorem RecordKept.trans {s t u : State} (h : RecordKept s t) (h' : RecordKept t u) : RecordKept s u :=
  ⟨h.toNoNearerEnd.trans h'.toNoNearerEnd, h'.capture.trans h.capture⟩

theorem RecordKept.refl (s : State) : RecordKept s s := .of_lockView rfl

theorem RecordKept.keptOrReset {s t : State} (h : RecordKept s t) : KeptOrReset s t := ⟨h.toNoNearerEnd, .inl h.capture⟩

theorem KeptOrReset.refl (s : State) : KeptOrReset s s := (RecordKept.refl s).keptOrReset

theorem KeptOrReset.trans {s t u : State} (h : KeptOrReset s t) (h' : KeptOrReset t u) : KeptOrReset s u := by
  refine ⟨h.toNoNearerEnd.trans h'.toNoNearerEnd, ?_⟩
  rcases h'.capture with hsame | ⟨hreset, hcalled⟩
  · rw [hsame]
    exact h.capture
  · exact .inr ⟨hreset, h.called hcalled⟩

/-- The record that a soft reset leaves is MAJOR as well. -/
theorem KeptOrReset.locked {s t : State} (h : KeptOrReset s t) (hs : (lockView s).locked = true) :
    (lockView t).locked = true := by
  rcases h.capture with hsame | ⟨hreset, -⟩
  · simpa [lockView, LockView.locked, hsame] using hs
  · simp [lockView, LockView.locked, hreset, resetRecord, FaultClass.major]

theorem RecordKept.locked {s t : State} (h : RecordKept s t) (hs : (lockView s).locked = true) :
    (lockView t).locked = true :=
  h.keptOrReset.locked hs

/-- Steps that each keep the record or reset do so one after the other. -/
theorem KeptOrReset.foldl {α : Type} {g : State → α → State} {xs : List α} {s : State} (hs : (lockView s).locked = true)
    (hg : ∀ u x, (lockView u).locked = true → KeptOrReset u (g u x)) : KeptOrReset s (xs.foldl g s) := by
  induction xs generalizing s with
  | nil => exact .refl s
  | cons x xs ih => exact (hg s x hs).trans (ih ((hg s x hs).locked hs))

/-! ### What moves a link's receiving side -/

/-- A link may be given another receiving side that is no nearer to a drop while closing, nor to the last byte of a frame. -/
theorem RecordKept.setLink {s : State} {l : Link} {x : LinkIf}
    (hcalled : x.closing = true → x.dropDue = true → (s.link l).closing = true ∧ (s.link l).dropDue = true)
    (hframe : ∀ n bytes, x.rx = .check n bytes → (s.link l).rx = .check n bytes) : RecordKept s (s.setLink l x) := by
  by_cases hl : l = .crew
  · subst hl
    refine ⟨⟨?_, by simpa using hframe⟩, rfl⟩
    rintro (hdue | ⟨hclosing, hdrop⟩)
    · exact .inl hdue
    · rw [State.link_setLink_self] at hclosing hdrop
      exact .inr (hcalled hclosing hdrop)
  · exact .of_lockView (lockView_setLink_of_ne hl s x)

theorem recordKept_setReceiver {l : Link} {r : Receiver} {s : State} (hr : ∀ n bytes, r ≠ .check n bytes) :
    RecordKept s (setReceiver l r s) :=
  .setLink (fun hclosing hdrop => ⟨hclosing, hdrop⟩) (fun n bytes h => absurd h (hr n bytes))

theorem recordKept_discard (l : Link) (cause : DiscardCause) {s : State} (hs : (lockView s).locked = true) :
    RecordKept s (discard l cause s) := by
  have hset : RecordKept s (s.setLink l { s.link l with rx := .hunt, gap := 0, cause := some cause }) :=
    .setLink (fun hclosing hdrop => ⟨hclosing, hdrop⟩) (fun n bytes h => by cases h)
  refine hset.trans (.of_lockView ?_)
  rw [discard, writeFault_of_locked, lockView_raiseLinkNotice]
  rw [lockView_raiseLinkNotice]
  exact hset.locked hs

theorem recordKept_breakEnd (l : Link) {s : State} (hs : (lockView s).locked = true) : RecordKept s (breakEnd l s) := by
  simp only [breakEnd]
  split
  · have hset : RecordKept s (s.setLink l
        { s.link l with lineLow := false, breakPartial := false, breakCount := 0, breakJudged := false }) :=
      .setLink (fun _ hdrop => by simp [LinkIf.dropDue] at hdrop) (fun n bytes h => h)
    split
    · exact hset.trans (recordKept_discard l .badFrame (hset.locked hs))
    · exact hset
  · exact .refl s

theorem recordKept_lineUp (l : Link) {s : State} (hs : (lockView s).locked = true) : RecordKept s (lineUp l s) := by
  unfold lineUp
  split
  · exact (recordKept_breakEnd l hs).trans (.of_lockView (lockView_pump _))
  · exact .refl s

/-! ### The part's own events -/

/-- After a soft reset nothing is left of what called for it, nor of a frame in assembly (R206). -/
theorem keptOrReset_softReset {s : State} (h : resetCalled s) (t : State) : KeptOrReset s (softReset t) where
  called := by simp [resetCalled, softReset, LinkIf.softReset, LinkIf.initial, State.link]
  frame := by simp [softReset, LinkIf.softReset, LinkIf.initial, State.link]
  capture := .inr ⟨rfl, h⟩

/-- The link of a drop after it, short of the soft reset of step 5 (R203). -/
def LinkIf.dropped (x : LinkIf) : LinkIf :=
  { x with rx := .hunt, gap := 0, reserved := 0, queue := x.keptQueue, flags := .none, breakJudged := true }

theorem linkDrop_eq (l : Link) (s : State) :
    linkDrop l s =
      if l = .crew ∧ (s.link l).closing = true then
        softReset ((s.setLink l (s.link l).dropped).withArbiter (s.arbiter.drop l))
      else (s.setLink l (s.link l).dropped).withArbiter (s.arbiter.drop l) := by
  simp [linkDrop, LinkIf.dropped]

theorem linkDrop_capture_of_ne {l : Link} (hl : l ≠ .crew) (s : State) : (linkDrop l s).capture = s.capture := by
  simp [linkDrop_eq, hl]

theorem keptOrReset_linkDrop {l : Link} {s : State} (hdue : (s.link l).dropDue = true) : KeptOrReset s (linkDrop l s) := by
  rw [linkDrop_eq]
  split
  · next hclosing =>
    obtain ⟨rfl, hclosing⟩ := hclosing
    exact keptOrReset_softReset (.inr ⟨hclosing, hdue⟩) _
  · have hdropped : RecordKept s (s.setLink l (s.link l).dropped) :=
      .setLink (fun _ hdrop => by simp [LinkIf.dropDue, LinkIf.dropped] at hdrop) (fun n bytes h => by cases h)
    exact (hdropped.trans (.of_lockView (lockView_withArbiter ..))).keptOrReset

theorem lockView_onTransition {f : Transition → State → State} {s : State} (hf : ∀ t, lockView (f t s) = lockView s) :
    lockView (onTransition f s) = lockView s := by
  unfold onTransition
  split
  · exact hf _
  · rfl

/-- Of the part's own events only a discard, a drop and the soft reset are seen in what the lock hangs on. -/
theorem keptOrReset_effect {e : Event} {s : State} (hs : (lockView s).locked = true) (hdue : due e s = true) :
    KeptOrReset s (effect e s) := by
  cases e
  case gapTimeout l => exact (recordKept_discard l .badFrame hs).keptOrReset
  case linkDrop l => exact keptOrReset_linkDrop hdue
  case softReset => exact keptOrReset_softReset (.inl hdue) s
  all_goals refine (RecordKept.of_lockView ?_).keptOrReset
  case dcWindowEnd => exact lockView_dcWindowEnd s
  case flagLatch b c => exact lockView_flagLatch b c s
  case decimatedSample => exact lockView_decimatedSample s
  case tunerStale => exact lockView_tunerStale s
  case tailTimerExpiry x => exact lockView_setLane ..
  case tailFloorEnd x => exact lockView_laneIdle x s
  case cutEnd x => exact lockView_laneIdle x s
  case dipOutEnd => exact lockView_onTransition (fun t => lockView_dipOutEnd t s)
  case fadeComplete => exact lockView_onTransition (fun t => lockView_fadeComplete t hs)
  case dipComplete => exact lockView_onTransition (fun t => lockView_dipComplete t hs)
  case safetyTimerExpiry => exact lockView_safetyExpiry s
  case tenureExpiry => exact lockView_tenureExpiry hs

theorem keptOrReset_happen (e : Event) {s : State} (hs : (lockView s).locked = true) : KeptOrReset s (happen e s) := by
  unfold happen
  split
  · next hdue => exact (keptOrReset_effect hs hdue).trans (RecordKept.of_lockView (lockView_pump _)).keptOrReset
  · exact .refl s

theorem keptOrReset_settle {s : State} (hs : (lockView s).locked = true) : KeptOrReset s (settle s) :=
  .foldl hs (fun _ e hu => keptOrReset_happen e hu)

theorem keptOrReset_takeDrops (s : State) {t : State} (ht : (lockView t).locked = true) : KeptOrReset t (takeDrops s t) := by
  unfold takeDrops
  split
  · refine .foldl ht (fun u l hu => ?_)
    split
    · exact keptOrReset_happen (.linkDrop l) hu
    · exact .refl u
  · exact .refl t

theorem happen_linkDrop_capture_of_ne {l : Link} (hl : l ≠ .crew) (s : State) :
    (happen (.linkDrop l) s).capture = s.capture := by
  unfold happen
  split
  · exact linkDrop_capture_of_ne hl s
  · rfl

/-- Drops of the other two links leave the capture as it is, whatever it holds. -/
theorem takeDrops_capture {s : State} (hcrew : due (.linkDrop .crew) s = false) (t : State) :
    (takeDrops s t).capture = t.capture := by
  have hskip (l : Link) (u : State) :
      (if due (.linkDrop l) s = true then happen (.linkDrop l) u else u).capture = u.capture := by
    split
    · next hdue =>
      have hl : l ≠ .crew := by
        rintro rfl
        simp [hcrew] at hdue
      exact happen_linkDrop_capture_of_ne hl u
    · rfl
  unfold takeDrops
  split
  · simp only [List.foldl_cons, List.foldl_nil, hskip]
  · rfl

/-- Where a row of the CREW link finds nothing due but drops of other links, its own is not due. -/
theorem due_linkDrop_of_dropsAlone {l : Link} {s : State} (h : dropsAlone (some l) s = true) :
    due (.linkDrop l) s = false := by
  have hmem : Event.linkDrop l ∈ events := by cases l <;> decide
  simpa [Event.dropElsewhere] using List.all_eq_true.mp h _ hmem

/-! ### Rows -/

/-- How the record fares from s to t: it stands, or a soft reset that was called for has replaced it, or it has been cleared. -/
def recordFares (cleared : Prop) (s t : State) : Prop :=
  t.capture = s.capture ∨ (t.capture = some resetRecord ∧ resetCalled s) ∨ (t.capture = none ∧ cleared)

/-- What a row on link l itself does from s to t: it keeps the record and brings its end no nearer; or the link is CREW, and
the record stands or has been cleared. -/
def rowKeeps (l : Link) (cleared : Prop) (s t : State) : Prop :=
  RecordKept s t ∨ (l = .crew ∧ (t.capture = s.capture ∨ (t.capture = none ∧ cleared)))

theorem KeptOrReset.fares {s t : State} (h : KeptOrReset s t) (cleared : Prop) : recordFares cleared s t :=
  h.capture.imp_right .inl

/-- What is due is taken, then comes a row by which the record stands or is cleared. -/
theorem KeptOrReset.fares_of_capture {cleared : Prop} {s u t : State} (h : KeptOrReset s u)
    (ht : t.capture = u.capture ∨ (t.capture = none ∧ cleared)) : recordFares cleared s t := by
  rcases ht with hsame | hcleared
  · rw [recordFares, hsame]
    exact h.capture.imp_right .inl
  · exact .inr (.inr hcleared)

theorem rowKeeps.capture {l : Link} {cleared : Prop} {s t : State} (h : rowKeeps l cleared s t) :
    t.capture = s.capture ∨ (t.capture = none ∧ cleared) :=
  h.elim (fun hkept => .inl hkept.capture) (fun hcrew => hcrew.2)

theorem rowKeeps.mono {l : Link} {p q : Prop} {s t : State} (h : rowKeeps l p s t) (hpq : p → q) : rowKeeps l q s t :=
  h.imp_right (.imp_right (.imp_right (.imp_right hpq)))

theorem RecordKept.trans_rowKeeps {l : Link} {cleared : Prop} {s t u : State} (h : RecordKept s t)
    (h' : rowKeeps l cleared t u) : rowKeeps l cleared s u := by
  rcases h' with hkept | ⟨hcrew, hcapture⟩
  · exact .inl (h.trans hkept)
  · rw [h.capture] at hcapture
    exact .inr ⟨hcrew, hcapture⟩

theorem recordFares_outside {f : State → State} {s : State} (hs : (lockView s).locked = true)
    (hf : ∀ u, (f u).capture = u.capture) : recordFares False s (outside f s) :=
  (keptOrReset_settle hs).fares_of_capture (.inl (hf _))

theorem recordFares_beside_none {f : State → State} {s : State} (hs : (lockView s).locked = true)
    (hf : ∀ u, lockView (f u) = lockView u) : recordFares False s (beside none f s) := by
  have hkept (u : State) : KeptOrReset u (pump (f u)) := (RecordKept.of_lockView ((lockView_pump _).trans (hf u))).keptOrReset
  unfold beside
  split
  · exact ((hkept s).trans (keptOrReset_takeDrops s ((hkept s).locked hs))).fares False
  · exact ((keptOrReset_settle hs).trans (hkept _)).fares False

/-- A row on a link: drops of other links come after it, and of these only a drop of the closing CREW link can end the record,
which then called for the soft reset from the first. -/
theorem recordFares_beside {l : Link} {cleared : Prop} {f : State → State} {s : State} (hs : (lockView s).locked = true)
    (hf : ∀ u, (lockView u).locked = true → KeptOrReset s u → rowKeeps l cleared u (f u)) :
    recordFares cleared s (beside (some l) f s) := by
  unfold beside
  split
  · next halone =>
    rcases hf s hs (.refl s) with hkept | ⟨rfl, hcapture⟩
    · have hpumped : RecordKept s (pump (f s)) := hkept.trans (.of_lockView (lockView_pump _))
      exact (hpumped.keptOrReset.trans (keptOrReset_takeDrops s (hpumped.locked hs))).fares cleared
    · refine (KeptOrReset.refl s).fares_of_capture ?_
      rw [takeDrops_capture (due_linkDrop_of_dropsAlone halone), pump_capture]
      exact hcapture
  · have hsettled := keptOrReset_settle hs
    exact hsettled.fares_of_capture (hf _ (hsettled.locked hs) hsettled).capture

/-! ### Requests -/

/-- No owner but those of CAPTURE_CLEAR and RESET touches what the lock hangs on. -/
theorem lockView_deliver {t : ReqType} (hclear : t ≠ .captureClear) (hreset : t ≠ .reset) (l : Link) (body : List Byte)
    (s : State) : lockView (deliver t l body s).2 = lockView s := by
  cases t
  case captureClear => exact absurd rfl hclear
  case reset => exact absurd rfl hreset
  case setting =>
    simp only [deliver]
    split <;> simp
  all_goals simp [deliver]

theorem lockView_carryOut {t : ReqType} (hclear : t ≠ .captureClear) (hreset : t ≠ .reset) (l : Link) (tag : Byte)
    (body : List Byte) {s : State} (hs : (lockView s).locked = true) :
    lockView (carryOut t l tag body s) = lockView s := by
  have howner := lockView_deliver hclear hreset l body s
  cases t
  · exact lockView_takeRecall l tag body hs
  case recallIndex => exact lockView_takeRecallIndex l tag body hs
  case query => exact lockView_queueMessage ..
  all_goals exact (lockView_respond ..).trans howner

/-- The CREW link alone may clear the capture or reset the part (R196). -/
theorem crew_of_permitted {t : ReqType} {l : Link} (ht : t = .captureClear ∨ t = .reset) (h : t.permitted l = true) :
    l = .crew := by
  rcases ht with rfl | rfl <;> cases l <;> simp [ReqType.permitted] at h ⊢

theorem lengthOk_captureClear {n : Nat} : ReqType.lengthOk .captureClear n = true ↔ n = 0 := by
  simp [ReqType.lengthOk, ReqType.bodyRange]

theorem rowKeeps_checkRequest (t : ReqType) (l : Link) (tag : Byte) (body : List Byte) {s : State}
    (hs : (lockView s).locked = true) :
    rowKeeps l (l = .crew ∧ t = .captureClear ∧ body = []) s (checkRequest t l tag body s) := by
  unfold checkRequest
  split
  · exact .inl (.of_lockView (lockView_respond ..))
  · next hpermitted =>
    split
    · exact .inl (.of_lockView (lockView_respond ..))
    · next hlength =>
      simp only [Bool.not_eq_true', Bool.not_eq_false] at hpermitted hlength
      by_cases hclear : t = .captureClear
      · have hcrew := crew_of_permitted (.inl hclear) hpermitted
        subst hclear
        exact .inr ⟨hcrew, .inr ⟨rfl, hcrew, rfl, List.length_eq_zero_iff.mp (lengthOk_captureClear.mp hlength)⟩⟩
      · by_cases hreset : t = .reset
        · have hcrew := crew_of_permitted (.inr hreset) hpermitted
          subst hreset
          exact .inr ⟨hcrew, .inl rfl⟩
        · exact .inl (.of_lockView (lockView_carryOut hclear hreset l tag body hs))

/-- A frame that is not accepted is discarded; one that is has a tag and is carried out with a slot reserved. -/
theorem rowKeeps_acceptance {l : Link} {tag : Byte} {body : List Byte} {carry : State → State} {cleared : Prop} {s : State}
    (hs : (lockView s).locked = true) (hcarry : ∀ u, (lockView u).locked = true → rowKeeps l cleared u (carry u)) :
    rowKeeps l (tag ≠ 0 ∧ cleared) s (acceptance l tag body carry s) := by
  unfold acceptance
  split
  · exact .inl (recordKept_discard l _ hs)
  · split
    · exact .inl (recordKept_discard l _ hs)
    · next htag =>
      split
      · exact .inl (recordKept_discard l _ hs)
      · have hreserved : RecordKept s (reserveSlot l s) := .of_lockView (lockView_reserveSlot l s)
        refine hreserved.trans_rowKeeps ?_
        exact (hcarry _ (hreserved.locked hs)).mono (⟨htag, ·⟩)

/-! ### Frames and bytes -/

theorem recordFares_frameArrives {l : Link} {cleared : Prop} {f : State → State} {s : State}
    (hs : (lockView s).locked = true) (hf : ∀ u, (lockView u).locked = true → rowKeeps l cleared u (f u)) :
    recordFares cleared s (frameArrives l f s) := by
  refine recordFares_beside hs (fun u hu _ => ?_)
  have hline := recordKept_lineUp l hu
  refine hline.trans_rowKeeps ?_
  dsimp only
  split
  · exact .inl (.refl _)
  · have hhunt : RecordKept (lineUp l u) (setReceiver l .hunt (lineUp l u)) := recordKept_setReceiver (by simp)
    exact hhunt.trans_rowKeeps (hf _ (hhunt.locked (hline.locked hu)))

/-- The row discards as OVERRUN or does nothing. -/
theorem rowKeeps_overrunCheck (l : Link) {s : State} (hs : (lockView s).locked = true) :
    rowKeeps l False s (overrunCheck l s) := by
  unfold overrunCheck
  split
  · exact .inl (recordKept_discard l .overrun hs)
  · exact .inl (.refl s)

/-- Whether a byte completes a CAPTURE_CLEAR: TYPE 55 hexadecimal, a tag, no body, and a sum that is a multiple of 256 (R188). -/
def completesClear (b : Byte) (rx : Receiver) : Prop :=
  ∃ (tag : Byte) (n : Nat), rx = .check n [0x55, tag] ∧ tag ≠ 0 ∧ (n + 0x55 + tag.toNat + b.toNat) % 256 = 0

theorem code_of_reqTypeOf {b : Byte} {t : ReqType} (h : reqTypeOf b = some t) : t.code = b := by
  simpa using List.find?_some h

theorem rowKeeps_acceptFrame (l : Link) (type tag : Byte) (body : List Byte) {s : State} (hs : (lockView s).locked = true) :
    rowKeeps l (tag ≠ 0 ∧ l = .crew ∧ type = 0x55 ∧ body = []) s (acceptFrame l type tag body s) := by
  refine rowKeeps_acceptance hs (fun u hu => ?_)
  split
  · next t ht =>
    refine (rowKeeps_checkRequest t l tag body hu).mono ?_
    rintro ⟨hcrew, rfl, hbody⟩
    exact ⟨hcrew, (code_of_reqTypeOf ht).symm, hbody⟩
  · exact .inl (.of_lockView (lockView_unknownType ..))

theorem rowKeeps_setReceiver (l : Link) (r : Receiver) (cleared : Prop) (s : State) :
    rowKeeps l cleared s (setReceiver l r s) := by
  by_cases hl : l = .crew
  · exact .inr ⟨hl, .inl rfl⟩
  · exact .inl (.of_lockView (lockView_setLink_of_ne hl s _))

theorem rowKeeps_receive (l : Link) (b : Byte) {s : State} (hs : (lockView s).locked = true) :
    rowKeeps l (l = .crew ∧ completesClear b (s.link l).rx) s (receive l b s) := by
  unfold receive
  split
  · split
    · exact rowKeeps_setReceiver ..
    · exact .inl (.refl s)
  · split
    · exact rowKeeps_setReceiver ..
    · exact .inl (recordKept_discard l _ hs)
  · dsimp only
    split <;> exact rowKeeps_setReceiver ..
  · next len bytes hrx =>
    have hhunt : RecordKept s (setReceiver l .hunt s) := recordKept_setReceiver (by simp)
    split
    · next hsum =>
      split
      · next type tag body =>
        refine hhunt.trans_rowKeeps ((rowKeeps_acceptFrame l type tag body (hhunt.locked hs)).mono ?_)
        rintro ⟨htag, hcrew, rfl, rfl⟩
        refine ⟨hcrew, tag, len, hrx, htag, ?_⟩
        simpa [frameSum, Nat.add_assoc] using hsum
      · exact .inl hhunt
    · exact .inl (recordKept_discard l _ hs)

/-- The byte that completes a CAPTURE_CLEAR finds the frame in assembly as it stood before anything due was taken. -/
theorem recordFares_byteArrives (l : Link) (b : Byte) {s : State} (hs : (lockView s).locked = true) :
    recordFares (l = .crew ∧ completesClear b (s.link l).rx) s (byteArrives l b s) := by
  refine recordFares_beside hs (fun u hu hsettled => ?_)
  have hline := recordKept_lineUp l hu
  refine hline.trans_rowKeeps ?_
  dsimp only
  split
  · exact .inl (.refl _)
  · refine (rowKeeps_receive l b (hline.locked hu)).mono ?_
    rintro ⟨rfl, tag, n, hrx, hsum⟩
    exact ⟨rfl, tag, n, hsettled.frame _ _ (hline.frame _ _ hrx), hsum⟩

theorem recordFares_requestArrives (t : ReqType) (l : Link) (tag : Byte) (body : List Byte) {s : State}
    (hs : (lockView s).locked = true) :
    recordFares (tag ≠ 0 ∧ l = .crew ∧ t = .captureClear ∧ body = []) s (requestArrives t l tag body s) :=
  recordFares_frameArrives hs (fun _ hu => rowKeeps_acceptance hu (fun _ hv => rowKeeps_checkRequest t l tag body hv))

theorem recordFares_settingArrives (t : Setting) (l : Link) (tag : Byte) (value : BitVec 24) {s : State}
    (hs : (lockView s).locked = true) : recordFares (tag ≠ 0 ∧ False) s (settingArrives t l tag value s) := by
  refine recordFares_frameArrives hs (fun _ hu => rowKeeps_acceptance hu (fun v _ => .inl (.of_lockView ?_)))
  dsimp only
  split <;> simp

theorem recordFares_queryArrives (it : Item) (l : Link) (tag part : Byte) (args : List Byte) {s : State}
    (hs : (lockView s).locked = true) : recordFares (tag ≠ 0 ∧ False) s (queryArrives it l tag part args s) := by
  refine recordFares_frameArrives hs (fun _ hu => rowKeeps_acceptance hu (fun v _ => .inl (.of_lockView ?_)))
  dsimp only
  split <;> simp

theorem recordFares_unknownRequest (l : Link) (type tag : Byte) (body : List Byte) {s : State}
    (hs : (lockView s).locked = true) :
    recordFares (tag ≠ 0 ∧ False) s
      (if (reqTypeOf type).isSome then settle s else frameArrives l (acceptance l tag body (unknownType l tag)) s) := by
  split
  · exact (keptOrReset_settle hs).fares _
  · exact recordFares_frameArrives hs
      (fun _ hu => rowKeeps_acceptance hu (fun _ _ => .inl (.of_lockView (lockView_unknownType ..))))

/-! ### Every command -/

/-- Whether a command clears the capture: a CAPTURE_CLEAR of the CREW link, or the byte that completes one. -/
def clearsCapture (c : Instr) (s : State) : Prop :=
  (∃ tag, c = .captureClear .crew tag [] ∧ tag ≠ 0) ∨
    ∃ b, c = .byteReceived .crew b ∧ completesClear b (s.link .crew).rx

/-- A command other than POWER_ON ends in a state in which the record has fared so. -/
def faresUnder (c : Instr) (s : State) : Prop := ∃ t, exec c s = .next t ∧ recordFares (clearsCapture c s) s t

theorem recordFares.mono {p q : Prop} {s t : State} (h : recordFares p s t) (hpq : p → q) : recordFares q s t :=
  h.imp_right (.imp_right (.imp_right hpq))

/-- A row that can clear nothing. -/
theorem faresUnder_of_never {c : Instr} {never : Prop} {s t : State} (hexec : exec c s = .next t) (h : recordFares never s t)
    (hnever : ¬never) : faresUnder c s :=
  ⟨t, hexec, h.mono (absurd · hnever)⟩

theorem faresUnder_of_happen {c : Instr} {e : Event} {s : State} (hs : (lockView s).locked = true)
    (hexec : exec c s = .next (happen e s)) : faresUnder c s :=
  faresUnder_of_never hexec ((keptOrReset_happen e hs).fares False) id

theorem faresUnder_of_outside {c : Instr} {f : State → State} {s : State} (hs : (lockView s).locked = true)
    (hexec : exec c s = .next (outside f s)) (hf : ∀ u, (f u).capture = u.capture) : faresUnder c s :=
  faresUnder_of_never hexec (recordFares_outside hs hf) id

theorem faresUnder_of_frameArrives {c : Instr} {l : Link} {f : State → State} {s : State} (hs : (lockView s).locked = true)
    (hexec : exec c s = .next (frameArrives l f s))
    (hf : ∀ u, (lockView u).locked = true → rowKeeps l False u (f u)) : faresUnder c s :=
  faresUnder_of_never hexec (recordFares_frameArrives hs hf) id

theorem faresUnder_of_requestArrives {c : Instr} {t : ReqType} {l : Link} {tag : Byte} {body : List Byte} {s : State}
    (hs : (lockView s).locked = true) (hexec : exec c s = .next (requestArrives t l tag body s)) (ht : t ≠ .captureClear) :
    faresUnder c s :=
  faresUnder_of_never hexec (recordFares_requestArrives t l tag body hs) (fun h => ht h.2.2.1)

theorem faresUnder_of_settingArrives {c : Instr} {t : Setting} {l : Link} {tag : Byte} {value : BitVec 24} {s : State}
    (hs : (lockView s).locked = true) (hexec : exec c s = .next (settingArrives t l tag value s)) : faresUnder c s :=
  faresUnder_of_never hexec (recordFares_settingArrives t l tag value hs) And.right

theorem faresUnder_of_queryArrives {c : Instr} {it : Item} {l : Link} {tag part : Byte} {args : List Byte} {s : State}
    (hs : (lockView s).locked = true) (hexec : exec c s = .next (queryArrives it l tag part args s)) : faresUnder c s :=
  faresUnder_of_never hexec (recordFares_queryArrives it l tag part args hs) And.right

theorem messageEnds_capture (l : Link) (s : State) : (messageEnds l s).capture = s.capture := by
  simp only [messageEnds]
  split
  · rfl
  · rfl
  · split <;> rfl

theorem breakBegins_capture (l : Link) (s : State) : (breakBegins l s).capture = s.capture := by
  unfold breakBegins
  split <;> rfl

/-- The lock: how a MAJOR record fares under each row of the table but POWER_ON. -/
theorem faresUnder_of_ne_powerOn {c : Instr} {s : State} (hs : (lockView s).locked = true) (hc : c ≠ .powerOn) :
    faresUnder c s := by
  cases c
  case powerOn => exact absurd rfl hc
  case inputFrame => exact faresUnder_of_never rfl (recordFares_beside_none hs (lockView_inputFrame _)) id
  case ifeBlockBoundary =>
    exact faresUnder_of_outside hs rfl (fun u => congrArg LockView.capture (lockView_frontEndBoundary u))
  case laneBlockBoundary lane =>
    exact faresUnder_of_outside hs rfl (fun u => congrArg LockView.capture (lockView_laneBoundary lane u))
  case dcWindowEnd | flagLatch | decimatedSample | tunerStale | fadeComplete | dipOutEnd | dipComplete | tailTimerExpiry
      | tailFloorEnd | cutEnd | tenureExpiry | safetyTimerExpiry | gapTimeout | linkDrop | softReset =>
    exact faresUnder_of_happen hs rfl
  case breakEnd l =>
    exact faresUnder_of_never rfl (recordFares_beside hs (fun _ hu _ => .inl (recordKept_breakEnd l hu))) id
  case badFrame l => exact faresUnder_of_frameArrives hs rfl (fun _ hu => .inl (recordKept_discard l .badFrame hu))
  case badCheck l => exact faresUnder_of_frameArrives hs rfl (fun _ hu => .inl (recordKept_discard l .badCheck hu))
  case overrun l => exact faresUnder_of_frameArrives hs rfl (fun _ hu => rowKeeps_overrunCheck l hu)
  case unknownRequest l type tag body =>
    exact faresUnder_of_never rfl (recordFares_unknownRequest l type tag body hs) And.right
  case messageSent l => exact faresUnder_of_outside hs rfl (messageEnds_capture l)
  case breakBegins l => exact faresUnder_of_outside hs rfl (breakBegins_capture l)
  case controlMillisecond => exact faresUnder_of_outside hs rfl (fun _ => rfl)
  case byteReceived l b =>
    refine ⟨_, rfl, (recordFares_byteArrives l b hs).mono ?_⟩
    rintro ⟨rfl, hcompletes⟩
    exact .inr ⟨b, rfl, hcompletes⟩
  case captureClear l tag body =>
    refine ⟨_, rfl, (recordFares_requestArrives .captureClear l tag body hs).mono ?_⟩
    rintro ⟨htag, rfl, -, rfl⟩
    exact .inl ⟨tag, rfl, htag⟩
  case settingPresenceFloor | settingTenure | settingReferencePitch | settingHysteresis | settingWIn | settingWNear
      | settingTunerMuteSet | settingSafetyTimer | settingAttenuation | settingOverThreshold | settingDcThreshold
      | settingLossFloor | settingTOver | settingTDc | settingTLoss =>
    exact faresUnder_of_settingArrives hs rfl
  case queryWorkingSceneGroup | queryLibraryGroup | queryStoreRecordState | queryMapEntry | queryProfile | queryActiveProfile
      | queryWindow | queryTempo | queryTuner | queryMute | queryProtectionFlags | queryCapture | queryLaneStates
      | querySetting | queryLink =>
    exact faresUnder_of_queryArrives hs rfl
  -- the rows that stay are requests of the types other than CAPTURE_CLEAR, SETTING and QUERY
  all_goals exact faresUnder_of_requestArrives hs rfl (by decide)

/-! ### The claim's terms -/

theorem LinkIf.dropDue_iff (x : LinkIf) :
    x.dropDue = true ↔ x.lineLow = true ∧ 10 ≤ x.breakCount ∧ x.breakJudged = false := by
  rw [LinkIf.dropDue, Bool.and_eq_true, Bool.and_eq_true, decide_eq_true_eq, Bool.not_eq_true', and_assoc]
  rfl

end Sys2Proof.Machine

namespace Sys2Proof.FaultCapture

open Sys2Proof.Machine

/-- Settles O9: the table by `captureTakes_iff`; the lock by what every row but POWER_ON does to a MAJOR record. -/
theorem majorRecordIsLocked : Obligations.MajorRecordIsLocked := by
  refine ⟨?table, ?lock⟩
  case table =>
    intro r s major taken
    have htaken : captureTakes s.capture r = true ↔ taken := by
      simp only [captureTakes_iff, FaultClass.major_iff, taken, major]
    refine ⟨fun h => ⟨?_, fun k n => ?_⟩, fun h => ?_, changesOnly_writeFault r s,
      fun k => ⟨writeFault_link_core r s k, writeFault_link_tx r s k⟩⟩
    · rw [writeFault_capture, if_pos (htaken.mpr h)]
    · rw [writeFault_link, if_pos (htaken.mpr h), LinkIf.raised_has]
      cases n <;> rfl
    · exact writeFault_of_not_taken (by simpa [← htaken] using h)
  case lock =>
    intro c s t hlocked hexec crew
    rw [captureLocked_eq_locked] at hlocked
    by_cases hc : c = .powerOn
    · subst hc
      cases hexec
      exact .inr (.inr (.inr ⟨rfl, rfl⟩))
    · obtain ⟨u, hu, hfares⟩ := faresUnder_of_ne_powerOn hlocked hc
      cases hexec.symm.trans hu
      rcases hfares with hsame | ⟨hreset, hcalled⟩ | ⟨hnone, htag | ⟨b, hrow, tag, n, hbyte⟩⟩
      · exact .inl hsame
      · rw [resetCalled, LinkIf.dropDue_iff] at hcalled
        exact .inr (.inl ⟨hreset, hcalled⟩)
      · exact .inr (.inr (.inl ⟨hnone, .inl htag⟩))
      · exact .inr (.inr (.inl ⟨hnone, .inr ⟨b, tag, n, hrow, hbyte⟩⟩))

end Sys2Proof.FaultCapture

/-! What arrives on a link (R187 to R196): the discards and what they report, the frames that are accepted or find no free
slot, the tables of the requests and results; and the two obligations on them. -/

namespace Sys2Proof.Machine

/-! ### Discards (R191) -/

/-- Of two writes of one link the second stands. -/
theorem State.setLink_setLink (s : State) (l : Link) (x y : LinkIf) : (s.setLink l x).setLink l y = s.setLink l y := by
  cases l <;> rfl

/-- A discard overwrites the receiver's state, whatever it was. -/
theorem discard_setReceiver (l : Link) (cause : DiscardCause) (r : Receiver) (s : State) :
    discard l cause (setReceiver l r s) = discard l cause s := by
  simp only [discard, setReceiver, State.link_setLink_self, State.setLink_setLink]

/-- The fault of a discard is MINOR (R173), so an empty capture alone takes it (R174). -/
theorem captureTakes_discard (held : Option FaultRec) (cause : DiscardCause) (l : Link) :
    captureTakes held ⟨cause.faultClass, some l, none, none⟩ = held.isNone := by
  cases held with
  | none => rfl
  | some old => cases cause <;> rfl

/-- The receiving side of a link after a discard. -/
def LinkIf.discarded (x : LinkIf) (cause : DiscardCause) : LinkIf := { x with rx := .hunt, gap := 0, cause := some cause }

/-- The link of a discard after it: LINK is raised, and FAULT where the capture was empty. -/
theorem discard_link_self (l : Link) (cause : DiscardCause) (s : State) :
    (discard l cause s).link l =
      if s.capture.isNone then (((s.link l).discarded cause).raised .link).raised .fault
      else ((s.link l).discarded cause).raised .link := by
  simp only [discard, writeFault_link, captureTakes_discard, State.setLink_capture,
    raiseLinkNotice, State.link_setLink_self]
  rfl

/-- Another link after a discard: FAULT is raised where the capture was empty. -/
theorem discard_link_of_ne {l k : Link} (hk : k ≠ l) (cause : DiscardCause) (s : State) :
    (discard l cause s).link k = if s.capture.isNone then (s.link k).raised .fault else s.link k := by
  simp only [discard, writeFault_link, captureTakes_discard, State.setLink_capture,
    raiseLinkNotice, State.link_setLink_other _ _ hk]

theorem discard_link_core_self (l : Link) (cause : DiscardCause) (s : State) :
    ((discard l cause s).link l).core = ((s.link l).discarded cause).core := by
  rw [discard_link_self]
  split <;> simp

theorem discard_link_core_of_ne {l k : Link} (hk : k ≠ l) (cause : DiscardCause) (s : State) :
    ((discard l cause s).link k).core = (s.link k).core := by
  rw [discard_link_of_ne hk]
  split <;> simp

theorem discard_capture (l : Link) (cause : DiscardCause) (s : State) :
    (discard l cause s).capture =
      if s.capture = none then some ⟨cause.faultClass, some l, none, none⟩ else s.capture := by
  simp only [discard, writeFault_capture, captureTakes_discard, raiseLinkNotice_capture,
    State.setLink_capture, Option.isNone_iff_eq_none]

theorem changesOnly_discard (l : Link) (cause : DiscardCause) (s : State) :
    changesOnly [.links, .capture] s (discard l cause s) := by
  intro b hb
  cases b
  case links | capture => simp at hb
  all_goals simp [Block.same, discard]

/-- What a discard raises: LINK on its own link, and FAULT on every link where the fault fills the capture. -/
def discardRaises (l : Link) (s : State) : Link → NoticeClass → Bool :=
  fun k n => (k == l && n == .link) || (n == .fault && s.capture.isNone)

theorem raises_discard (l : Link) (cause : DiscardCause) (s : State) :
    raises (discardRaises l s) s (discard l cause s) := by
  intro k
  by_cases hk : k = l
  · subst hk
    rw [discard_link_self]
    cases hcapture : s.capture <;>
      simp [discardRaises, hcapture, LinkIf.raised_has, LinkIf.discarded, Bool.or_assoc, Bool.and_or_distrib_right]
  · rw [discard_link_of_ne hk]
    have hkl : (k == l) = false := beq_eq_false_iff_ne.mpr hk
    cases hcapture : s.capture <;> simp [discardRaises, hcapture, LinkIf.raised_has, hkl]

/-- The choice of the transmitters adds no part to those a step changes, once the links are among them. -/
theorem changesOnly_pump {bs : List Block} {s t : State} (h : changesOnly (.links :: bs) s t) :
    changesOnly (.links :: bs) s (pump t) := by
  intro b hb
  have hsame := h b hb
  cases b
  case links => exact absurd List.mem_cons_self hb
  all_goals exact hsame

/-! ### Frames that find no free slot (R193) -/

theorem overrunCheck_of_full {l : Link} {s : State} (h : 8 ≤ (s.link l).reserved + (s.link l).queue.length) :
    overrunCheck l s = discard l .overrun s :=
  if_pos h

/-- OVERRUN on a link whose slots are taken. -/
theorem frameArrives_overrunCheck_of_full {l : Link} {s : State} (hlisten : listening l s = true)
    (hfull : 8 ≤ (s.link l).reserved + (s.link l).queue.length) :
    frameArrives l (overrunCheck l) s = pump (discard l .overrun s) := by
  rw [frameArrives_of_listening hlisten, overrunCheck_of_full (by simpa [setReceiver] using hfull), discard_setReceiver]

/-- A sound frame on a link whose slots are taken fares as the OVERRUN row does, whatever it would have carried out. -/
theorem frameArrives_acceptance_of_full {l : Link} {tag : Byte} {body : List Byte} {s : State}
    (hlisten : listening l s = true) (hfull : 8 ≤ (s.link l).reserved + (s.link l).queue.length) (htag : tag ≠ 0)
    (hbody : body.length ≤ 60) (carry : State → State) :
    frameArrives l (acceptance l tag body carry) s = frameArrives l (overrunCheck l) s := by
  have hocc : Config.responseSlots ≤ ((setReceiver l .hunt s).link l).occupied := by
    simpa [setReceiver, LinkIf.occupied, Config.responseSlots] using hfull
  have hb : ¬Config.bodyMax < body.length := Nat.not_lt.mpr hbody
  rw [frameArrives_of_listening hlisten, frameArrives_of_listening hlisten, acceptance, if_neg hb, if_neg htag,
    if_pos hocc, overrunCheck, if_pos hocc]

/-! ### Frames that are accepted (R195) -/

/-- A sound frame on a link with a free slot is carried out with that slot reserved. -/
theorem frameArrives_acceptance_of_accepting {l : Link} {tag : Byte} {body : List Byte} {s : State}
    (hacc : accepting l s = true) (htag : tag ≠ 0) (hbody : body.length ≤ 60) (carry : State → State) :
    frameArrives l (acceptance l tag body carry) s = pump (carry (accepted l s)) := by
  have hocc : ¬Config.responseSlots ≤ ((setReceiver l .hunt s).link l).occupied := by
    simp only [accepting, Bool.and_eq_true, decide_eq_true_eq] at hacc
    simpa [setReceiver, LinkIf.occupied] using hacc.2
  have hb : ¬Config.bodyMax < body.length := Nat.not_lt.mpr hbody
  rw [frameArrives_of_listening (listening_of_accepting hacc), acceptance, if_neg hb, if_neg htag, if_neg hocc]
  rfl

/-- The check of permission comes first. -/
theorem checkRequest_of_not_permitted {ty : ReqType} {l : Link} (h : ty.permitted l = false) (tag : Byte) (body : List Byte)
    (s : State) : checkRequest ty l tag body s = respond l ty tag .notPermitted s := by
  simp [checkRequest, h]

/-- The check of the body's length comes second. -/
theorem checkRequest_of_bad_length {ty : ReqType} {l : Link} {body : List Byte} (hp : ty.permitted l = true)
    (hlen : body.length < ty.bodyRange.1 ∨ ty.bodyRange.2 < body.length) (tag : Byte) (s : State) :
    checkRequest ty l tag body s = respond l ty tag .badRequest s := by
  have hbad : ty.lengthOk body.length = false := by
    simp only [ReqType.lengthOk, Bool.and_eq_false_iff, decide_eq_false_iff_not]
    omega
  simp [checkRequest, hp, hbad]

/-- An accepted request whose checks come to a result alone is refused with it. -/
theorem refusedWith_requestArrives {ty : ReqType} {l : Link} {tag : Byte} {body : List Byte} {r : Result} {s : State}
    (hacc : accepting l s = true) (htag : tag ≠ 0) (hbody : body.length ≤ 60)
    (hcheck : checkRequest ty l tag body (accepted l s) = respond l ty tag r (accepted l s)) :
    refusedWith ty l tag r s (requestArrives ty l tag body s) := by
  rw [requestArrives, frameArrives_acceptance_of_accepting hacc htag hbody, hcheck]
  exact refusedWith_respond ..

/-- SETTING is the CREW's alone (R196). -/
theorem permitted_setting_of_ne {l : Link} (hl : l ≠ .crew) : ReqType.setting.permitted l = false := by
  cases l
  case crew => exact absurd rfl hl
  all_goals rfl

theorem refusedWith_settingArrives {x : Setting} {l : Link} {tag : Byte} {v : BitVec 24} {s : State}
    (hacc : accepting l s = true) (htag : tag ≠ 0) (hl : l ≠ .crew) :
    refusedWith .setting l tag .notPermitted s (settingArrives x l tag v s) := by
  have hbody : (x.code :: byte3 v.toNat).length ≤ 60 := by simp [byte3]
  rw [settingArrives, frameArrives_acceptance_of_accepting hacc htag hbody, permitted_setting_of_ne hl]
  exact refusedWith_respond ..

/-- A frame of unknown type changes nothing but the links that carry its response. -/
theorem changesOnly_unknownType (l : Link) (tag : Byte) (s : State) :
    changesOnly [.links] s (unknownType l tag (accepted l s)) := by
  intro b hb
  cases b
  case links => simp at hb
  all_goals rfl

/-! ### The rows of the requests -/

theorem exec_of_command {ty : ReqType} {l : Link} {tag : Byte} {body : List Byte} {c : Instr}
    (h : ty.command l tag body = some c) (s : State) : exec c s = .next (requestArrives ty l tag body s) := by
  cases ty
  case setting | query => cases h
  all_goals
    cases h
    rfl

theorem exec_settingCommand (x : Setting) (l : Link) (tag : Byte) (v : BitVec 24) (s : State) :
    exec (x.command l tag v) s = .next (settingArrives x l tag v s) := by
  cases x <;> rfl

theorem exec_itemCommand (it : Item) (l : Link) (tag part : Byte) (args : List Byte) (s : State) :
    exec (it.command l tag part args) s = .next (queryArrives it l tag part args s) := by
  cases it <;> rfl

theorem reqTypeOf_eq_none {type : Byte} (h : ∀ ty : ReqType, ty.code ≠ type) : reqTypeOf type = none := by
  simp [reqTypeOf, h]

theorem exec_unknownRequest {type : Byte} (h : ∀ ty : ReqType, ty.code ≠ type) (l : Link) (tag : Byte) (body : List Byte)
    (s : State) :
    exec (.unknownRequest l type tag body) s = .next (frameArrives l (acceptance l tag body (unknownType l tag)) s) := by
  have hnone : (reqTypeOf type).isSome = false := by rw [reqTypeOf_eq_none h]; rfl
  change Host.Outcome.next (if (reqTypeOf type).isSome then _ else _) = _
  rw [hnone]
  rfl

/-! ### The tables of the requests (R196, R208, R211) -/

/-- A table of request types is checked along the list of all of them. -/
theorem ReqType.forall_of_reqTypes {p : ReqType → Prop} (h : ∀ ty ∈ reqTypes, p ty) (ty : ReqType) : p ty :=
  h ty (by cases ty <;> decide)

/-- The roles of each request (R196). -/
theorem ReqType.permitted_iff (ty : ReqType) (l : Link) :
    ty.permitted l = true ↔
      (ty ∈ [.recall, .mute, .subscribe, .query] ∨ (l = .crew ∧ ty ∉ [.pedal, .tap, .tempo]) ∨
        (l = .player ∧ ty ∈ [.pedal, .tap, .tunerEngage, .tunerRelease]) ∨ (l = .showControl ∧ ty ∈ [.edit, .tempo])) := by
  revert ty
  cases l
  case player => exact forall_of_reqTypes (by decide)
  case crew => exact forall_of_reqTypes (by decide)
  case showControl => exact forall_of_reqTypes (by decide)

theorem reqTypeOf_code (ty : ReqType) : reqTypeOf ty.code = some ty :=
  ReqType.forall_of_reqTypes (p := fun ty => reqTypeOf ty.code = some ty) (by decide) ty

theorem reqTypeOf_eq_some_iff {b : Byte} {ty : ReqType} : reqTypeOf b = some ty ↔ b = ty.code :=
  ⟨fun h => (code_of_reqTypeOf h).symm, fun h => h ▸ reqTypeOf_code ty⟩

/-- No request type is so high that its response type wraps. -/
theorem ReqType.responseCode_toNat (ty : ReqType) : ty.responseCode.toNat = ty.code.toNat + 0x80 :=
  forall_of_reqTypes (p := fun ty => ty.responseCode.toNat = ty.code.toNat + 0x80) (by decide) ty

end Sys2Proof.Machine

namespace Sys2Proof.ControlLinks

open Sys2Proof.Machine

/-- Settles O54: each of the four commands is one and the same discard, followed by the choice of the transmitters. -/
theorem discardsReport : Obligations.DiscardsReport := by
  intro s l c cause cls hcommand
  have hdiscard : exec c s = .next (pump (discard l cause s)) ∧ cls = cause.faultClass := by
    rcases hcommand with ⟨hlisten, ⟨rfl, rfl, rfl⟩ | ⟨rfl, rfl, rfl⟩ | ⟨rfl, rfl, rfl, hfull⟩⟩ | ⟨rfl, rfl, rfl, hrx, hgap⟩
    case inl.inl | inl.inr.inl =>
      refine ⟨congrArg Host.Outcome.next ?_, rfl⟩
      rw [frameArrives_of_listening hlisten, discard_setReceiver]
    case inl.inr.inr => exact ⟨congrArg Host.Outcome.next (frameArrives_overrunCheck_of_full hlisten hfull), rfl⟩
    case inr =>
      have hassembling : (s.link l).rx.assembling = true := by
        cases h : (s.link l).rx
        case hunt => exact absurd h hrx
        all_goals rfl
      have hdue : due (.gapTimeout l) s = true := by simp [due, hassembling, hgap, Config.gapEnd]
      exact ⟨congrArg Host.Outcome.next (happen_of_due hdue), rfl⟩
  obtain ⟨hexec, rfl⟩ := hdiscard
  refine ⟨_, hexec, changesOnly_pump (changesOnly_discard l cause s), ?self, fun k hk => ?other, ?capture,
    announces_pump (raises_discard l cause s)⟩
  case self => exact (pump_link_core ..).trans (discard_link_core_self l cause s)
  case other => exact (pump_link_core ..).trans (discard_link_core_of_ne hk cause s)
  case capture => exact discard_capture l cause s

/-- Settles O58: the refusals by what acceptance makes of a frame on a link with a free slot and on one without, the tables
along the list of the request types. -/
theorem requestsAreChecked : Obligations.RequestsAreChecked := by
  refine ⟨ReqType.permitted_iff, ?requests, ?settings, ?unknown, ?full, ?types,
    fun ty b => ⟨reqTypeOf_eq_some_iff, ty.responseCode_toNat⟩, ?results⟩
  case requests =>
    intro s ty l tag body c hc htag hbody
    refine ⟨fun hacc hp => ⟨_, exec_of_command hc s, ?role⟩, fun hacc hp hlen => ⟨_, exec_of_command hc s, ?length⟩,
      fun hlisten hfull => (exec_of_command hc s).trans (congrArg Host.Outcome.next ?slots)⟩
    case role => exact refusedWith_requestArrives hacc htag hbody (checkRequest_of_not_permitted hp ..)
    case length => exact refusedWith_requestArrives hacc htag hbody (checkRequest_of_bad_length hp hlen ..)
    case slots => exact frameArrives_acceptance_of_full hlisten hfull htag hbody _
  case settings =>
    intro s x l tag v hacc htag hl
    exact ⟨_, exec_settingCommand x l tag v s, refusedWith_settingArrives hacc htag hl⟩
  case unknown =>
    intro s l type tag body hacc htag hbody htype
    refine ⟨_, exec_unknownRequest htype l tag body s, ?_⟩
    rw [frameArrives_acceptance_of_accepting hacc htag hbody]
    exact ⟨changesOnly_pump (changesOnly_unknownType l tag s), respondsWith_pump (fun _ => rfl),
      announces_request (raises_refl _)⟩
  case full =>
    intro s l tag hlisten htag hfull
    have hoverrun {body : List Byte} (hbody : body.length ≤ 60) (carry : State → State) :
        Host.Outcome.next (frameArrives l (acceptance l tag body carry) s) = exec (.overrun l) s :=
      congrArg Host.Outcome.next (frameArrives_acceptance_of_full hlisten hfull htag hbody carry)
    refine ⟨fun x v => ?_, fun it part args hargs => ?_, fun type body hbody htype => ?_⟩
    · exact (exec_settingCommand x l tag v s).trans (hoverrun (by simp [byte3]) _)
    · exact (exec_itemCommand it l tag part args s).trans (hoverrun (by simp only [List.length_cons]; omega) _)
    · exact (exec_unknownRequest htype l tag body s).trans (hoverrun hbody _)
  case types => exact ReqType.forall_of_reqTypes (by decide)
  case results =>
    intro r
    cases r <;> decide

end Sys2Proof.ControlLinks

/-! Frames: which blocks each operation of the part can change, said once per operation. -/

namespace Sys2Proof.Machine

/-! ### Composing frames -/

theorem Block.same_refl (b : Block) (s : State) : b.same s s := by cases b <;> rfl

theorem Block.same_trans {b : Block} {s t u : State} (h : b.same s t) (h' : b.same t u) : b.same s u := by
  cases b <;> exact Eq.trans h' h

theorem changesOnly.refl (bs : List Block) (s : State) : changesOnly bs s s := fun b _ => b.same_refl s

theorem changesOnly.trans {bs : List Block} {s t u : State} (h : changesOnly bs s t) (h' : changesOnly bs t u) :
    changesOnly bs s u :=
  fun b hb => Block.same_trans (h b hb) (h' b hb)

theorem changesOnly.mono {bs cs : List Block} {s t : State} (h : changesOnly bs s t) (hsub : ∀ b ∈ bs, b ∈ cs) :
    changesOnly cs s t :=
  fun b hb => h b (fun hmem => hb (hsub b hmem))

/-- Two changes one after the other, seen within a list of blocks that covers both. -/
theorem changesOnly.comp {bs cs ds : List Block} {s t u : State} (h : changesOnly bs s t) (h' : changesOnly cs t u)
    (hb : ∀ b ∈ bs, b ∈ ds) (hc : ∀ b ∈ cs, b ∈ ds) : changesOnly ds s u :=
  (h.mono hb).trans (h'.mono hc)

/-- A part that the frame leaves out reads the same. -/
theorem changesOnly.same {bs : List Block} {s t : State} (h : changesOnly bs s t) (b : Block) (hb : b ∉ bs) : b.same s t :=
  h b hb

/-! ### One block replaced -/

theorem changesOnly_withFrontEnd {s : State} {x : FrontEnd} : changesOnly [.frontEnd] s (s.withFrontEnd x) := by
  intro b hb; cases b <;> first | rfl | simp at hb
theorem changesOnly_withLanes {s : State} {x : PerLane Lane} : changesOnly [.lanes] s (s.withLanes x) := by
  intro b hb; cases b <;> first | rfl | simp at hb
theorem changesOnly_setLane {s : State} {k : LaneId} {x : Lane} : changesOnly [.lanes] s (s.setLane k x) :=
  changesOnly_withLanes
theorem changesOnly_withStores {s : State} {x : Stores} : changesOnly [.stores] s (s.withStores x) := by
  intro b hb; cases b <;> first | rfl | simp at hb
theorem changesOnly_withEngine {s : State} {x : Engine} : changesOnly [.engine] s (s.withEngine x) := by
  intro b hb; cases b <;> first | rfl | simp at hb
theorem changesOnly_withArbiter {s : State} {x : Arbiter} : changesOnly [.arbiter] s (s.withArbiter x) := by
  intro b hb; cases b <;> first | rfl | simp at hb
theorem changesOnly_withControl {s : State} {x : Control} : changesOnly [.control] s (s.withControl x) := by
  intro b hb; cases b <;> first | rfl | simp at hb
theorem changesOnly_withTuner {s : State} {x : Tuner} : changesOnly [.tuner] s (s.withTuner x) := by
  intro b hb; cases b <;> first | rfl | simp at hb
theorem changesOnly_withMixer {s : State} {x : Mixer} : changesOnly [.mixer] s (s.withMixer x) := by
  intro b hb; cases b <;> first | rfl | simp at hb
theorem changesOnly_withProtection {s : State} {x : Protection} : changesOnly [.protection] s (s.withProtection x) := by
  intro b hb; cases b <;> first | rfl | simp at hb
theorem changesOnly_withCapture {s : State} {x : Option FaultRec} : changesOnly [.capture] s (s.withCapture x) := by
  intro b hb; cases b <;> first | rfl | simp at hb
theorem changesOnly_withLinks {s : State} {x : PerLink LinkIf} : changesOnly [.links] s (s.withLinks x) := by
  intro b hb; cases b <;> first | rfl | simp at hb
theorem changesOnly_setLink {s : State} {l : Link} {x : LinkIf} : changesOnly [.links] s (s.setLink l x) :=
  changesOnly_withLinks
theorem changesOnly_withResetDue {s : State} {x : Bool} : changesOnly [.resetDue] s (s.withResetDue x) := by
  intro b hb; cases b <;> first | rfl | simp at hb
theorem changesOnly_withPending {s : State} {x : List Instr} : changesOnly [.pending] s (s.withPending x) := by
  intro b hb; cases b <;> first | rfl | simp at hb

/-! ### Reports -/

theorem changesOnly_raiseNotice {c : NoticeClass} {s : State} : changesOnly [.links] s (raiseNotice c s) :=
  changesOnly_withLinks
theorem changesOnly_reserveSlot {l : Link} {s : State} : changesOnly [.links] s (reserveSlot l s) := changesOnly_setLink
theorem changesOnly_queueMessage {l : Link} {m : Message} {s : State} : changesOnly [.links] s (queueMessage l m s) :=
  changesOnly_setLink
theorem changesOnly_respond {l : Link} {t : ReqType} {tag : Byte} {r : Result} {s : State} :
    changesOnly [.links] s (respond l t tag r s) :=
  changesOnly_queueMessage
theorem changesOnly_setReceiver {l : Link} {r : Receiver} {s : State} : changesOnly [.links] s (setReceiver l r s) :=
  changesOnly_setLink
theorem changesOnly_pumped {s : State} : changesOnly [.links] s (pump s) := changesOnly_withLinks
theorem changesOnly_accepted {l : Link} {s : State} : changesOnly [.links] s (accepted l s) :=
  changesOnly_setReceiver.trans changesOnly_reserveSlot

/-! ### Control Rate Unit -/

theorem changesOnly_pendLanes {f : ChainId → PendingSet → PendingSet} {s : State} : changesOnly [.lanes] s (pendLanes f s) :=
  changesOnly_withLanes

theorem changesOnly_setScene {sc : Scene} {s : State} : changesOnly [.engine] s (setScene sc s) := changesOnly_withEngine

theorem changesOnly_pedal {body : List Byte} {s : State} : changesOnly [.control, .engine, .lanes] s (pedal body s).2 := by
  unfold pedal
  split
  · exact .refl _ _
  · next src _ =>
    dsimp only
    split
    · exact changesOnly_withControl.mono (by decide)
    · exact .trans (.mono changesOnly_withControl (by decide)) (.trans (.mono changesOnly_setScene (by decide)) (.mono changesOnly_pendLanes (by decide)))

theorem changesOnly_expressionChange {old : List Assign} {sc : Scene} {s : State} :
    changesOnly [.engine, .lanes] s (expressionChange old sc s) :=
  changesOnly_setScene.comp changesOnly_pendLanes (by decide) (by decide)

theorem changesOnly_tap {s : State} : changesOnly [.links, .control, .lanes] s (tap s).2 := by
  unfold tap
  dsimp only
  split
  · exact .refl _ _
  · split
    · exact changesOnly_withControl.mono (by decide)
    · split
      · exact changesOnly_withControl.mono (by decide)
      · exact changesOnly_writeTempo _ _

theorem changesOnly_tempo {body : List Byte} {s : State} : changesOnly [.links, .control, .lanes] s (tempo body s).2 := by
  unfold tempo
  split
  · exact .refl _ _
  · exact changesOnly_writeTempo _ _

theorem changesOnly_applyPresetTempo {t : Option Nat} {s : State} :
    changesOnly [.links, .control] s (applyPresetTempo t s) := by
  unfold applyPresetTempo
  split
  · exact .refl _ _
  · split
    · exact .refl _ _
    · exact changesOnly_withControl.comp changesOnly_raiseNotice (by decide) (by decide)

/-! ### Output Mixer, Tuner, Bus Protection -/

theorem changesOnly_mute {body : List Byte} {s : State} : changesOnly [.links, .mixer] s (mute body s).2 := by
  unfold mute
  split
  · exact .refl _ _
  · exact changesOnly_withMixer.comp changesOnly_raiseNotice (by decide) (by decide)

theorem changesOnly_safetyExpiry {s : State} : changesOnly [.links, .mixer] s (safetyExpiry s) :=
  changesOnly_withMixer.comp changesOnly_raiseNotice (by decide) (by decide)

theorem changesOnly_setSafetyTimer {v : Nat} {s : State} : changesOnly [.links, .mixer] s (setSafetyTimer v s) := by
  unfold setSafetyTimer
  dsimp only
  split
  · exact changesOnly_withMixer.mono (by decide)
  · split
    · split
      · exact changesOnly_withMixer.mono (by decide)
      · exact changesOnly_withMixer.comp changesOnly_raiseNotice (by decide) (by decide)
    · exact changesOnly_withMixer.comp changesOnly_raiseNotice (by decide) (by decide)

theorem changesOnly_handTunerMute {s : State} : changesOnly [.links, .mixer] s (handTunerMute s) := by
  unfold handTunerMute
  dsimp only
  split
  · exact changesOnly_withMixer.mono (by decide)
  · exact changesOnly_withMixer.comp changesOnly_raiseNotice (by decide) (by decide)

theorem changesOnly_tunerMoved {t : Tuner} {s : State} :
    changesOnly [.links, .mixer, .tuner] s (handTunerMute (raiseNotice .tuner (s.withTuner t))) :=
  (changesOnly_withTuner.comp changesOnly_raiseNotice (ds := [.links, .tuner]) (by decide) (by decide)).comp
    changesOnly_handTunerMute (by decide) (by decide)

theorem changesOnly_tunerEngage {body : List Byte} {s : State} :
    changesOnly [.links, .mixer, .tuner] s (tunerEngage body s).2 := by
  unfold tunerEngage
  split
  · exact changesOnly_tunerMoved
  · exact .refl _ _

theorem changesOnly_tunerOff {s : State} : changesOnly [.links, .mixer, .tuner] s (tunerOff s) := by
  unfold tunerOff
  split
  · exact changesOnly_tunerMoved
  · exact .refl _ _

theorem changesOnly_decimatedSample {s : State} : changesOnly [.links, .tuner] s (decimatedSample s) := by
  unfold decimatedSample
  dsimp only
  split
  · exact changesOnly_withTuner.mono (by decide)
  · exact changesOnly_withTuner.comp changesOnly_raiseNotice (by decide) (by decide)

theorem changesOnly_tunerStale {s : State} : changesOnly [.links, .tuner] s (tunerStale s) :=
  changesOnly_withTuner.comp changesOnly_raiseNotice (by decide) (by decide)

theorem changesOnly_formRequest {s : State} : changesOnly [.protection, .mixer] s (formRequest s) :=
  changesOnly_withProtection.comp changesOnly_withMixer (by decide) (by decide)

/-- Bus Protection replaced, GUARD raised or not, and the request formed again. -/
theorem changesOnly_guarded {p : Protection} {s t : State} (h : changesOnly [.links] (s.withProtection p) t) :
    changesOnly [.links, .mixer, .protection] s (formRequest t) :=
  (changesOnly_withProtection.comp h (ds := [.links, .protection]) (by decide) (by decide)).comp
    changesOnly_formRequest (by decide) (by decide)

theorem changesOnly_movePairs {f : ProtClass → Bool} {cond : Bus → ProtClass → Bool} {s : State} :
    changesOnly [.links, .mixer, .protection] s (movePairs f cond s) := by
  refine changesOnly_guarded (p := s.protection.stepPairs f cond) ?_
  split
  · exact changesOnly_raiseNotice
  · exact .refl _ _

theorem changesOnly_protectionFrame {finished : PerBus Int} {s : State} :
    changesOnly [.links, .mixer, .protection] s (protectionFrame finished s) :=
  changesOnly_withProtection.comp changesOnly_movePairs (by decide) (by decide)

theorem changesOnly_dcWindowEnd {s : State} : changesOnly [.links, .mixer, .protection] s (dcWindowEnd s) :=
  changesOnly_withProtection.comp changesOnly_movePairs (by decide) (by decide)

theorem changesOnly_flagLatch {b : Bus} {c : ProtClass} {s : State} :
    changesOnly [.links, .mixer, .protection] s (flagLatch b c s) :=
  changesOnly_guarded changesOnly_raiseNotice

theorem changesOnly_ack {body : List Byte} {s : State} : changesOnly [.links, .mixer, .protection] s (ack body s).2 := by
  unfold ack
  split
  · exact (changesOnly_guarded (.refl _ _)).trans (changesOnly_raiseNotice.mono (by decide))
  · exact .refl _ _

theorem changesOnly_force {body : List Byte} {s : State} : changesOnly [.links, .mixer, .protection] s (force body s).2 := by
  unfold force
  split
  · exact (changesOnly_guarded (.refl _ _)).trans (changesOnly_raiseNotice.mono (by decide))
  · exact .refl _ _

theorem changesOnly_setTimer {c : ProtClass} {v : Nat} {s : State} :
    changesOnly [.links, .mixer, .protection] s (setTimer c v s) :=
  changesOnly_guarded (.refl _ _)

/-! ### Model Stores -/

theorem changesOnly_curveBegin {body : List Byte} {s : State} : changesOnly [.stores] s (curveBegin body s).2 := by
  unfold curveBegin
  dsimp only
  split
  · exact .refl _ _
  · split
    · exact .refl _ _
    · exact changesOnly_withStores

theorem changesOnly_impulseBegin {body : List Byte} {s : State} : changesOnly [.stores] s (impulseBegin body s).2 := by
  unfold impulseBegin
  dsimp only
  split
  · exact .refl _ _
  · split
    · exact .refl _ _
    · exact changesOnly_withStores

theorem changesOnly_curvePut {body : List Byte} {s : State} : changesOnly [.stores] s (curvePut body s).2 := by
  unfold curvePut
  dsimp only
  split
  · exact .refl _ _
  · split
    · exact .refl _ _
    · split
      · exact .refl _ _
      · exact changesOnly_withStores

theorem changesOnly_impulsePut {body : List Byte} {s : State} : changesOnly [.stores] s (impulsePut body s).2 := by
  unfold impulsePut
  dsimp only
  split
  · exact .refl _ _
  · split
    · exact .refl _ _
    · split
      · exact .refl _ _
      · exact changesOnly_withStores

theorem changesOnly_markDirty {i : Nat} {s : State} : changesOnly [.engine] s (markDirty i s) := by
  unfold markDirty
  split
  · split
    · exact changesOnly_withEngine
    · exact .refl _ _
  · exact .refl _ _

/-- A library write with its mark in the working scene. -/
theorem changesOnly_libraryWrite {i : Nat} {r : PresetRec} {s : State} :
    changesOnly [.stores, .engine] s (markDirty i (putPreset i r s)) :=
  changesOnly_withStores.comp changesOnly_markDirty (by decide) (by decide)

theorem changesOnly_presetBegin {body : List Byte} {s : State} : changesOnly [.stores, .engine] s (presetBegin body s).2 := by
  unfold presetBegin
  dsimp only
  split
  · split
    · exact changesOnly_libraryWrite
    · exact .refl _ _
  · exact .refl _ _

theorem changesOnly_presetPut {body : List Byte} {s : State} : changesOnly [.stores, .engine] s (presetPut body s).2 := by
  unfold presetPut
  dsimp only
  split
  · exact .refl _ _
  · split
    · split
      · exact changesOnly_libraryWrite
      · exact .refl _ _
    · exact .refl _ _

theorem changesOnly_presetEnd {body : List Byte} {s : State} : changesOnly [.stores, .engine] s (presetEnd body s).2 := by
  unfold presetEnd
  dsimp only
  split
  · exact .refl _ _
  · split
    · exact changesOnly_libraryWrite
    · exact .refl _ _

theorem changesOnly_presetErase {body : List Byte} {s : State} : changesOnly [.stores, .engine] s (presetErase body s).2 := by
  unfold presetErase
  dsimp only
  split
  · exact .refl _ _
  · exact changesOnly_libraryWrite

theorem changesOnly_mapSet {body : List Byte} {s : State} : changesOnly [.stores] s (mapSet body s).2 := by
  unfold mapSet
  dsimp only
  split
  · exact .refl _ _
  · exact changesOnly_withStores

theorem changesOnly_pendTrim {v : Nat} {s : State} : changesOnly [.frontEnd] s (pendTrim v s) := changesOnly_withFrontEnd

theorem changesOnly_profilePut {body : List Byte} {s : State} :
    changesOnly [.stores, .frontEnd] s (profilePut body s).2 := by
  unfold profilePut
  dsimp only
  split
  · exact .refl _ _
  · split
    · exact .refl _ _
    · split
      · exact .refl _ _
      · dsimp only
        split
        · exact changesOnly_withStores.comp changesOnly_pendTrim (by decide) (by decide)
        · exact changesOnly_withStores.mono (by decide)

theorem changesOnly_instrumentSelect {body : List Byte} {s : State} :
    changesOnly [.stores, .frontEnd] s (instrumentSelect body s).2 := by
  unfold instrumentSelect
  dsimp only
  split
  · exact .refl _ _
  · split
    · exact .refl _ _
    · exact changesOnly_withStores.comp changesOnly_pendTrim (by decide) (by decide)

/-! ### Scene Engine -/

theorem changesOnly_loadLanes {t : Transition} {sc : Scene} {s : State} : changesOnly [.lanes] s (loadLanes t sc s) := by
  unfold loadLanes
  split
  · split
    · exact changesOnly_setLane
    · exact .refl _ _
  · exact changesOnly_setLane
  · exact changesOnly_withLanes

/-- The blocks that the start, the load step or the frames of a transition can change. -/
theorem changesOnly_loadStep {t : Transition} {s : State} :
    changesOnly [.links, .engine, .control, .lanes] s (loadStep t s) := by
  unfold loadStep
  dsimp only
  exact .trans (.mono changesOnly_withLanes (by decide)) (.trans (.mono changesOnly_applyPresetTempo (by decide))
    (.trans (.mono changesOnly_withEngine (by decide)) (.mono changesOnly_loadLanes (by decide))))

theorem changesOnly_dipOutEnd {t : Transition} {s : State} :
    changesOnly [.links, .engine, .control, .lanes] s (dipOutEnd t s) :=
  changesOnly_withLanes.comp changesOnly_loadStep (by decide) (by decide)

theorem changesOnly_enterDipOut {t : Transition} {s : State} :
    changesOnly [.links, .engine, .control, .lanes] s (enterDipOut t s) := by
  unfold enterDipOut
  dsimp only
  split
  · exact changesOnly_dipOutEnd
  · exact changesOnly_withEngine.mono (by decide)

theorem changesOnly_enterPrepare {t : Transition} {x : LaneId} {s : State} :
    changesOnly [.links, .engine, .control, .lanes] s (enterPrepare t x s) := by
  unfold enterPrepare
  split
  · exact changesOnly_loadStep
  · exact changesOnly_setLane.comp changesOnly_withEngine (by decide) (by decide)
  · exact changesOnly_withEngine.mono (by decide)

theorem changesOnly_beginTransition {origin : Link} {i : Nat} {p : Preset} {s : State} :
    changesOnly [.links, .engine, .control, .lanes] s (beginTransition origin i p s) := by
  unfold beginTransition
  dsimp only
  split
  · exact changesOnly_raiseNotice.comp changesOnly_enterDipOut (by decide) (by decide)
  · exact changesOnly_raiseNotice.comp changesOnly_enterPrepare (by decide) (by decide)

theorem changesOnly_engineGrant {origin : Link} {i : Nat} {s : State} :
    changesOnly [.links, .engine, .control, .lanes, .capture] s (engineGrant origin i s).2 := by
  unfold engineGrant
  split
  · split
    · exact (changesOnly_writeFault _ _).mono (by decide)
    · split
      · exact .refl _ _
      · exact changesOnly_beginTransition.mono (by decide)
  · exact (changesOnly_writeFault _ _).mono (by decide)

theorem changesOnly_engineFrame {s : State} : changesOnly [.engine, .lanes] s (engineFrame s) := by
  unfold engineFrame
  split
  · split
    · exact changesOnly_withLanes.comp changesOnly_withEngine (by decide) (by decide)
    · exact .refl _ _
  · exact .refl _ _

theorem changesOnly_laneIdle {x : LaneId} {s : State} :
    changesOnly [.links, .engine, .control, .lanes] s (laneIdle x s) := by
  unfold laneIdle
  dsimp only
  split
  · split
    · exact changesOnly_setLane.comp changesOnly_loadStep (by decide) (by decide)
    · exact changesOnly_setLane.mono (by decide)
  · exact changesOnly_setLane.mono (by decide)

theorem changesOnly_carryEdit {sc : Scene} {c : ChainId} {g : Group} {s : State} :
    changesOnly [.engine, .lanes] s (carryEdit sc c g s) := by
  unfold carryEdit
  dsimp only
  split
  · exact changesOnly_expressionChange
  · exact changesOnly_setScene.comp changesOnly_pendLanes (by decide) (by decide)

theorem changesOnly_edit {body : List Byte} {s : State} : changesOnly [.engine, .lanes] s (edit body s).2 := by
  unfold edit
  dsimp only
  split
  · split
    · exact .refl _ _
    · split
      · exact .refl _ _
      · split
        · exact .refl _ _
        · exact changesOnly_carryEdit
  · exact .refl _ _

theorem changesOnly_store {body : List Byte} {s : State} : changesOnly [.stores, .engine] s (store body s).2 := by
  unfold store
  dsimp only
  split
  · exact .refl _ _
  · split
    · exact .refl _ _
    · exact changesOnly_withStores.comp changesOnly_setScene (by decide) (by decide)

/-! ### Recall Arbiter -/

theorem changesOnly_windowSet {body : List Byte} {s : State} : changesOnly [.arbiter] s (windowSet body s).2 := by
  unfold windowSet
  dsimp only
  split
  · exact .refl _ _
  · split
    · exact .refl _ _
    · split
      · exact .refl _ _
      · exact changesOnly_withArbiter

/-- The blocks that a grant can change. -/
def grantBlocks : List Block := [.links, .arbiter, .tuner, .mixer, .engine, .control, .lanes, .capture]

/-- The state in which the engine is asked: the slot of the granted recall is empty, and a PLAYER grant has disengaged the
tuner (R85, R92). -/
def grantAsked (l : Link) (s : State) : State :=
  let s := s.withArbiter { s.arbiter with slots := s.arbiter.slots.set l none }
  if l = .player then tunerOff s else s

/-- The recall is answered at once, or the grant record is made. -/
def grantAnswered (l : Link) (w : Waiting) : Option Result × State → State
  | (some r, s) => respond l (recallType w.place.isNone) w.tag r s
  | (none, s) => s.withArbiter { s.arbiter with grant := some ⟨l, w.tag, w.place.isNone, true⟩ }

theorem grantRecall_eq (l : Link) (w : Waiting) (s : State) :
    grantRecall l w s = grantAnswered l w (engineGrant l w.index (grantAsked l s)) := by
  have hmatch : ∀ x : Option Result × State, (match x.1 with
      | some r => respond l (recallType w.place.isNone) w.tag r x.2
      | none => x.2.withArbiter { x.2.arbiter with grant := some ⟨l, w.tag, w.place.isNone, true⟩ }) =
        grantAnswered l w x := by
    rintro ⟨_ | r, t⟩ <;> rfl
  exact hmatch _

theorem changesOnly_grantAsked {l : Link} {s : State} :
    changesOnly [.links, .arbiter, .tuner, .mixer] s (grantAsked l s) := by
  unfold grantAsked
  dsimp only
  split
  · exact .trans (.mono changesOnly_withArbiter (by decide)) (.mono changesOnly_tunerOff (by decide))
  · exact changesOnly_withArbiter.mono (by decide)

theorem changesOnly_grantAnswered {l : Link} {w : Waiting} {x : Option Result × State} :
    changesOnly [.links, .arbiter] x.2 (grantAnswered l w x) := by
  unfold grantAnswered
  split
  · exact changesOnly_respond.mono (by decide)
  · exact changesOnly_withArbiter.mono (by decide)

theorem changesOnly_grantRecall {l : Link} {w : Waiting} {s : State} : changesOnly grantBlocks s (grantRecall l w s) := by
  rw [grantRecall_eq]
  exact .trans (.mono changesOnly_grantAsked (by decide))
    (.trans (.mono changesOnly_engineGrant (by decide)) (.mono changesOnly_grantAnswered (by decide)))

theorem changesOnly_look {n : Nat} {s : State} : changesOnly grantBlocks s (look n s) := by
  induction n generalizing s with
  | zero => exact .refl _ _
  | succ n ih =>
    unfold look
    split
    · exact .refl _ _
    · split
      · exact .refl _ _
      · split
        · exact .refl _ _
        · exact changesOnly_grantRecall.trans ih

theorem changesOnly_arbiterLook {s : State} : changesOnly grantBlocks s (arbiterLook s) := changesOnly_look

theorem changesOnly_enterSlot {l : Link} {w : Waiting} {s : State} : changesOnly grantBlocks s (enterSlot l w s) := by
  unfold enterSlot
  dsimp only
  refine .trans (.trans ?_ (changesOnly_withArbiter.mono (by decide))) (changesOnly_arbiterLook)
  split
  · exact changesOnly_respond.mono (by decide)
  · exact .refl _ _

theorem changesOnly_refuseRecall {l : Link} {byIndex : Bool} {tag : Byte} {r : Result} {f : Option FaultRec} {s : State} :
    changesOnly [.links, .capture] s (refuseRecall l byIndex tag r f s) := by
  unfold refuseRecall
  split
  · exact (changesOnly_writeFault _ _).comp changesOnly_respond (by decide) (by decide)
  · exact changesOnly_respond.mono (by decide)

theorem changesOnly_takeRecall {l : Link} {tag : Byte} {body : List Byte} {s : State} :
    changesOnly grantBlocks s (takeRecall l tag body s) := by
  unfold takeRecall
  dsimp only
  split
  · exact changesOnly_refuseRecall.mono (by decide)
  · split
    · exact changesOnly_respond.mono (by decide)
    · exact changesOnly_enterSlot

theorem changesOnly_takeRecallIndex {l : Link} {tag : Byte} {body : List Byte} {s : State} :
    changesOnly grantBlocks s (takeRecallIndex l tag body s) := by
  unfold takeRecallIndex
  dsimp only
  split
  · exact changesOnly_refuseRecall.mono (by decide)
  · split
    · exact changesOnly_enterSlot
    · exact changesOnly_refuseRecall.mono (by decide)

theorem changesOnly_arbiterCompletion {origin : Link} {s : State} :
    changesOnly grantBlocks s (arbiterCompletion origin s) := by
  unfold arbiterCompletion
  dsimp only
  refine .trans (.trans ?_ (changesOnly_withArbiter.mono (by decide))) (changesOnly_arbiterLook)
  split
  · split
    · exact changesOnly_respond.mono (by decide)
    · exact .refl _ _
  · exact .refl _ _

theorem changesOnly_completeTransition {t : Transition} {s : State} :
    changesOnly grantBlocks s (completeTransition t s) :=
  ((changesOnly_withEngine.mono (cs := grantBlocks) (by decide)).trans
    (changesOnly_raiseNotice.mono (by decide))).trans changesOnly_arbiterCompletion

theorem changesOnly_fadeComplete {t : Transition} {s : State} : changesOnly grantBlocks s (fadeComplete t s) :=
  (changesOnly_withLanes.mono (by decide)).trans changesOnly_completeTransition

theorem changesOnly_dipComplete {t : Transition} {s : State} : changesOnly grantBlocks s (dipComplete t s) :=
  (changesOnly_withLanes.mono (by decide)).trans changesOnly_completeTransition

theorem changesOnly_tenureExpiry {s : State} : changesOnly grantBlocks s (tenureExpiry s) :=
  (changesOnly_withArbiter.mono (by decide)).trans (changesOnly_arbiterLook)

/-! ### Settings and requests -/

theorem changesOnly_putSetting {t : Setting} {v : Nat} {s : State} :
    changesOnly [.links, .frontEnd, .arbiter, .tuner, .mixer, .protection] s (putSetting t v s) := by
  cases t
  case presenceFloor => exact changesOnly_withFrontEnd.mono (by decide)
  case tenure => exact changesOnly_withArbiter.mono (by decide)
  case referencePitch | hysteresis | wIn | wNear => exact changesOnly_withTuner.mono (by decide)
  case tunerMuteSet => exact changesOnly_withTuner.comp changesOnly_handTunerMute (by decide) (by decide)
  case safetyTimer => exact changesOnly_setSafetyTimer.mono (by decide)
  case attenuation => exact changesOnly_withMixer.mono (by decide)
  case overThreshold | dcThreshold | lossFloor => exact changesOnly_withProtection.mono (by decide)
  case tOver | tDc | tLoss => exact changesOnly_setTimer.mono (by decide)

theorem changesOnly_setting {t : Setting} {v : Nat} {s : State} :
    changesOnly [.links, .frontEnd, .arbiter, .tuner, .mixer, .protection] s (setting t v s).2 := by
  unfold setting
  split
  · exact .refl _ _
  · split
    · exact .refl _ _
    · exact changesOnly_putSetting

theorem changesOnly_subscribe {l : Link} {body : List Byte} {s : State} : changesOnly [.links] s (subscribe l body s).2 := by
  unfold subscribe
  split
  · exact .refl _ _
  · exact changesOnly_setLink

/-- The blocks that the owner of a request answered by a result alone can change. -/
def ReqType.blocks : ReqType → List Block
  | .windowSet => [.arbiter]
  | .edit => [.engine, .lanes]
  | .store | .presetBegin | .presetPut | .presetEnd | .presetErase => [.stores, .engine]
  | .curveBegin | .curvePut | .impulseBegin | .impulsePut | .mapSet => [.stores]
  | .profilePut | .instrumentSelect => [.stores, .frontEnd]
  | .pedal => [.control, .engine, .lanes]
  | .tap | .tempo => [.links, .control, .lanes]
  | .tunerEngage | .tunerRelease => [.links, .mixer, .tuner]
  | .mute => [.links, .mixer]
  | .ack | .force => [.links, .mixer, .protection]
  | .captureClear => [.capture]
  | .subscribe | .reset => [.links]
  | .setting => [.links, .frontEnd, .arbiter, .tuner, .mixer, .protection]
  | .recall | .recallIndex | .query => []

theorem changesOnly_deliver {t : ReqType} {l : Link} {body : List Byte} {s : State} :
    changesOnly t.blocks s (deliver t l body s).2 := by
  cases t
  · exact .refl _ _
  case windowSet => exact changesOnly_windowSet
  case edit => exact changesOnly_edit
  case store => exact changesOnly_store
  case curveBegin => exact changesOnly_curveBegin
  case curvePut => exact changesOnly_curvePut
  case impulseBegin => exact changesOnly_impulseBegin
  case impulsePut => exact changesOnly_impulsePut
  case presetBegin => exact changesOnly_presetBegin
  case presetPut => exact changesOnly_presetPut
  case presetEnd => exact changesOnly_presetEnd
  case presetErase => exact changesOnly_presetErase
  case mapSet => exact changesOnly_mapSet
  case profilePut => exact changesOnly_profilePut
  case instrumentSelect => exact changesOnly_instrumentSelect
  case pedal => exact changesOnly_pedal
  case tap => exact changesOnly_tap
  case tempo => exact changesOnly_tempo
  case tunerEngage => exact changesOnly_tunerEngage
  case tunerRelease => exact changesOnly_tunerOff
  case mute => exact changesOnly_mute
  case ack => exact changesOnly_ack
  case force => exact changesOnly_force
  case captureClear => exact changesOnly_withCapture
  case subscribe => exact changesOnly_subscribe
  case reset => exact changesOnly_setLink
  case recallIndex | query => exact .refl _ _
  case setting =>
    unfold deliver
    dsimp only
    split
    · exact changesOnly_setting
    · exact .refl _ _

/-- The blocks that a request can change. -/
def deliverBlocks : List Block :=
  [.links, .frontEnd, .lanes, .stores, .engine, .arbiter, .control, .tuner, .mixer, .protection, .capture]

theorem ReqType.blocks_subset (t : ReqType) : ∀ b ∈ t.blocks, b ∈ deliverBlocks := by
  cases t <;> decide

theorem changesOnly_carryOut {t : ReqType} {l : Link} {tag : Byte} {body : List Byte} {s : State} :
    changesOnly deliverBlocks s (carryOut t l tag body s) := by
  unfold carryOut
  split
  · exact changesOnly_takeRecall.mono (by decide)
  · exact changesOnly_takeRecallIndex.mono (by decide)
  · exact changesOnly_queueMessage.mono (by decide)
  · exact .trans (.mono changesOnly_deliver t.blocks_subset) (.mono changesOnly_respond (by decide))

theorem changesOnly_checkRequest {t : ReqType} {l : Link} {tag : Byte} {body : List Byte} {s : State} :
    changesOnly deliverBlocks s (checkRequest t l tag body s) := by
  unfold checkRequest
  split
  · exact changesOnly_respond.mono (by decide)
  · split
    · exact changesOnly_respond.mono (by decide)
    · exact changesOnly_carryOut

/-! ### Frames, lines, resets -/

theorem changesOnly_audioFrame {x : Int} {s : State} :
    changesOnly [.links, .lanes, .engine, .mixer, .protection] s (audioFrame x s) := by
  unfold audioFrame
  dsimp only
  refine .comp (.comp (.comp changesOnly_withLanes changesOnly_engineFrame (ds := [.lanes, .engine]) ?_ ?_)
    changesOnly_withMixer (ds := [.lanes, .engine, .mixer]) ?_ ?_) changesOnly_protectionFrame ?_ ?_ <;> decide

theorem changesOnly_inputFrame {x : Int} {s : State} :
    changesOnly [.links, .frontEnd, .lanes, .engine, .tuner, .mixer, .protection] s (inputFrame x s) := by
  unfold inputFrame
  dsimp only
  refine .comp (.comp changesOnly_withFrontEnd changesOnly_audioFrame
    (ds := [.links, .frontEnd, .lanes, .engine, .mixer, .protection]) ?_ ?_) changesOnly_withTuner ?_ ?_ <;> decide

theorem changesOnly_frontEndBoundary {s : State} : changesOnly [.frontEnd] s (frontEndBoundary s) := by
  unfold frontEndBoundary
  split
  · exact changesOnly_withFrontEnd
  · exact .refl _ _

theorem changesOnly_laneBoundary {x : LaneId} {s : State} : changesOnly [.lanes] s (laneBoundary x s) := by
  unfold laneBoundary
  dsimp only
  split
  · exact changesOnly_setLane
  · exact .refl _ _

theorem changesOnly_breakBegins {l : Link} {s : State} : changesOnly [.links] s (breakBegins l s) := by
  unfold breakBegins
  split
  · exact .refl _ _
  · exact changesOnly_setLink

theorem changesOnly_breakEnd {l : Link} {s : State} : changesOnly [.links, .capture] s (breakEnd l s) := by
  unfold breakEnd
  dsimp only
  split
  · split
    · exact changesOnly_setLink.comp (changesOnly_discard _ _ _) (by decide) (by decide)
    · exact changesOnly_setLink.mono (by decide)
  · exact .refl _ _

theorem changesOnly_messageEnds {l : Link} {s : State} : changesOnly [.links, .resetDue] s (messageEnds l s) := by
  unfold messageEnds
  dsimp only
  split
  · exact .refl _ _
  · exact changesOnly_setLink.mono (by decide)
  · split
    · exact changesOnly_setLink.comp changesOnly_withResetDue (by decide) (by decide)
    · exact changesOnly_setLink.mono (by decide)

theorem changesOnly_controlMillisecond {s : State} :
    changesOnly [.links, .arbiter, .mixer] s (controlMillisecond s) :=
  (changesOnly_withLinks.comp changesOnly_withArbiter (ds := [.links, .arbiter]) (by decide) (by decide)).comp
    changesOnly_withMixer (by decide) (by decide)

/-- Every block but the queue of waiting commands. -/
def allButPending : List Block := .resetDue :: deliverBlocks

theorem changesOnly_softReset {s : State} : changesOnly allButPending s (softReset s) := by
  intro b hb
  cases b
  case pending => rfl
  all_goals exact absurd (by decide) hb

theorem changesOnly_powerOn {s : State} : changesOnly allButPending s (powerOn s) := by
  intro b hb
  cases b
  case pending => rfl
  all_goals exact absurd (by decide) hb

/-- A link with its receiving side and its reservations dropped, and the arbiter told (R203), short of a soft reset. -/
theorem changesOnly_dropped {l : Link} {s : State} :
    changesOnly [.links, .arbiter] s ((s.setLink l (s.link l).dropped).withArbiter (s.arbiter.drop l)) :=
  changesOnly_setLink.comp changesOnly_withArbiter (by decide) (by decide)

theorem changesOnly_linkDrop {l : Link} {s : State} : changesOnly allButPending s (linkDrop l s) := by
  have hdropped := (changesOnly_dropped (l := l) (s := s)).mono (cs := allButPending) (by decide)
  rw [linkDrop_eq]
  split
  · exact hdropped.trans changesOnly_softReset
  · exact hdropped

theorem changesOnly_onTransition {bs : List Block} {f : Transition → State → State} {s : State}
    (hf : ∀ t, changesOnly bs s (f t s)) : changesOnly bs s (onTransition f s) := by
  unfold onTransition
  split
  · exact hf _
  · exact .refl _ _

/-- The blocks that an event can change. -/
def Event.blocks : Event → List Block
  | .dcWindowEnd | .flagLatch _ _ => [.links, .mixer, .protection]
  | .decimatedSample | .tunerStale => [.links, .tuner]
  | .tailTimerExpiry _ => [.lanes]
  | .tailFloorEnd _ | .cutEnd _ | .dipOutEnd => [.links, .engine, .control, .lanes]
  | .fadeComplete | .dipComplete | .tenureExpiry => grantBlocks
  | .gapTimeout _ => [.links, .capture]
  | .linkDrop _ | .softReset => allButPending
  | .safetyTimerExpiry => [.links, .mixer]

theorem changesOnly_effect {e : Event} {s : State} : changesOnly e.blocks s (effect e s) := by
  cases e
  case dcWindowEnd => exact changesOnly_dcWindowEnd
  case flagLatch b c => exact changesOnly_flagLatch
  case decimatedSample => exact changesOnly_decimatedSample
  case tunerStale => exact changesOnly_tunerStale
  case tailTimerExpiry x => exact changesOnly_setLane
  case tailFloorEnd x | cutEnd x => exact changesOnly_laneIdle
  case dipOutEnd => exact changesOnly_onTransition (fun t => changesOnly_dipOutEnd)
  case fadeComplete => exact changesOnly_onTransition (fun t => changesOnly_fadeComplete)
  case dipComplete => exact changesOnly_onTransition (fun t => changesOnly_dipComplete)
  case gapTimeout l => exact changesOnly_discard l .badFrame s
  case linkDrop l => exact changesOnly_linkDrop
  case safetyTimerExpiry => exact changesOnly_safetyExpiry
  case tenureExpiry => exact changesOnly_tenureExpiry
  case softReset => exact changesOnly_softReset

theorem Event.blocks_subset (e : Event) : ∀ b ∈ e.blocks, b ∈ allButPending := by
  cases e <;> simp only [Event.blocks] <;> decide

end Sys2Proof.Machine

/-! The rule for what every command keeps: a law is checked against what each row does by itself, and then holds after every
step. With it the obligations on the machine as a whole. -/

namespace Sys2Proof.Machine

/-- What each row does by itself takes a law `P`, which holds between steps, to `Q`, which holds before the transmitters choose. -/
structure RowsKeep (P Q : State → Prop) : Prop where
  rest : ∀ {s}, P s → Q s
  pump : ∀ {s}, Q s → P (pump s)
  powerOn : ∀ {s}, P s → P (powerOn s)
  effect : ∀ {e s}, P s → due e s = true → Q (effect e s)
  inputFrame : ∀ {x s}, P s → Q (inputFrame x s)
  frontEndBoundary : ∀ {s}, P s → Q (frontEndBoundary s)
  laneBoundary : ∀ {x s}, P s → Q (laneBoundary x s)
  controlMillisecond : ∀ {s}, P s → Q (controlMillisecond s)
  breakBegins : ∀ {l s}, P s → Q (breakBegins l s)
  breakEnd : ∀ {l s}, P s → Q (breakEnd l s)
  messageEnds : ∀ {l s}, P s → Q (messageEnds l s)
  setReceiver : ∀ {l r s}, P s → P (setReceiver l r s)
  discard : ∀ {l c s}, P s → Q (discard l c s)
  request : ∀ {t l tag body s}, P s → (s.link l).occupied < 8 → Q (checkRequest t l tag body (reserveSlot l s))
  answer : ∀ {l m s}, P s → (s.link l).occupied < 8 → Q (queueMessage l m (reserveSlot l s))
  setting : ∀ {t v l tag s}, P s → (s.link l).occupied < 8 →
    Q (respond l .setting tag (setting t v (reserveSlot l s)).1 (setting t v (reserveSlot l s)).2)

namespace RowsKeep

variable {P Q : State → Prop} (K : RowsKeep P Q) {s t : State}

include K

theorem happen (e : Event) (h : P s) : P (happen e s) := by
  unfold Machine.happen
  split
  · next hdue => exact K.pump (K.effect h hdue)
  · exact h

omit K in
theorem foldl {α : Type} {g : State → α → State} {xs : List α} (hg : ∀ {u} x, P u → P (g u x)) (h : P s) :
    P (xs.foldl g s) := by
  induction xs generalizing s with
  | nil => exact h
  | cons x xs ih => exact ih (hg x h)

theorem settle (h : P s) : P (settle s) := foldl (fun e hu => K.happen e hu) h

theorem outside {f : State → State} (hf : ∀ {u}, P u → Q (f u)) (h : P s) : P (outside f s) := K.pump (hf (K.settle h))

theorem takeDrops (s : State) (h : P t) : P (takeDrops s t) := by
  unfold Machine.takeDrops
  split
  · refine foldl (fun l hu => ?_) h
    split
    · exact K.happen _ hu
    · exact hu
  · exact h

theorem beside {f : State → State} (own : Option Link) (hf : ∀ {u}, P u → Q (f u)) (h : P s) : P (beside own f s) := by
  unfold Machine.beside
  split
  · exact K.takeDrops s (K.pump (hf h))
  · exact K.outside hf h

theorem lineUp (l : Link) (h : P s) : P (lineUp l s) := by
  unfold Machine.lineUp
  split
  · exact K.pump (K.breakEnd h)
  · exact h

theorem frameArrives {f : State → State} {l : Link} (hf : ∀ {u}, P u → Q (f u)) (h : P s) : P (frameArrives l f s) := by
  refine K.beside _ (fun {u} hu => ?_) h
  have hline := K.lineUp l hu
  dsimp only
  split
  · exact K.rest hline
  · exact hf (K.setReceiver hline)

theorem acceptance {carry : State → State} {l : Link} {tag : Byte} {body : List Byte}
    (hc : ∀ {u}, P u → (u.link l).occupied < 8 → Q (carry (reserveSlot l u))) (h : P s) :
    Q (acceptance l tag body carry s) := by
  unfold Machine.acceptance
  split
  · exact K.discard h
  · split
    · exact K.discard h
    · split
      · exact K.discard h
      · next hfree => exact hc h (Nat.lt_of_not_le hfree)

theorem receive (l : Link) (b : Byte) (h : P s) : Q (receive l b s) := by
  unfold Machine.receive
  split
  · split
    · exact K.rest (K.setReceiver h)
    · exact K.rest h
  · split
    · exact K.rest (K.setReceiver h)
    · exact K.discard h
  · dsimp only
    split <;> exact K.rest (K.setReceiver h)
  · split
    · split
      · refine K.acceptance (fun {u} hu hfree => ?_) (K.setReceiver h)
        split
        · exact K.request hu hfree
        · exact K.answer hu hfree
      · exact K.rest (K.setReceiver h)
    · exact K.discard h

theorem byteArrives (l : Link) (b : Byte) (h : P s) : P (byteArrives l b s) := by
  refine K.beside _ (fun {u} hu => ?_) h
  have hline := K.lineUp l hu
  dsimp only
  split
  · exact K.rest hline
  · exact K.receive l b hline

theorem requestArrives (t : ReqType) (l : Link) (tag : Byte) (body : List Byte) (h : P s) :
    P (requestArrives t l tag body s) :=
  K.frameArrives (fun hu => K.acceptance (fun hv hfree => K.request hv hfree) hu) h

theorem settingArrives (x : Setting) (l : Link) (tag : Byte) (value : BitVec 24) (h : P s) :
    P (settingArrives x l tag value s) := by
  refine K.frameArrives (fun hu => K.acceptance (fun {v} hv hfree => ?_) hu) h
  dsimp only
  split
  · exact K.answer hv hfree
  · exact K.setting hv hfree

theorem queryArrives (it : Item) (l : Link) (tag part : Byte) (args : List Byte) (h : P s) :
    P (queryArrives it l tag part args s) := by
  refine K.frameArrives (fun hu => K.acceptance (fun {v} hv hfree => ?_) hu) h
  dsimp only
  split <;> exact K.answer hv hfree

theorem overrunCheck (l : Link) (h : P s) : Q (overrunCheck l s) := by
  unfold Machine.overrunCheck
  split
  · exact K.discard h
  · exact K.rest h

theorem unknownRequest (l : Link) (type tag : Byte) (body : List Byte) (h : P s) :
    P (if (reqTypeOf type).isSome then Machine.settle s
      else Machine.frameArrives l (Machine.acceptance l tag body (unknownType l tag)) s) := by
  split
  · exact K.settle h
  · exact K.frameArrives (fun hu => K.acceptance (fun hv hfree => K.answer hv hfree) hu) h

/-- Every command answers a next state and keeps a law that each row by itself keeps. -/
theorem answers (c : Instr) (h : P s) : ∃ t, Machine.exec c s = .next t ∧ P t := by
  cases c
  case powerOn => exact ⟨_, rfl, K.powerOn h⟩
  case inputFrame => exact ⟨_, rfl, K.beside none (fun hu => K.inputFrame hu) h⟩
  case ifeBlockBoundary => exact ⟨_, rfl, K.outside (fun hu => K.frontEndBoundary hu) h⟩
  case laneBlockBoundary => exact ⟨_, rfl, K.outside (fun hu => K.laneBoundary hu) h⟩
  case breakEnd l => exact ⟨_, rfl, K.beside (some l) (fun hu => K.breakEnd hu) h⟩
  case breakBegins => exact ⟨_, rfl, K.outside (fun hu => K.breakBegins hu) h⟩
  case messageSent => exact ⟨_, rfl, K.outside (fun hu => K.messageEnds hu) h⟩
  case controlMillisecond => exact ⟨_, rfl, K.outside (fun hu => K.controlMillisecond hu) h⟩
  case badFrame | badCheck => exact ⟨_, rfl, K.frameArrives (fun hu => K.discard hu) h⟩
  case overrun l => exact ⟨_, rfl, K.frameArrives (fun hu => K.overrunCheck l hu) h⟩
  case unknownRequest l type tag body => exact ⟨_, rfl, K.unknownRequest l type tag body h⟩
  case byteReceived l b => exact ⟨_, rfl, K.byteArrives l b h⟩
  case dcWindowEnd | flagLatch | decimatedSample | tunerStale | fadeComplete | dipOutEnd | dipComplete | tailTimerExpiry
      | tailFloorEnd | cutEnd | tenureExpiry | safetyTimerExpiry | gapTimeout | linkDrop | softReset =>
    exact ⟨_, rfl, K.happen _ h⟩
  case settingPresenceFloor | settingTenure | settingReferencePitch | settingHysteresis | settingWIn | settingWNear
      | settingTunerMuteSet | settingSafetyTimer | settingAttenuation | settingOverThreshold | settingDcThreshold
      | settingLossFloor | settingTOver | settingTDc | settingTLoss =>
    exact ⟨_, rfl, K.settingArrives _ _ _ _ h⟩
  case queryWorkingSceneGroup | queryLibraryGroup | queryStoreRecordState | queryMapEntry | queryProfile | queryActiveProfile
      | queryWindow | queryTempo | queryTuner | queryMute | queryProtectionFlags | queryCapture | queryLaneStates
      | querySetting | queryLink =>
    exact ⟨_, rfl, K.queryArrives _ _ _ _ _ h⟩
  -- the rows that stay are requests of the types other than SETTING and QUERY
  all_goals exact ⟨_, rfl, K.requestArrives _ _ _ _ h⟩

theorem exec {c : Instr} (h : P s) (hexec : exec c s = .next t) : P t := by
  obtain ⟨u, hu, hPu⟩ := K.answers c h
  cases hexec.symm.trans hu
  exact hPu

/-- Every step keeps a law that each row by itself keeps and that does not read the queue of commands. -/
theorem step (hpending : ∀ {u x}, P u → P (u.withPending x)) (h : P s) (hstep : step s = .next t) : P t := by
  unfold Machine.step at hstep
  split at hstep
  · exact Host.Outcome.next.inj hstep ▸ K.settle h
  · exact K.exec (hpending h) hstep

end RowsKeep

/-! ### The queue -/

/-- No row touches the queue of commands that wait. -/
theorem rowsKeep_pending (p : List Instr) : RowsKeep (fun s => s.pending = p) (fun s => s.pending = p) := by
  have keep {s t : State} {bs : List Block} (hc : changesOnly bs s t) (hb : Block.pending ∉ bs) (h : s.pending = p) :
      t.pending = p :=
    (hc .pending hb).trans h
  constructor
  case rest => exact id
  case pump => exact id
  case powerOn => exact keep changesOnly_powerOn (by decide)
  case effect => exact fun {e s} h _ => keep (changesOnly_effect.mono e.blocks_subset) (by decide) h
  case inputFrame => exact keep changesOnly_inputFrame (by decide)
  case frontEndBoundary => exact keep changesOnly_frontEndBoundary (by decide)
  case laneBoundary => exact keep changesOnly_laneBoundary (by decide)
  case controlMillisecond => exact id
  case breakBegins => exact keep changesOnly_breakBegins (by decide)
  case breakEnd => exact keep changesOnly_breakEnd (by decide)
  case messageEnds => exact keep changesOnly_messageEnds (by decide)
  case setReceiver => exact id
  case discard => exact keep (changesOnly_discard _ _ _) (by decide)
  case request => exact fun h _ => keep changesOnly_checkRequest (by decide) h
  case answer => exact fun h _ => h
  case setting => exact fun {t v l _ s} h _ =>
    ((changesOnly_setting (t := t) (v := v) (s := reserveSlot l s)).same .pending (by decide)).trans h

/-- The row of an event takes it if it is due. -/
theorem exec_eventCommand (e : Event) (s : State) : exec e.command s = .next (happen e s) := by
  cases e <;> rfl

/-! ### The state after power-on -/

theorem quiet_reset : quiet State.reset = true := by decide

end Sys2Proof.Machine

namespace Sys2Proof.Laws

open Sys2Proof.Machine

/-- Settles O1: the two cases of the step function; an idle part that is quiet settles nothing. -/
theorem stepRunsFrontCommand : Obligations.StepRunsFrontCommand := by
  refine ⟨fun c rest s hs => ?front, fun s hs hquiet => ?idle⟩
  case front => simp only [step, hs]
  case idle => simp only [step, hs, idle, settle_of_quiet hquiet]

/-- Settles O2: every row has a next state and none touches the queue; an event's own row is `happen`. -/
theorem everyCommandAnswers : Obligations.EveryCommandAnswers := by
  refine ⟨fun c s => ?answers, fun e s hdue => ?notDue⟩
  case answers =>
    exact (rowsKeep_pending s.pending).answers c rfl
  case notDue => rw [exec_eventCommand, happen_of_not_due hdue]

/-- Settles O3: each law is evaluated on the power-on state. -/
theorem resetMeetsLaws : Obligations.ResetMeetsLaws := by
  refine ⟨?_, ?_, ?_, ?_, ?_, ?_, ?_, ?_, ?_, ?_, ?_, ?_, quiet_reset⟩ <;> decide

end Sys2Proof.Laws

/-! Laws of the blocks: a law that reads neither the links nor the capture is checked against each owner's own effect, and every
row then keeps it. -/

namespace Sys2Proof.Machine

/-- A law reads the listed blocks alone. -/
def Reads (R : List Block) (P : State → Prop) : Prop := ∀ s t : State, (∀ b ∈ R, b.same s t) → P s → P t

/-- A change elsewhere keeps a law. -/
theorem Reads.keep {R bs : List Block} {P : State → Prop} {s t : State} (hR : Reads R P) (hc : changesOnly bs s t)
    (hd : ∀ b ∈ R, b ∉ bs) (h : P s) : P t :=
  hR s t (fun b hb => hc b (hd b hb)) h

theorem Reads.and {R : List Block} {P Q : State → Prop} (hP : Reads R P) (hQ : Reads R Q) : Reads R (fun s => P s ∧ Q s) :=
  fun s t hb h => ⟨hP s t hb h.1, hQ s t hb h.2⟩

theorem Reads.mono {R R' : List Block} {P : State → Prop} (hP : Reads R P) (hsub : ∀ b ∈ R, b ∈ R') : Reads R' P :=
  fun s t hb h => hP s t (fun b hmem => hb b (hsub b hmem)) h

/-- The blocks a law of the blocks may read. -/
def lawBlocks : List Block := [.lanes, .stores, .engine, .arbiter, .control, .tuner, .mixer, .protection]

/-- A law of the blocks that a grant keeps: it does not read the slots, the tenure or the grant record. What changes no block
that the law reads need not be said. -/
structure GrantsKeep (P : State → Prop) : Prop where
  reads : Reads lawBlocks P
  arbiter : ∀ {s a}, P s → a.windows = s.arbiter.windows → P (s.withArbiter a) := by
    exact fun h _ => Reads.keep ‹_› changesOnly_withArbiter (by decide) h
  tunerOff : ∀ {s}, P s → P (tunerOff s) := by
    exact fun h => Reads.keep ‹_› changesOnly_tunerOff (by decide) h
  begins : ∀ {s l i p}, P s → s.engine.transition = none → s.stores.preset i = .valid p →
    s.stores.presetReady p = true → P (beginTransition l i p s) := by
    exact fun h _ _ _ => Reads.keep ‹_› changesOnly_beginTransition (by decide) h

namespace GrantsKeep

variable {P : State → Prop} (K : GrantsKeep P) {s t : State}

include K

theorem keep {bs : List Block} (hc : changesOnly bs s t) (h : P s) (hd : ∀ b ∈ lawBlocks, b ∉ bs) : P t :=
  K.reads.keep hc hd h

theorem grantAsked (l : Link) (h : P s) : P (grantAsked l s) := by
  unfold Machine.grantAsked
  dsimp only
  split
  · exact K.tunerOff (K.arbiter h rfl)
  · exact K.arbiter h rfl

theorem engineGrant (l : Link) (i : Nat) (htr : s.engine.transition = none) (h : P s) : P (engineGrant l i s).2 := by
  unfold Machine.engineGrant
  split
  · next p hp =>
    split
    · exact K.keep (changesOnly_writeFault _ _) h (by decide)
    · next hready =>
      split
      · exact h
      · exact K.begins h htr hp (by simpa using hready)
  · exact K.keep (changesOnly_writeFault _ _) h (by decide)

theorem grantAnswered {l : Link} {w : Waiting} {x : Option Result × State} (h : P x.2) : P (grantAnswered l w x) := by
  unfold Machine.grantAnswered
  split
  · exact K.keep changesOnly_respond h (by decide)
  · exact K.arbiter h rfl

theorem grantRecall (l : Link) (w : Waiting) (htr : s.engine.transition = none) (h : P s) : P (grantRecall l w s) := by
  rw [grantRecall_eq]
  refine K.grantAnswered (K.engineGrant l w.index ?_ (K.grantAsked l h))
  rw [changesOnly_grantAsked.same .engine (by decide)]
  exact htr

theorem look (n : Nat) (h : P s) : P (look n s) := by
  induction n generalizing s with
  | zero => exact h
  | succ n ih =>
    unfold Machine.look
    split
    · exact h
    · next htr =>
      split
      · exact h
      · split
        · exact h
        · exact ih (K.grantRecall _ _ (by simpa using htr) h)

theorem arbiterLook (h : P s) : P (arbiterLook s) := K.look 3 h

theorem enterSlot (l : Link) (w : Waiting) (h : P s) : P (enterSlot l w s) := by
  unfold Machine.enterSlot
  dsimp only
  refine K.arbiterLook (K.arbiter ?_ rfl)
  split
  · exact K.keep changesOnly_respond h (by decide)
  · exact h

theorem refuseRecall (l : Link) (byIndex : Bool) (tag : Byte) (r : Result) (f : Option FaultRec) (h : P s) :
    P (refuseRecall l byIndex tag r f s) :=
  K.keep changesOnly_refuseRecall h (by decide)

theorem takeRecall (l : Link) (tag : Byte) (body : List Byte) (h : P s) : P (takeRecall l tag body s) := by
  unfold Machine.takeRecall
  dsimp only
  split
  · exact K.refuseRecall _ _ _ _ _ h
  · split
    · exact K.keep changesOnly_respond h (by decide)
    · exact K.enterSlot _ _ h

theorem takeRecallIndex (l : Link) (tag : Byte) (body : List Byte) (h : P s) : P (takeRecallIndex l tag body s) := by
  unfold Machine.takeRecallIndex
  dsimp only
  split
  · exact K.refuseRecall _ _ _ _ _ h
  · split
    · exact K.enterSlot _ _ h
    · exact K.refuseRecall _ _ _ _ _ h

theorem arbiterCompletion (origin : Link) (h : P s) : P (arbiterCompletion origin s) := by
  unfold Machine.arbiterCompletion
  dsimp only
  refine K.arbiterLook (K.arbiter ?_ rfl)
  split
  · split
    · exact K.keep changesOnly_respond h (by decide)
    · exact h
  · exact h

theorem tenureExpiry (h : P s) : P (tenureExpiry s) := K.arbiterLook (K.arbiter h rfl)

end GrantsKeep

/-- The state of the part at a completion, before SCENE is raised and the arbiter takes it (R69): the record is the last report
and the engine is READY. -/
def completed (t : Transition) (s : State) : State :=
  s.withEngine { s.engine with transition := none, report := some ⟨t.origin, t.kind, t.tailCut, t.editsDiscarded⟩ }

/-- A completion moves the lanes and the engine. -/
theorem changesOnly_completed {t : Transition} {s : State} {x : PerLane Lane} :
    changesOnly [.lanes, .engine] s (completed t (s.withLanes x)) :=
  .trans (.mono changesOnly_withLanes (by decide)) (.mono changesOnly_withEngine (by decide))

/-- What each owner of a block does by itself keeps a law of the blocks. Where a law in the context reads none of the blocks
that an owner changes, there is nothing to say of that owner. -/
structure OwnersKeep (P : State → Prop) : Prop extends GrantsKeep P where
  powerOn : ∀ {s}, P s → P (powerOn s)
  softReset : ∀ {s}, P s → P (softReset s)
  inputFrame : ∀ {x s}, P s → P (inputFrame x s) := by
    exact fun h => Reads.keep ‹_› changesOnly_inputFrame (by decide) h
  laneBoundary : ∀ {x s}, P s → P (laneBoundary x s) := by
    exact fun h => Reads.keep ‹_› changesOnly_laneBoundary (by decide) h
  controlMillisecond : ∀ {s}, P s → P (controlMillisecond s) := by
    exact fun h => Reads.keep ‹_› changesOnly_controlMillisecond (by decide) h
  dcWindowEnd : ∀ {s}, P s → P (dcWindowEnd s) := by
    exact fun h => Reads.keep ‹_› changesOnly_dcWindowEnd (by decide) h
  flagLatch : ∀ {b c s}, P s → P (flagLatch b c s) := by
    exact fun h => Reads.keep ‹_› changesOnly_flagLatch (by decide) h
  decimatedSample : ∀ {s}, P s → s.tuner.engaged = true → P (decimatedSample s) := by
    exact fun h _ => Reads.keep ‹_› changesOnly_decimatedSample (by decide) h
  tunerStale : ∀ {s}, P s → s.tuner.state = .reading → P (tunerStale s) := by
    exact fun h _ => Reads.keep ‹_› changesOnly_tunerStale (by decide) h
  safetyExpiry : ∀ {s}, P s → P (safetyExpiry s) := by
    exact fun h => Reads.keep ‹_› changesOnly_safetyExpiry (by decide) h
  cut : ∀ {x s}, P s → (s.lanes.get x).state = .tailing → P (s.setLane x (s.lanes.get x).cut) := by
    exact fun h _ => Reads.keep ‹_› changesOnly_setLane (by decide) h
  laneIdle : ∀ {x s}, P s → (s.lanes.get x).state = .tailing ∨ (s.lanes.get x).state = .cutting → P (laneIdle x s) := by
    exact fun h _ => Reads.keep ‹_› changesOnly_laneIdle (by decide) h
  dipOutEnd : ∀ {s t}, P s → s.engine.transition = some t → t.phase = .dipOut → P (dipOutEnd t s) := by
    exact fun h _ _ => Reads.keep ‹_› changesOnly_dipOutEnd (by decide) h
  fadeCompleted : ∀ {s t}, P s → s.engine.transition = some t → t.phase = .cross → t.fade ≤ t.j →
    P (completed t (s.withLanes (s.lanes.map (fun l => (l.endFade t.tailHold).arrive)))) := by
    exact fun h _ _ _ => Reads.keep ‹_› changesOnly_completed (by decide) h
  dipCompleted : ∀ {s t}, P s → s.engine.transition = some t → t.phase = .dipIn → t.fade ≤ t.j →
    P (completed t (s.withLanes (s.lanes.map Lane.arrive))) := by
    exact fun h _ _ _ => Reads.keep ‹_› changesOnly_completed (by decide) h
  deliver : ∀ {t l body s}, P s → t ≠ .setting → P (deliver t l body s).2
  setting : ∀ {t v s}, P s → P (setting t v s).2 := by
    exact fun h => Reads.keep ‹_› changesOnly_setting (by decide) h

namespace OwnersKeep

variable {P : State → Prop} (K : OwnersKeep P) {s : State}

include K

theorem completeTransition {t : Transition} (h : P (completed t s)) : P (completeTransition t s) :=
  K.arbiterCompletion _ (K.keep changesOnly_raiseNotice h (by decide))

omit K in
theorem onTransition {f : Transition → State → State} (hf : ∀ t, s.engine.transition = some t → P (f t s)) (h : P s) :
    P (onTransition f s) := by
  unfold Machine.onTransition
  split
  · next t ht => exact hf t ht
  · exact h

theorem linkDrop (l : Link) (h : P s) : P (linkDrop l s) := by
  have hdropped : P ((s.setLink l (s.link l).dropped).withArbiter (s.arbiter.drop l)) :=
    K.arbiter (K.keep changesOnly_setLink h (by decide)) rfl
  rw [linkDrop_eq]
  split
  · exact K.softReset hdropped
  · exact hdropped

theorem effect {e : Event} (h : P s) (hdue : due e s = true) : P (effect e s) := by
  cases e
  case dcWindowEnd => exact K.dcWindowEnd h
  case flagLatch => exact K.flagLatch h
  case decimatedSample =>
    simp only [due, Bool.and_eq_true] at hdue
    exact K.decimatedSample h hdue.1
  case tunerStale =>
    simp only [due, Bool.and_eq_true, beq_iff_eq] at hdue
    exact K.tunerStale h hdue.1
  case tailTimerExpiry x =>
    simp only [due, Bool.and_eq_true, beq_iff_eq] at hdue
    exact K.cut h hdue.1
  case tailFloorEnd x =>
    simp only [due, Bool.and_eq_true, beq_iff_eq] at hdue
    exact K.laneIdle h (.inl hdue.1)
  case cutEnd x =>
    simp only [due, Bool.and_eq_true, beq_iff_eq] at hdue
    exact K.laneIdle h (.inr hdue.1)
  case dipOutEnd =>
    refine onTransition (fun t ht => K.dipOutEnd h ht ?_) h
    simp only [due, Engine.dipping, ht, Bool.and_eq_true, beq_iff_eq] at hdue
    exact hdue.1
  case fadeComplete =>
    refine onTransition (fun t ht => ?_) h
    simp only [due, Engine.transitionIs, ht, Bool.and_eq_true, beq_iff_eq, decide_eq_true_eq] at hdue
    exact K.completeTransition (K.fadeCompleted h ht hdue.1 hdue.2)
  case dipComplete =>
    refine onTransition (fun t ht => ?_) h
    simp only [due, Engine.transitionIs, ht, Bool.and_eq_true, beq_iff_eq, decide_eq_true_eq] at hdue
    exact K.completeTransition (K.dipCompleted h ht hdue.1 hdue.2)
  case gapTimeout => exact K.keep (changesOnly_discard _ _ _) h (by decide)
  case linkDrop l => exact K.linkDrop l h
  case safetyTimerExpiry => exact K.safetyExpiry h
  case tenureExpiry => exact K.tenureExpiry h
  case softReset => exact K.softReset h

theorem carryOut (t : ReqType) (l : Link) (tag : Byte) (body : List Byte) (h : P s) : P (carryOut t l tag body s) := by
  unfold Machine.carryOut
  split
  · exact K.takeRecall _ _ _ h
  · exact K.takeRecallIndex _ _ _ h
  · exact K.keep changesOnly_queueMessage h (by decide)
  · by_cases hset : t = .setting
    · subst hset
      refine K.keep changesOnly_respond ?_ (by decide)
      unfold Machine.deliver
      dsimp only
      split
      · exact K.setting h
      · exact h
    · exact K.keep changesOnly_respond (K.deliver h hset) (by decide)

theorem checkRequest (t : ReqType) (l : Link) (tag : Byte) (body : List Byte) (h : P s) :
    P (checkRequest t l tag body s) := by
  unfold Machine.checkRequest
  split
  · exact K.keep changesOnly_respond h (by decide)
  · split
    · exact K.keep changesOnly_respond h (by decide)
    · exact K.carryOut t l tag body h

/-- Every row keeps a law of the blocks that each owner keeps. -/
theorem rowsKeep : RowsKeep P P where
  rest := id
  pump h := K.keep changesOnly_pumped h (by decide)
  powerOn := K.powerOn
  effect := K.effect
  inputFrame := K.inputFrame
  frontEndBoundary h := K.keep changesOnly_frontEndBoundary h (by decide)
  laneBoundary := K.laneBoundary
  controlMillisecond := K.controlMillisecond
  breakBegins h := K.keep changesOnly_breakBegins h (by decide)
  breakEnd h := K.keep changesOnly_breakEnd h (by decide)
  messageEnds h := K.keep changesOnly_messageEnds h (by decide)
  setReceiver h := K.keep changesOnly_setReceiver h (by decide)
  discard h := K.keep (changesOnly_discard _ _ _) h (by decide)
  request h _ := K.checkRequest _ _ _ _ (K.keep changesOnly_reserveSlot h (by decide))
  answer h _ := K.keep changesOnly_queueMessage (K.keep changesOnly_reserveSlot h (by decide)) (by decide)
  setting h _ := K.keep changesOnly_respond (K.setting (K.keep changesOnly_reserveSlot h (by decide))) (by decide)

theorem step {t : State} (h : P s) (hstep : step s = .next t) : P t :=
  K.rowsKeep.step (fun hu => K.keep changesOnly_withPending hu (by decide)) h hstep

end OwnersKeep

end Sys2Proof.Machine

/-! Laws of one lane at a time, and the law of the addressed tables. -/

namespace Sys2Proof.Machine

/-- Two laws that the owners keep are kept together. -/
theorem OwnersKeep.and {P Q : State → Prop} (hP : OwnersKeep P) (hQ : OwnersKeep Q) : OwnersKeep (fun s => P s ∧ Q s) where
  reads := Reads.and hP.reads hQ.reads
  arbiter h ha := ⟨hP.arbiter h.1 ha, hQ.arbiter h.2 ha⟩
  tunerOff h := ⟨hP.tunerOff h.1, hQ.tunerOff h.2⟩
  begins h h1 h2 h3 := ⟨hP.begins h.1 h1 h2 h3, hQ.begins h.2 h1 h2 h3⟩
  powerOn h := ⟨hP.powerOn h.1, hQ.powerOn h.2⟩
  softReset h := ⟨hP.softReset h.1, hQ.softReset h.2⟩
  inputFrame h := ⟨hP.inputFrame h.1, hQ.inputFrame h.2⟩
  laneBoundary h := ⟨hP.laneBoundary h.1, hQ.laneBoundary h.2⟩
  controlMillisecond h := ⟨hP.controlMillisecond h.1, hQ.controlMillisecond h.2⟩
  dcWindowEnd h := ⟨hP.dcWindowEnd h.1, hQ.dcWindowEnd h.2⟩
  flagLatch h := ⟨hP.flagLatch h.1, hQ.flagLatch h.2⟩
  decimatedSample h h1 := ⟨hP.decimatedSample h.1 h1, hQ.decimatedSample h.2 h1⟩
  tunerStale h h1 := ⟨hP.tunerStale h.1 h1, hQ.tunerStale h.2 h1⟩
  safetyExpiry h := ⟨hP.safetyExpiry h.1, hQ.safetyExpiry h.2⟩
  cut h h1 := ⟨hP.cut h.1 h1, hQ.cut h.2 h1⟩
  laneIdle h h1 := ⟨hP.laneIdle h.1 h1, hQ.laneIdle h.2 h1⟩
  dipOutEnd h h1 h2 := ⟨hP.dipOutEnd h.1 h1 h2, hQ.dipOutEnd h.2 h1 h2⟩
  fadeCompleted h h1 h2 h3 := ⟨hP.fadeCompleted h.1 h1 h2 h3, hQ.fadeCompleted h.2 h1 h2 h3⟩
  dipCompleted h h1 h2 h3 := ⟨hP.dipCompleted h.1 h1 h2 h3, hQ.dipCompleted h.2 h1 h2 h3⟩
  deliver h ht := ⟨hP.deliver h.1 ht, hQ.deliver h.2 ht⟩
  setting h := ⟨hP.setting h.1, hQ.setting h.2⟩

/-! ### Laws of one lane -/

/-- What happens to a single lane keeps a law of it. -/
structure LaneLaw (p : Lane → Prop) : Prop where
  initial : p .initial
  compute : ∀ {st d x l}, p l → p (l.compute st d x).1
  phase : ∀ {l n b}, p l → p { l with phase := n, boundaryTaken := b }
  latch : ∀ {l}, p l → p l.latch
  pending : ∀ {l n}, p l → p { l with pendingSet := n }
  load : ∀ {l q r n m}, p l → p (l.load q r n m)
  state : ∀ {l st}, p l → p { l with state := st }
  toIdle : ∀ {l}, p l → p l.toIdle
  tail : ∀ {l n}, p l → p { l with floorCount := 0, tailTimer := n }
  weight : ∀ {l n}, p l → p { l with weight := n }

namespace LaneLaw

variable {p : Lane → Prop} (K : LaneLaw p) {l : Lane}

include K

theorem frame {st : Stores} {d : Bool} {x : Int} (h : p l) : p (l.frame st d x).1 := by
  unfold Lane.frame
  split
  · exact h
  · refine K.phase (K.compute ?_)
    split
    · exact K.latch h
    · exact h

theorem pend {f : ChainId → PendingSet → PendingSet} (h : p l) : p (l.pend f) := by
  unfold Lane.pend
  split
  · exact K.pending h
  · exact h

theorem freeze (h : p l) : p l.freeze := by
  unfold Lane.freeze
  split
  · exact K.state (l := { l with pendingSet := .empty }) (K.pending h)
  · exact h

theorem arrive (h : p l) : p l.arrive := by
  unfold Lane.arrive
  split
  · exact K.state h
  · exact h

theorem endFade {hold : Option Nat} (h : p l) : p (l.endFade hold) := by
  unfold Lane.endFade
  split
  · split
    · exact K.state (l := { l with floorCount := 0, tailTimer := _ }) (K.tail h)
    · exact K.state h
  · exact h

theorem writeWeight {w : Nat} (h : p l) : p (l.writeWeight w) := by
  unfold Lane.writeWeight
  split
  · exact K.weight h
  · exact K.weight h
  · exact h

end LaneLaw

/-- A law of one lane holds of both. -/
def bothLanes (p : Lane → Prop) (s : State) : Prop := ∀ x, p (s.lanes.get x)

theorem reads_bothLanes (p : Lane → Prop) : Reads [.lanes] (bothLanes p) := by
  intro s t hb h x
  have hlanes : t.lanes = s.lanes := hb .lanes (by decide)
  rw [hlanes]
  exact h x

section

variable {p : Lane → Prop} {s : State}

theorem bothLanes_keep {bs : List Block} {t : State} (hc : changesOnly bs s t) (hd : Block.lanes ∉ bs)
    (h : bothLanes p s) : bothLanes p t :=
  (reads_bothLanes p).keep hc (by simpa using hd) h

theorem bothLanes_map {f : Lane → Lane} (hf : ∀ {l}, p l → p (f l)) (h : bothLanes p s) :
    bothLanes p (s.withLanes (s.lanes.map f)) := by
  intro x
  rw [State.withLanes_lanes, PerLane.get_map]
  exact hf (h x)

theorem bothLanes_setLane {x : LaneId} {l : Lane} (hl : p l) (h : bothLanes p s) : bothLanes p (s.setLane x l) := by
  intro y
  rw [State.setLane_lanes, PerLane.get_set]
  split
  · exact hl
  · exact h y

theorem bothLanes_withLanes {a b : Lane} (ha : p a) (hb : p b) : bothLanes p (s.withLanes ⟨a, b⟩) := by
  intro x
  cases x
  · exact ha
  · exact hb

end

namespace LaneLaw

variable {p : Lane → Prop} (K : LaneLaw p) {s : State}

include K

theorem loadLanes (t : Transition) (sc : Scene) (h : bothLanes p s) : bothLanes p (loadLanes t sc s) := by
  unfold Machine.loadLanes
  split
  · split
    · exact bothLanes_setLane (K.load (h _)) h
    · exact h
  · exact bothLanes_setLane (K.load (h .a)) h
  · exact bothLanes_withLanes (K.load (h .a)) (K.load (h .b))

theorem loadStep (t : Transition) (h : bothLanes p s) : bothLanes p (loadStep t s) := by
  refine K.loadLanes _ _ (bothLanes_keep changesOnly_withEngine (by decide) ?_)
  exact bothLanes_keep changesOnly_applyPresetTempo (by decide) (bothLanes_map K.freeze h)

theorem dipOutEnd (t : Transition) (h : bothLanes p s) : bothLanes p (dipOutEnd t s) :=
  K.loadStep t (bothLanes_map K.toIdle h)

theorem enterDipOut (t : Transition) (h : bothLanes p s) : bothLanes p (enterDipOut t s) := by
  unfold Machine.enterDipOut
  dsimp only
  split
  · exact K.dipOutEnd _ h
  · exact bothLanes_keep changesOnly_withEngine (by decide) h

theorem enterPrepare (t : Transition) (x : LaneId) (h : bothLanes p s) : bothLanes p (enterPrepare t x s) := by
  unfold Machine.enterPrepare
  split
  · exact K.loadStep _ h
  · exact bothLanes_keep changesOnly_withEngine (by decide) (bothLanes_setLane (K.state (h x)) h)
  · exact bothLanes_keep changesOnly_withEngine (by decide) h

theorem beginTransition (l : Link) (i : Nat) (q : Preset) (h : bothLanes p s) : bothLanes p (beginTransition l i q s) := by
  have hraised := bothLanes_keep (changesOnly_raiseNotice (c := .scene)) (by decide) h
  unfold Machine.beginTransition
  dsimp only
  split
  · exact K.enterDipOut _ hraised
  · exact K.enterPrepare _ _ hraised

theorem laneIdle (x : LaneId) (h : bothLanes p s) : bothLanes p (laneIdle x s) := by
  have hidle : bothLanes p (s.setLane x (s.lanes.get x).toIdle) := bothLanes_setLane (K.toIdle (h x)) h
  unfold Machine.laneIdle
  dsimp only
  split
  · split
    · exact K.loadStep _ hidle
    · exact hidle
  · exact hidle

theorem engineFrame (h : bothLanes p s) : bothLanes p (engineFrame s) := by
  unfold Machine.engineFrame
  split
  · split
    · exact bothLanes_keep changesOnly_withEngine (by decide) (bothLanes_map K.writeWeight h)
    · exact h
  · exact h

theorem inputFrame (x : Int) (h : bothLanes p s) : bothLanes p (inputFrame x s) := by
  refine bothLanes_keep changesOnly_withTuner (by decide) (bothLanes_keep changesOnly_protectionFrame (by decide)
    (bothLanes_keep changesOnly_withMixer (by decide) (K.engineFrame ?_)))
  exact bothLanes_withLanes (K.frame (h .a)) (K.frame (h .b))

theorem pendLanes (f : ChainId → PendingSet → PendingSet) (h : bothLanes p s) : bothLanes p (pendLanes f s) :=
  bothLanes_map K.pend h

theorem pendLengths (h : bothLanes p s) : bothLanes p (pendLengths s) := by
  unfold Machine.pendLengths
  split
  · exact h
  · exact K.pendLanes _ h

theorem writeTempo (ctl : Control) (h : bothLanes p s) : bothLanes p (writeTempo ctl s) :=
  K.pendLengths (bothLanes_keep changesOnly_raiseNotice (by decide) (bothLanes_keep changesOnly_withControl (by decide) h))

theorem pedal (body : List Byte) (h : bothLanes p s) : bothLanes p (pedal body s).2 := by
  unfold Machine.pedal
  split
  · exact h
  · dsimp only
    split
    · exact bothLanes_keep changesOnly_withControl (by decide) h
    · exact K.pendLanes _ (bothLanes_keep changesOnly_setScene (by decide)
        (bothLanes_keep changesOnly_withControl (by decide) h))

theorem carryEdit (sc : Scene) (c : ChainId) (g : Group) (h : bothLanes p s) : bothLanes p (carryEdit sc c g s) := by
  unfold Machine.carryEdit
  dsimp only
  split <;> exact K.pendLanes _ (bothLanes_keep changesOnly_setScene (by decide) h)

theorem edit (body : List Byte) (h : bothLanes p s) : bothLanes p (edit body s).2 := by
  unfold Machine.edit
  dsimp only
  split
  · split
    · exact h
    · split
      · exact h
      · split
        · exact h
        · exact K.carryEdit _ _ _ h
  · exact h

theorem tap (h : bothLanes p s) : bothLanes p (tap s).2 := by
  unfold Machine.tap
  dsimp only
  split
  · exact h
  · split
    · exact bothLanes_keep changesOnly_withControl (by decide) h
    · split
      · exact bothLanes_keep changesOnly_withControl (by decide) h
      · exact K.writeTempo _ h

theorem tempo (body : List Byte) (h : bothLanes p s) : bothLanes p (tempo body s).2 := by
  unfold Machine.tempo
  split
  · exact h
  · exact K.writeTempo _ h

/-- What happens to single lanes is all that happens to lanes. -/
theorem ownersKeep (hR : Reads [.lanes] (bothLanes p) := reads_bothLanes p) : OwnersKeep (bothLanes p) where
  reads := (reads_bothLanes p).mono (by decide)
  begins h _ _ _ := K.beginTransition _ _ _ h
  powerOn _ := fun x => by cases x <;> exact K.initial
  softReset _ := fun x => by cases x <;> exact K.initial
  inputFrame h := K.inputFrame _ h
  laneBoundary {x s} h := by
    unfold Machine.laneBoundary
    dsimp only
    split
    · exact bothLanes_setLane (K.phase (K.latch (h x))) h
    · exact h
  cut {x s} h _ := bothLanes_setLane (K.state (h x)) h
  laneIdle h _ := K.laneIdle _ h
  dipOutEnd h _ _ := K.dipOutEnd _ h
  fadeCompleted h _ _ _ := bothLanes_keep changesOnly_withEngine (by decide) (bothLanes_map (fun hl => K.arrive (K.endFade hl)) h)
  dipCompleted h _ _ _ := bothLanes_keep changesOnly_withEngine (by decide) (bothLanes_map K.arrive h)
  deliver {t l body s} h _ := by
    cases t
    case edit => exact K.edit body h
    case pedal => exact K.pedal body h
    case tap => exact K.tap h
    case tempo => exact K.tempo body h
    all_goals exact bothLanes_keep changesOnly_deliver (by decide) h

end LaneLaw

/-! ### The addressed tables -/

/-- The tables of the stores are in canonical form, and so is the table in each curve and impulse record. -/
structure Stores.Canonical (st : Stores) : Prop where
  curves : tableWf .initial st.curves = true
  curveValues : ∀ kv ∈ st.curves, tableWf 0 kv.2.values = true
  impulses : tableWf .initial st.impulses = true
  impulseValues : ∀ kv ∈ st.impulses, tableWf 0 kv.2.values = true
  presets : tableWf .empty st.presets = true
  bankMap : tableWf none st.bankMap = true
  profiles : tableWf .standard st.profiles = true

theorem tablesCanonical_iff (s : State) :
    tablesCanonical s = true ↔ s.stores.Canonical ∧ bothLanes (fun l => tableWf 0 l.delayHalf = true) s := by
  simp only [tablesCanonical, Bool.and_eq_true, List.all_eq_true]
  constructor
  · rintro ⟨⟨⟨⟨⟨⟨⟨⟨h1, h2⟩, h3⟩, h4⟩, h5⟩, h6⟩, h7⟩, h8⟩, h9⟩
    exact ⟨⟨h1, h2, h3, h4, h5, h6, h7⟩, fun x => by cases x <;> assumption⟩
  · rintro ⟨⟨h1, h2, h3, h4, h5, h6, h7⟩, h⟩
    exact ⟨⟨⟨⟨⟨⟨⟨⟨h1, h2⟩, h3⟩, h4⟩, h5⟩, h6⟩, h7⟩, h .a⟩, h .b⟩

/-- A record of a canonical store has a canonical table. -/
theorem Stores.Canonical.curve {st : Stores} (h : st.Canonical) (i : Nat) : tableWf 0 (st.curve i).values = true := by
  rcases tableGet_mem (d := WaveRec.initial) st.curves i with hd | hm
  · rw [Stores.curve, hd]
    rfl
  · exact h.curveValues _ hm

theorem Stores.Canonical.impulse {st : Stores} (h : st.Canonical) (i : Nat) : tableWf 0 (st.impulse i).values = true := by
  rcases tableGet_mem (d := WaveRec.initial) st.impulses i with hd | hm
  · rw [Stores.impulse, hd]
    rfl
  · exact h.impulseValues _ hm

theorem takePart_canonical {r : WaveRec} {full : BitVec 16} {p n : Nat} {vs : List Int} (h : tableWf 0 r.values = true) :
    tableWf 0 (r.takePart full p n vs).values = true :=
  tablePutAll_wf _ _ h

theorem putCurve_canonical {s : State} {i : Nat} {r : WaveRec} (h : s.stores.Canonical) (hr : tableWf 0 r.values = true) :
    (putCurve i r s).stores.Canonical where
  curves := tablePut_wf i r h.curves
  curveValues kv hkv := by
    rcases mem_tablePut hkv with rfl | hold
    · exact hr
    · exact h.curveValues kv hold
  impulses := h.impulses
  impulseValues := h.impulseValues
  presets := h.presets
  bankMap := h.bankMap
  profiles := h.profiles

theorem putImpulse_canonical {s : State} {i : Nat} {r : WaveRec} (h : s.stores.Canonical)
    (hr : tableWf 0 r.values = true) : (putImpulse i r s).stores.Canonical where
  curves := h.curves
  curveValues := h.curveValues
  impulses := tablePut_wf i r h.impulses
  impulseValues kv hkv := by
    rcases mem_tablePut hkv with rfl | hold
    · exact hr
    · exact h.impulseValues kv hold
  presets := h.presets
  bankMap := h.bankMap
  profiles := h.profiles

theorem putPreset_canonical {s : State} {i : Nat} {r : PresetRec} (h : s.stores.Canonical) :
    (putPreset i r s).stores.Canonical :=
  { h with presets := tablePut_wf i r h.presets }

theorem markDirty_stores (i : Nat) (s : State) : (markDirty i s).stores = s.stores :=
  changesOnly_markDirty.same .stores (by decide)

theorem libraryWrite_canonical {s : State} {i : Nat} {r : PresetRec} (h : s.stores.Canonical) :
    (markDirty i (putPreset i r s)).stores.Canonical := by
  rw [markDirty_stores]
  exact putPreset_canonical h

/-- The owners of the stores keep their tables canonical. -/
theorem deliver_canonical {t : ReqType} {l : Link} {body : List Byte} {s : State} (h : s.stores.Canonical) :
    (deliver t l body s).2.stores.Canonical := by
  cases t
  case curveBegin =>
    simp only [deliver, curveBegin]
    split_ifs
    exacts [h, h, putCurve_canonical h (h.curve _)]
  case impulseBegin =>
    simp only [deliver, impulseBegin]
    split_ifs
    exacts [h, h, putImpulse_canonical h (h.impulse _)]
  case curvePut =>
    simp only [deliver, curvePut]
    split_ifs
    exacts [h, h, h, putCurve_canonical h (takePart_canonical (h.curve _))]
  case impulsePut =>
    simp only [deliver, impulsePut]
    split_ifs
    exacts [h, h, h, putImpulse_canonical h (takePart_canonical (h.impulse _))]
  case presetBegin =>
    simp only [deliver, presetBegin]
    split
    · split_ifs
      exacts [libraryWrite_canonical h, h]
    · exact h
  case presetPut =>
    simp only [deliver, presetPut]
    split_ifs
    · exact h
    · split
      · split_ifs
        exacts [libraryWrite_canonical h, h]
      · exact h
  case presetEnd =>
    simp only [deliver, presetEnd]
    split_ifs
    · exact h
    · split
      exacts [libraryWrite_canonical h, h]
  case presetErase =>
    simp only [deliver, presetErase]
    split_ifs
    exacts [h, libraryWrite_canonical h]
  case store =>
    simp only [deliver, store]
    split_ifs
    · exact h
    · split
      exacts [h, putPreset_canonical h]
  case mapSet =>
    simp only [deliver, mapSet]
    split_ifs
    exacts [h, { h with bankMap := tablePut_wf _ _ h.bankMap }, { h with bankMap := tablePut_wf _ _ h.bankMap }]
  case profilePut =>
    simp only [deliver, profilePut]
    split_ifs
    exacts [h, h, h, { h with profiles := tablePut_wf _ _ h.profiles }, { h with profiles := tablePut_wf _ _ h.profiles }]
  case instrumentSelect =>
    simp only [deliver, instrumentSelect]
    split_ifs
    exacts [h, h, { h with }]
  all_goals
    rw [changesOnly_deliver.same .stores (by decide)]
    exact h

theorem reads_storesCanonical : Reads [.stores] (fun s => s.stores.Canonical) := by
  intro s t hb h
  have hstores : t.stores = s.stores := hb .stores (by decide)
  rwa [hstores]

theorem storesCanonical_initial : Stores.initial.Canonical := ⟨rfl, by decide, rfl, by decide, rfl, rfl, rfl⟩

/-- Nothing but a request to the stores changes them. -/
theorem storesCanonical_ownersKeep : OwnersKeep (fun s => s.stores.Canonical) := by
  have hR := reads_storesCanonical
  exact {
    reads := hR.mono (by decide)
    powerOn := fun _ => storesCanonical_initial
    softReset := id
    deliver := fun h _ => deliver_canonical h }

/-- One frame's work ends in the delay write, the output ramp and the tail; what comes before moves the gate, the tone
histories and the FIR history. -/
theorem compute_eq (st : Stores) (d : Bool) (x : Int) (l : Lane) :
    ∃ v lp h1 h2 h3 fir, (l.compute st d x).1 =
      (({ (l.gateFrame x).1 with hist1 := h1, hist2 := h2, hist3 := h3, fir := fir }.delayWrite v).stepOutRamp d).tailFrame
        lp :=
  ⟨_, _, _, _, _, _, rfl⟩

/-- The output ramp and the tail move nothing else of a lane. -/
theorem stepOutRamp_eq (l : Lane) (d : Bool) : ∃ r, l.stepOutRamp d = { l with outRamp := r } := by
  unfold Lane.stepOutRamp
  split
  · exact ⟨_, rfl⟩
  · split
    exacts [⟨_, rfl⟩, ⟨l.outRamp, rfl⟩]
  · split
    exacts [⟨_, rfl⟩, ⟨l.outRamp, rfl⟩]
  · exact ⟨l.outRamp, rfl⟩

theorem tailFrame_eq (l : Lane) (lp : Int) :
    ∃ e n m, l.tailFrame lp = { l with tailEnv := e, floorCount := n, tailTimer := m } := by
  unfold Lane.tailFrame
  dsimp only
  split
  exacts [⟨_, _, _, rfl⟩, ⟨_, l.floorCount, l.tailTimer, rfl⟩]

/-- A lane writes its delay half as a table. -/
theorem compute_delayHalf (st : Stores) (d : Bool) (x : Int) (l : Lane) :
    ∃ v, (l.compute st d x).1.delayHalf = tablePut 0 l.delayHalf l.writePos v := by
  obtain ⟨v, lp, h1, h2, h3, fir, h⟩ := compute_eq st d x l
  rw [h]
  obtain ⟨e, n, m, htail⟩ := tailFrame_eq (Lane.stepOutRamp (Lane.delayWrite _ v) d) lp
  obtain ⟨r, hramp⟩ := stepOutRamp_eq (Lane.delayWrite
    { (l.gateFrame x).1 with hist1 := h1, hist2 := h2, hist3 := h3, fir := fir } v) d
  rw [htail, hramp]
  exact ⟨v, rfl⟩

theorem laneLaw_delayHalf : LaneLaw (fun l => tableWf 0 l.delayHalf = true) where
  initial := rfl
  compute {st d x l} h := by
    obtain ⟨v, hv⟩ := compute_delayHalf st d x l
    rw [hv]
    exact tablePut_wf _ _ h
  phase h := h
  latch h := h
  pending h := h
  load h := h
  state h := h
  toIdle h := h
  tail h := h
  weight h := h

theorem tablesCanonical_ownersKeep : OwnersKeep (fun s => tablesCanonical s = true) := by
  simp only [tablesCanonical_iff]
  exact storesCanonical_ownersKeep.and laneLaw_delayHalf.ownersKeep

end Sys2Proof.Machine

namespace Sys2Proof.Laws

open Sys2Proof.Machine

/-- Settles O4: the owners of the stores write their tables, and each lane its delay half, in canonical form. -/
theorem stepKeepsTables : Obligations.StepKeepsTables :=
  fun _ _ => tablesCanonical_ownersKeep.step

end Sys2Proof.Laws

/-! What the owners of the tuner mute, the MON attenuation request and the safety timer leave in the mixer; the mute law and the
law of derived values. -/

namespace Sys2Proof.Machine

/-! ### The mixer as the Tuner and Bus Protection leave it -/

@[simp] theorem raiseNotice_if_mixer (c : Prop) [Decidable c] (n : NoticeClass) (s : State) :
    (if c then raiseNotice n s else s).mixer = s.mixer := by split <;> rfl
@[simp] theorem raiseNotice_if_protection (c : Prop) [Decidable c] (n : NoticeClass) (s : State) :
    (if c then raiseNotice n s else s).protection = s.protection := by split <;> rfl

/-- What the mixer holds of the tuner mute after it is handed over (R132). -/
@[simp] theorem handTunerMute_mixer (s : State) :
    (handTunerMute s).mixer = { s.mixer with tunerMute := s.tuner.muteActive, tunerSet := s.tuner.muteSet } := by
  unfold handTunerMute
  dsimp only
  split <;> rfl

@[simp] theorem handTunerMute_tuner (s : State) : (handTunerMute s).tuner = s.tuner :=
  changesOnly_handTunerMute.same .tuner (by decide)

theorem tunerOff_of_engaged {s : State} (h : s.tuner.engaged = true) :
    tunerOff s = handTunerMute (raiseNotice .tuner (s.withTuner { s.tuner.fresh with state := .off })) := by
  simp [tunerOff, h]

theorem tunerOff_of_off {s : State} (h : s.tuner.engaged = false) : tunerOff s = s := by simp [tunerOff, h]

/-- A tuner that is not engaged mutes nothing. -/
theorem muteActive_of_off {t : Tuner} (h : t.state = .off) : t.muteActive = false := by
  simp [Tuner.muteActive, Tuner.engaged, h]

@[simp] theorem formRequest_mixer (s : State) : (formRequest s).mixer = { s.mixer with monRequest := s.protection.wanted } :=
  rfl
@[simp] theorem formRequest_protection (s : State) :
    (formRequest s).protection = { s.protection with request := s.protection.wanted } := rfl

@[simp] theorem movePairs_mixer (f : ProtClass → Bool) (cond : Bus → ProtClass → Bool) (s : State) :
    (movePairs f cond s).mixer = { s.mixer with monRequest := (s.protection.stepPairs f cond).wanted } := by
  simp [movePairs]
@[simp] theorem movePairs_protection (f : ProtClass → Bool) (cond : Bus → ProtClass → Bool) (s : State) :
    (movePairs f cond s).protection =
      { s.protection.stepPairs f cond with request := (s.protection.stepPairs f cond).wanted } := by
  simp [movePairs]

theorem engineFrame_mixer (s : State) : (engineFrame s).mixer = s.mixer := changesOnly_engineFrame.same .mixer (by decide)

/-- An input frame steps the mixer's ramps, sends a frame on the output port and hands the request over. -/
theorem inputFrame_mixer (x : Int) (s : State) :
    (inputFrame x s).mixer =
      { s.mixer.stepRamps with
        output := (inputFrame x s).mixer.output, monRequest := (inputFrame x s).mixer.monRequest } := by
  simp only [inputFrame, audioFrame, protectionFrame, State.withTuner_mixer, movePairs_mixer, State.withProtection_mixer,
    mixerFrame, State.withMixer_mixer, engineFrame_mixer, State.withLanes_mixer, State.withFrontEnd_mixer]

/-- An engaged tuner takes the trimmed sample of a frame. -/
theorem inputFrame_tuner (x : Int) (s : State) :
    (inputFrame x s).tuner = s.tuner.takeSample (s.frontEnd.frame x).2 := by
  have haudio := (changesOnly_audioFrame (x := (s.frontEnd.frame x).2) (s := s.withFrontEnd (s.frontEnd.frame x).1)).same
    .tuner (by decide)
  exact congrArg (Tuner.takeSample · (s.frontEnd.frame x).2) haudio

/-- The request the flags call for does not hang on the request as it stands. -/
@[simp] theorem wanted_request (p : Protection) (r : Bool) : { p with request := r }.wanted = p.wanted := rfl

/-! ### The mute law -/

/-- The mute law of a timer, a setting and a mask. -/
def muteLegal (timer : Option Nat) (setting : Nat) (mask : BusMask) : Prop :=
  (timer.isSome = true ↔ setting ≠ 0 ∧ mask.isEmpty = false) ∧ ∀ n, timer = some n → n ≤ 1000 * setting

theorem muteLaw_iff (s : State) : muteLaw s = true ↔ muteLegal s.mixer.timer s.mixer.safetySetting s.mixer.mask := by
  have hbool : ∀ a b : Bool, ((a == b) = true ↔ (a = true ↔ b = true)) := by decide
  simp only [muteLaw, muteLegal, Bool.and_eq_true, hbool]
  cases s.mixer.timer <;> simp

theorem reads_muteLaw : Reads [.mixer] (fun s => muteLaw s = true) := by
  intro s t hb h
  have hmixer : t.mixer = s.mixer := hb .mixer (by decide)
  simpa only [muteLaw, hmixer] using h

/-- What moves neither the timer nor the setting nor the mask keeps the mute law. -/
theorem muteLaw_of_same {s t : State} (h : muteLaw s = true) (htimer : t.mixer.timer = s.mixer.timer)
    (hset : t.mixer.safetySetting = s.mixer.safetySetting) (hmask : t.mixer.mask = s.mixer.mask) : muteLaw t = true := by
  rw [muteLaw_iff] at h ⊢
  rwa [htimer, hset, hmask]

theorem muteLaw_handTunerMute {s : State} (h : muteLaw s = true) : muteLaw (handTunerMute s) = true :=
  muteLaw_of_same h (by simp) (by simp) (by simp)

theorem muteLaw_tunerOff {s : State} (h : muteLaw s = true) : muteLaw (tunerOff s) = true := by
  unfold tunerOff
  split
  · exact muteLaw_handTunerMute h
  · exact h

theorem muteLaw_formRequest {s : State} (h : muteLaw s = true) : muteLaw (formRequest s) = true :=
  muteLaw_of_same h rfl rfl rfl

/-- MUTE starts the timer where the mask turns from empty, stops it with an empty mask, and lets it run on otherwise (R145). -/
theorem muteLaw_mute (body : List Byte) {s : State} (h : muteLaw s = true) : muteLaw (mute body s).2 = true := by
  unfold mute
  split
  · exact h
  · next m _ =>
    rw [muteLaw_iff] at h ⊢
    obtain ⟨hrun, hle⟩ := h
    simp only [raiseNotice_mixer, State.withMixer_mixer]
    cases hnew : m.isEmpty with
    | true => simp [muteLegal, hnew]
    | false =>
      cases hold : s.mixer.mask.isEmpty with
      | true => by_cases hset : s.mixer.safetySetting = 0 <;> simp [muteLegal, hnew, hset]
      | false =>
        simp only [hold, and_true] at hrun
        simpa [muteLegal, hnew, hrun] using hle

theorem muteLaw_setSafetyTimer (v : Nat) {s : State} (h : muteLaw s = true) : muteLaw (setSafetyTimer v s) = true := by
  rw [muteLaw_iff] at h ⊢
  obtain ⟨hrun, hle⟩ := h
  unfold setSafetyTimer
  dsimp only
  split
  · next hempty =>
    have hnone : s.mixer.timer = none := by simpa [hempty] using hrun
    simp [muteLegal, hnone, hempty]
  · next hmask =>
    split
    · next hv =>
      split
      · next hnone =>
        simp only [Option.isNone_iff_eq_none] at hnone
        simp [muteLegal, hv, hnone]
      · simp [muteLegal, hv]
    · next hv => simp [muteLegal, hv, hmask]

theorem muteLaw_controlMillisecond {s : State} (h : muteLaw s = true) : muteLaw (controlMillisecond s) = true := by
  rw [muteLaw_iff] at h ⊢
  obtain ⟨hrun, hle⟩ := h
  refine ⟨by simpa [controlMillisecond] using hrun, fun n hn => ?_⟩
  simp only [controlMillisecond, State.withMixer_mixer, Option.map_eq_some_iff] at hn
  obtain ⟨m, hm, rfl⟩ := hn
  exact (Nat.sub_le m 1).trans (hle m hm)

/-- The settings but the safety timer's leave the timer, its setting and the mask alone. -/
theorem muteLaw_putSetting (t : Setting) (v : Nat) {s : State} (h : muteLaw s = true) :
    muteLaw (putSetting t v s) = true := by
  cases t
  case tunerMuteSet => exact muteLaw_handTunerMute h
  case safetyTimer => exact muteLaw_setSafetyTimer v h
  all_goals exact muteLaw_of_same h rfl rfl rfl

theorem setting_keeps {P : State → Prop} (hP : ∀ {t v s}, P s → P (putSetting t v s)) {t : Setting} {v : Nat} {s : State}
    (h : P s) : P (setting t v s).2 := by
  unfold setting
  split
  · exact h
  · split
    · exact h
    · exact hP h

theorem muteLaw_inputFrame (x : Int) {s : State} (h : muteLaw s = true) : muteLaw (inputFrame x s) = true := by
  have hm := inputFrame_mixer x s
  exact muteLaw_of_same h (by rw [hm]; rfl) (by rw [hm]; rfl) (by rw [hm]; rfl)

theorem muteLaw_ownersKeep : OwnersKeep (fun s => muteLaw s = true) := by
  have hR := reads_muteLaw
  exact {
    reads := hR.mono (by decide)
    tunerOff := muteLaw_tunerOff
    powerOn := fun _ => rfl
    softReset := fun _ => by simp [muteLaw, softReset, Mixer.softReset, BusMask.isEmpty, BusMask.none]
    inputFrame := muteLaw_inputFrame _
    controlMillisecond := muteLaw_controlMillisecond
    dcWindowEnd := fun h => muteLaw_of_same h (by simp [dcWindowEnd]) (by simp [dcWindowEnd]) (by simp [dcWindowEnd])
    flagLatch := fun h => muteLaw_of_same h rfl rfl rfl
    safetyExpiry := fun _ => by simp [muteLaw, safetyExpiry, BusMask.isEmpty, BusMask.none]
    deliver := by
      intro t l body s h ht
      cases t
      case setting => exact absurd rfl ht
      case mute => exact muteLaw_mute body h
      case tunerRelease => exact muteLaw_tunerOff h
      case tunerEngage =>
        simp only [deliver, tunerEngage]
        split
        · exact muteLaw_handTunerMute h
        · exact h
      case ack =>
        simp only [deliver, ack]
        split
        · exact muteLaw_of_same h rfl rfl rfl
        · exact h
      case force =>
        simp only [deliver, force]
        split
        · exact muteLaw_of_same h rfl rfl rfl
        · exact h
      all_goals exact hR.keep changesOnly_deliver (by decide) h
    setting := setting_keeps (P := fun s => muteLaw s = true) (fun h => muteLaw_putSetting _ _ h) }

/-! ### What is derived -/

/-- The scene's effective values are those of the present pedal positions. -/
def sceneDerived (s : State) : Prop :=
  ∀ sc, s.engine.scene = some sc → sc.effective = sc.preset.expression.map s.control.effective

/-- The mixer holds the tuner mute request and set as the tuner forms them. -/
def tunerDerived (s : State) : Prop := s.mixer.tunerMute = s.tuner.muteActive ∧ s.mixer.tunerSet = s.tuner.muteSet

/-- The MON attenuation request is the one the flags call for, in Bus Protection and in the mixer. -/
def requestDerived (s : State) : Prop :=
  s.protection.request = s.protection.wanted ∧ s.mixer.monRequest = s.protection.wanted

theorem derivedLaw_iff (s : State) : derivedLaw s = true ↔ (sceneDerived s ∧ tunerDerived s) ∧ requestDerived s := by
  have hscene : s.engine.scene.all (fun sc => sc.effective == sc.preset.expression.map s.control.effective) = true ↔
      sceneDerived s := by
    unfold sceneDerived
    cases s.engine.scene <;> simp
  simp only [derivedLaw, Bool.and_eq_true, beq_iff_eq, hscene, tunerDerived, requestDerived, and_assoc]

theorem reads_sceneDerived : Reads [.engine, .control] sceneDerived := by
  intro s t hb h
  have hengine : t.engine = s.engine := hb .engine (by decide)
  have hcontrol : t.control = s.control := hb .control (by decide)
  simpa only [sceneDerived, hengine, hcontrol] using h

theorem reads_tunerDerived : Reads [.mixer, .tuner] tunerDerived := by
  intro s t hb h
  have hmixer : t.mixer = s.mixer := hb .mixer (by decide)
  have htuner : t.tuner = s.tuner := hb .tuner (by decide)
  simpa only [tunerDerived, hmixer, htuner] using h

theorem reads_requestDerived : Reads [.mixer, .protection] requestDerived := by
  intro s t hb h
  have hmixer : t.mixer = s.mixer := hb .mixer (by decide)
  have hprotection : t.protection = s.protection := hb .protection (by decide)
  simpa only [requestDerived, hmixer, hprotection] using h

/-- Effective values hang on the pedal histories alone. -/
theorem effective_congr {c d : Control} (h1 : d.exp1 = c.exp1) (h2 : d.exp2 = c.exp2) : d.effective = c.effective := by
  funext x
  have hhist : d.history x.source = c.history x.source := by cases x.source <;> simpa [Control.history]
  rw [Control.effective, Control.effective, hhist]

theorem history_setHistory (c : Control) (src k : Source) (h : History) :
    (c.setHistory src h).history k = if k = src then h else c.history k := by
  cases src <;> cases k <;> rfl

/-- A new position of one source leaves the effective values of the other's assignments as they are. -/
theorem effective_setHistory_of_ne {c : Control} {src : Source} {h : History} {x : Assign} (hx : x.source ≠ src) :
    (c.setHistory src h).effective x = c.effective x := by
  rw [Control.effective, history_setHistory, if_neg hx, Control.effective]

theorem sceneDerived_of_scene_none {s : State} (h : s.engine.scene = none) : sceneDerived s := by
  intro sc hsc
  simp [h] at hsc

theorem sceneDerived_of_scene {s : State} {sc : Scene} (h : s.engine.scene = some sc)
    (heff : sc.effective = sc.preset.expression.map s.control.effective) : sceneDerived s := by
  intro sc' hsc'
  rw [h] at hsc'
  cases hsc'
  exact heff

/-- The load step, seen from the engine and the tempo record (R60, steps 1 to 5). -/
theorem applyPresetTempo_control (b : Option Nat) (s : State) :
    (applyPresetTempo b s).control = tempoAfterLoad b s.control := by
  unfold applyPresetTempo tempoAfterLoad
  split
  · rfl
  · split <;> rfl

@[simp] theorem applyPresetTempo_engine (b : Option Nat) (s : State) : (applyPresetTempo b s).engine = s.engine :=
  changesOnly_applyPresetTempo.same .engine (by decide)

theorem loadStep_control (tr : Transition) (s : State) :
    (loadStep tr s).control = tempoAfterLoad tr.copied.tempo s.control := by
  simp only [loadStep]
  rw [changesOnly_loadLanes.same .control (by decide)]
  exact applyPresetTempo_control _ _

/-- The record of a transition after its load step (R60). -/
def Transition.loaded (tr : Transition) (old : Option Scene) : Transition :=
  { tr with
    phase := if tr.kind = .fade then .cross else .dipIn
    j := 0, tailHold := old.map (fun sc => sc.preset.tailHold)
    editsDiscarded := tr.editsDiscarded || old.any (fun sc => sc.dirty) }

/-- The scene a load step brings, at the tempo record it leaves. -/
def Transition.scene (tr : Transition) (c : Control) : Scene :=
  { preset := tr.copied, source := tr.index, dirty := false, effective := tr.copied.expression.map c.effective }

theorem loadStep_engine (tr : Transition) (s : State) :
    (loadStep tr s).engine =
      { s.engine with
        scene := some (tr.scene (tempoAfterLoad tr.copied.tempo s.control))
        transition := some (tr.loaded s.engine.scene) } := by
  simp only [loadStep]
  rw [changesOnly_loadLanes.same .engine (by decide)]
  simp only [State.withEngine_engine, applyPresetTempo_engine, State.withLanes_engine, Engine.mk.injEq, Option.some.injEq,
    and_true]
  refine ⟨?_, ?_⟩
  · simp only [sceneOf, Transition.scene, applyPresetTempo_control, State.withLanes_control]
  · cases hk : tr.kind <;> cases s.engine.scene <;> simp [Transition.loaded, hk]

theorem sceneReplaced_loadStep (tr : Transition) (s : State) : sceneReplaced tr s (loadStep tr s) :=
  ⟨loadStep_control tr s, by rw [loadStep_engine, loadStep_control]; rfl⟩

theorem sceneDerived_loadStep (tr : Transition) (s : State) : sceneDerived (loadStep tr s) := by
  refine sceneDerived_of_scene (sc := tr.scene (tempoAfterLoad tr.copied.tempo s.control)) ?_ ?_
  · rw [loadStep_engine]
  · rw [loadStep_control]
    rfl

theorem sceneDerived_enterDipOut (tr : Transition) {s : State} (h : sceneDerived s) : sceneDerived (enterDipOut tr s) := by
  unfold enterDipOut
  dsimp only
  split
  · exact sceneDerived_loadStep _ _
  · exact h

theorem sceneDerived_enterPrepare (tr : Transition) (x : LaneId) {s : State} (h : sceneDerived s) :
    sceneDerived (enterPrepare tr x s) := by
  unfold enterPrepare
  split
  · exact sceneDerived_loadStep _ _
  · exact h
  · exact h

theorem sceneDerived_laneIdle (x : LaneId) {s : State} (h : sceneDerived s) : sceneDerived (laneIdle x s) := by
  unfold laneIdle
  dsimp only
  split
  · split
    · exact sceneDerived_loadStep _ _
    · exact h
  · exact h

theorem sceneDerived_engineFrame {s : State} (h : sceneDerived s) : sceneDerived (engineFrame s) := by
  unfold engineFrame
  split
  · split
    · exact h
    · exact h
  · exact h

theorem sceneDerived_inputFrame (x : Int) {s : State} (h : sceneDerived s) : sceneDerived (inputFrame x s) :=
  reads_sceneDerived.keep changesOnly_withTuner (by decide) (reads_sceneDerived.keep changesOnly_protectionFrame (by decide)
    (reads_sceneDerived.keep changesOnly_withMixer (by decide) (sceneDerived_engineFrame
      (s := (s.withFrontEnd (s.frontEnd.frame x).1).withLanes _) h)))

/-- The working scene of a PEDAL (R97): the assignments of the moved source take new values, the others keep theirs. -/
theorem zipWith_effective {c d : Control} {src : Source} (hd : ∀ x : Assign, x.source ≠ src → d.effective x = c.effective x)
    (xs : List Assign) :
    xs.zipWith (fun x v => if x.source = src then d.effective x else v) (xs.map c.effective) = xs.map d.effective := by
  rw [List.zipWith_map_right, List.zipWith_self]
  refine List.map_congr_left (fun x _ => ?_)
  split
  · rfl
  · next hx => exact (hd x hx).symm

theorem sceneDerived_pedal (body : List Byte) {s : State} (h : sceneDerived s) : sceneDerived (pedal body s).2 := by
  unfold pedal
  split
  · exact h
  · dsimp only
    split
    · next hnone => exact sceneDerived_of_scene_none hnone
    · next sc hsc =>
      refine reads_sceneDerived.keep changesOnly_pendLanes (by decide) (sceneDerived_of_scene rfl ?_)
      dsimp only
      rw [h sc hsc]
      exact zipWith_effective (fun x hx => effective_setHistory_of_ne hx) _

theorem sceneDerived_writeTempo {ctl : Control} {s : State} (h : sceneDerived s) (h1 : ctl.exp1 = s.control.exp1)
    (h2 : ctl.exp2 = s.control.exp2) : sceneDerived (writeTempo ctl s) := by
  intro sc hsc
  rw [(changesOnly_writeTempo ctl s).same .engine (by decide)] at hsc
  rw [writeTempo_control, effective_congr h1 h2]
  exact h sc hsc

theorem putGroup_expression (p : Preset) (c : ChainId) (g : Group) (hg : ∀ xs, g ≠ .expression xs) :
    (p.putGroup c g).expression = p.expression := by
  cases g
  case expression xs => exact absurd rfl (hg xs)
  all_goals cases c <;> rfl

theorem sceneDerived_carryEdit {sc : Scene} (c : ChainId) (g : Group) {s : State} (h : sceneDerived s)
    (hsc : s.engine.scene = some sc) : sceneDerived (carryEdit sc c g s) := by
  unfold carryEdit
  dsimp only
  split
  · exact sceneDerived_of_scene rfl rfl
  · next hg =>
    refine sceneDerived_of_scene rfl ?_
    dsimp only
    rw [putGroup_expression _ _ _ hg]
    exact h sc hsc

theorem sceneDerived_markDirty (i : Nat) {s : State} (h : sceneDerived s) : sceneDerived (markDirty i s) := by
  unfold markDirty
  split
  · next sc hsc =>
    split
    · exact sceneDerived_of_scene rfl (h sc hsc)
    · exact h
  · exact h

/-- The requests of the Control Rate Unit, the engine and the library keep the scene's effective values up to date. -/
theorem sceneDerived_deliver {t : ReqType} {l : Link} {body : List Byte} {s : State} (h : sceneDerived s) :
    sceneDerived (deliver t l body s).2 := by
  cases t
  case pedal => exact sceneDerived_pedal body h
  case tap =>
    simp only [deliver, tap]
    split_ifs
    · exact h
    · split
      · exact h
      · split_ifs
        · exact h
        · exact sceneDerived_writeTempo h rfl rfl
  case tempo =>
    simp only [deliver, tempo]
    split
    · exact h
    · exact sceneDerived_writeTempo h rfl rfl
  case edit =>
    simp only [deliver, edit]
    split
    · split
      · exact h
      · next sc hsc =>
        split_ifs
        exacts [h, h, sceneDerived_carryEdit _ _ h hsc]
    · exact h
  case store =>
    simp only [deliver, store]
    split_ifs
    · exact h
    · split
      · exact h
      · next sc hsc => exact sceneDerived_of_scene rfl (h sc hsc)
  case presetBegin =>
    simp only [deliver, presetBegin]
    split
    · split_ifs
      exacts [sceneDerived_markDirty _ h, h]
    · exact h
  case presetPut =>
    simp only [deliver, presetPut]
    split_ifs
    · exact h
    · split
      · split_ifs
        exacts [sceneDerived_markDirty _ h, h]
      · exact h
  case presetEnd =>
    simp only [deliver, presetEnd]
    split_ifs
    · exact h
    · split
      exacts [sceneDerived_markDirty _ h, h]
  case presetErase =>
    simp only [deliver, presetErase]
    split_ifs
    exacts [h, sceneDerived_markDirty _ h]
  all_goals exact reads_sceneDerived.keep changesOnly_deliver (by decide) h

theorem sceneDerived_ownersKeep : OwnersKeep sceneDerived := by
  have hR := reads_sceneDerived
  exact {
    reads := hR.mono (by decide)
    begins := by
      intro s l i p h _ _ _
      unfold beginTransition
      dsimp only
      split
      · exact sceneDerived_enterDipOut _ h
      · exact sceneDerived_enterPrepare _ _ h
    powerOn := fun _ => sceneDerived_of_scene_none rfl
    softReset := fun _ => sceneDerived_of_scene_none rfl
    inputFrame := sceneDerived_inputFrame _
    laneIdle := fun h _ => sceneDerived_laneIdle _ h
    dipOutEnd := fun _ _ _ => sceneDerived_loadStep _ _
    fadeCompleted := fun h _ _ _ => h
    dipCompleted := fun h _ _ _ => h
    deliver := fun h _ => sceneDerived_deliver h }

theorem tunerDerived_handTunerMute (s : State) : tunerDerived (handTunerMute s) := by simp [tunerDerived]

theorem tunerDerived_tunerOff {s : State} (h : tunerDerived s) : tunerDerived (tunerOff s) := by
  unfold tunerOff
  split
  · exact tunerDerived_handTunerMute _
  · exact h

/-- What leaves the tuner's engagement, mute flag and set alone, and the mixer's copies, keeps the copies up to date. -/
theorem tunerDerived_of_same {s t : State} (h : tunerDerived s) (hactive : t.tuner.muteActive = s.tuner.muteActive)
    (hset : t.tuner.muteSet = s.tuner.muteSet) (hmute : t.mixer.tunerMute = s.mixer.tunerMute)
    (hcopy : t.mixer.tunerSet = s.mixer.tunerSet) : tunerDerived t := by
  rw [tunerDerived] at h ⊢
  rwa [hactive, hset, hmute, hcopy]

/-- The tuner as TUNER_ENGAGE, a release, the detector, a reading and the stale end leave its mute: only the first two can
move the request (R132). -/
theorem decimatedSample_tuner (s : State) :
    (decimatedSample s).tuner =
      match (s.tuner.handle s.frontEnd.presence).2 with
      | none => (s.tuner.handle s.frontEnd.presence).1
      | some sum =>
        { (s.tuner.handle s.frontEnd.presence).1 with
          current := some (readingOf (s.tuner.handle s.frontEnd.presence).1 s.stores.activeProfile.notes sum)
          state := .reading, stale := 0 } := by
  unfold decimatedSample
  rcases s.tuner.handle s.frontEnd.presence with ⟨t, _ | sum⟩ <;> rfl

theorem tunerDerived_decimatedSample {s : State} (h : tunerDerived s) (hon : s.tuner.engaged = true) :
    tunerDerived (decimatedSample s) := by
  have hmixer : (decimatedSample s).mixer = s.mixer := changesOnly_decimatedSample.same .mixer (by decide)
  refine tunerDerived_of_same h ?_ ?_ (by rw [hmixer]) (by rw [hmixer]) <;> rw [decimatedSample_tuner]
  · split
    · rfl
    · rw [Tuner.muteActive, Tuner.muteActive, hon]
      rfl
  · split <;> rfl

theorem tunerDerived_inputFrame (x : Int) {s : State} (h : tunerDerived s) : tunerDerived (inputFrame x s) := by
  have hm := inputFrame_mixer x s
  refine tunerDerived_of_same h ?_ ?_ (by rw [hm]; rfl) (by rw [hm]; rfl)
  · rw [inputFrame_tuner, Tuner.takeSample]
    split <;> rfl
  · rw [inputFrame_tuner, Tuner.takeSample]
    split <;> rfl

theorem tunerDerived_formRequest {s : State} (h : tunerDerived s) : tunerDerived (formRequest s) :=
  tunerDerived_of_same h rfl rfl rfl rfl

theorem tunerDerived_movePairs {f : ProtClass → Bool} {cond : Bus → ProtClass → Bool} {s : State} (h : tunerDerived s) :
    tunerDerived (movePairs f cond s) := by
  have htuner : (movePairs f cond s).tuner = s.tuner := changesOnly_movePairs.same .tuner (by decide)
  exact tunerDerived_of_same h (by rw [htuner]) (by rw [htuner]) (by simp) (by simp)

/-- Where nothing is said of the tuner, a step of the mixer that leaves the two copies alone keeps them up to date. -/
theorem tunerDerived_of_mixer {s t : State} {bs : List Block} (h : tunerDerived s) (hc : changesOnly bs s t)
    (hd : Block.tuner ∉ bs) (hmute : t.mixer.tunerMute = s.mixer.tunerMute)
    (hset : t.mixer.tunerSet = s.mixer.tunerSet) : tunerDerived t := by
  have htuner : t.tuner = s.tuner := hc.same .tuner hd
  exact tunerDerived_of_same h (by rw [htuner]) (by rw [htuner]) hmute hset

theorem setSafetyTimer_copies (v : Nat) (s : State) :
    (setSafetyTimer v s).mixer.tunerMute = s.mixer.tunerMute ∧ (setSafetyTimer v s).mixer.tunerSet = s.mixer.tunerSet := by
  unfold setSafetyTimer
  dsimp only
  split_ifs <;> exact ⟨rfl, rfl⟩

theorem tunerDerived_putSetting {t : Setting} {v : Nat} {s : State} (h : tunerDerived s) :
    tunerDerived (putSetting t v s) := by
  cases t
  case tunerMuteSet => exact tunerDerived_handTunerMute _
  case safetyTimer =>
    exact tunerDerived_of_mixer h changesOnly_setSafetyTimer (by decide) (setSafetyTimer_copies v s).1
      (setSafetyTimer_copies v s).2
  all_goals exact tunerDerived_of_same h rfl rfl rfl rfl

theorem tunerDerived_deliver {t : ReqType} {l : Link} {body : List Byte} {s : State} (h : tunerDerived s)
    (ht : t ≠ .setting) : tunerDerived (deliver t l body s).2 := by
  cases t
  case setting => exact absurd rfl ht
  case tunerRelease => exact tunerDerived_tunerOff h
  case tunerEngage =>
    simp only [deliver, tunerEngage]
    split
    · exact tunerDerived_handTunerMute _
    · exact h
  case mute =>
    simp only [deliver, mute]
    split <;> exact h
  case ack =>
    simp only [deliver, ack]
    split
    · exact tunerDerived_formRequest h
    · exact h
  case force =>
    simp only [deliver, force]
    split
    · exact tunerDerived_formRequest h
    · exact h
  all_goals exact reads_tunerDerived.keep changesOnly_deliver (by decide) h

theorem tunerDerived_ownersKeep : OwnersKeep tunerDerived := by
  have hR := reads_tunerDerived
  exact {
    reads := hR.mono (by decide)
    tunerOff := tunerDerived_tunerOff
    powerOn := fun _ => ⟨rfl, rfl⟩
    softReset := fun h => ⟨rfl, h.2⟩
    inputFrame := tunerDerived_inputFrame _
    controlMillisecond := fun h => h
    dcWindowEnd := fun h => tunerDerived_movePairs (s := State.withProtection _ _) h
    flagLatch := fun h => tunerDerived_formRequest (s := raiseNotice .guard (State.withProtection _ _)) h
    decimatedSample := tunerDerived_decimatedSample
    tunerStale := fun h hon => tunerDerived_of_same h (by rw [Tuner.muteActive, Tuner.muteActive, Tuner.engaged, Tuner.engaged, hon]; rfl) rfl rfl rfl
    safetyExpiry := fun h => h
    deliver := tunerDerived_deliver
    setting := setting_keeps tunerDerived_putSetting }

theorem requestDerived_formRequest (s : State) : requestDerived (formRequest s) := ⟨rfl, rfl⟩

theorem requestDerived_movePairs (f : ProtClass → Bool) (cond : Bus → ProtClass → Bool) (s : State) :
    requestDerived (movePairs f cond s) :=
  requestDerived_formRequest _

/-- What leaves Bus Protection and the request in the mixer alone keeps the request as formed. -/
theorem requestDerived_of_same {s t : State} (h : requestDerived s) (hp : t.protection = s.protection)
    (hm : t.mixer.monRequest = s.mixer.monRequest) : requestDerived t := by
  rw [requestDerived] at h ⊢
  rwa [hp, hm]

theorem requestDerived_handTunerMute {s : State} (h : requestDerived s) : requestDerived (handTunerMute s) :=
  requestDerived_of_same h (changesOnly_handTunerMute.same .protection (by decide)) (by simp)

theorem requestDerived_tunerOff {s : State} (h : requestDerived s) : requestDerived (tunerOff s) := by
  unfold tunerOff
  split
  · exact requestDerived_handTunerMute h
  · exact h

theorem requestDerived_putSetting {t : Setting} {v : Nat} {s : State} (h : requestDerived s) :
    requestDerived (putSetting t v s) := by
  cases t
  case tunerMuteSet => exact requestDerived_handTunerMute h
  case safetyTimer =>
    refine requestDerived_of_same h (changesOnly_setSafetyTimer.same .protection (by decide)) ?_
    simp only [putSetting, setSafetyTimer]
    split_ifs <;> rfl
  case tOver | tDc | tLoss => exact requestDerived_formRequest _
  all_goals exact h

theorem requestDerived_deliver {t : ReqType} {l : Link} {body : List Byte} {s : State} (h : requestDerived s)
    (ht : t ≠ .setting) : requestDerived (deliver t l body s).2 := by
  cases t
  case setting => exact absurd rfl ht
  case tunerRelease => exact requestDerived_tunerOff h
  case tunerEngage =>
    simp only [deliver, tunerEngage]
    split
    · exact requestDerived_handTunerMute h
    · exact h
  case mute =>
    simp only [deliver, mute]
    split <;> exact h
  case ack =>
    simp only [deliver, ack]
    split
    · exact requestDerived_formRequest _
    · exact h
  case force =>
    simp only [deliver, force]
    split
    · exact requestDerived_formRequest _
    · exact h
  all_goals exact reads_requestDerived.keep changesOnly_deliver (by decide) h

theorem requestDerived_ownersKeep : OwnersKeep requestDerived := by
  have hR := reads_requestDerived
  exact {
    reads := hR.mono (by decide)
    tunerOff := requestDerived_tunerOff
    powerOn := fun _ => ⟨rfl, rfl⟩
    softReset := fun _ => ⟨rfl, rfl⟩
    inputFrame := fun _ => reads_requestDerived.keep changesOnly_withTuner (by decide) (requestDerived_movePairs _ _ _)
    controlMillisecond := fun h => h
    dcWindowEnd := fun _ => requestDerived_movePairs _ _ _
    flagLatch := fun _ => requestDerived_formRequest _
    safetyExpiry := fun h => h
    deliver := requestDerived_deliver
    setting := setting_keeps requestDerived_putSetting }

theorem derivedLaw_ownersKeep : OwnersKeep (fun s => derivedLaw s = true) := by
  simp only [derivedLaw_iff]
  exact (sceneDerived_ownersKeep.and tunerDerived_ownersKeep).and requestDerived_ownersKeep

end Sys2Proof.Machine

/-! The law of presets: what a content is once checked and clamped, what writing it keeps, and the presets of the engine. -/

namespace Sys2Proof.Machine

/-! ### Numbers read from a body -/

theorem be_foldl_lt (bytes : List Byte) (a : Nat) :
    bytes.foldl (fun n b => 256 * n + b.toNat) a < (a + 1) * 256 ^ bytes.length := by
  induction bytes generalizing a with
  | nil => simp
  | cons b bs ih =>
    have hb := b.isLt
    calc (b :: bs).foldl (fun n b => 256 * n + b.toNat) a
        < (256 * a + b.toNat + 1) * 256 ^ bs.length := ih _
      _ ≤ (256 * (a + 1)) * 256 ^ bs.length := Nat.mul_le_mul_right _ (by omega)
      _ = (a + 1) * 256 ^ (b :: bs).length := by rw [List.length_cons, Nat.pow_succ]; ring

theorem be_lt (bytes : List Byte) : be bytes < 256 ^ bytes.length := by
  simpa [be] using be_foldl_lt bytes 0

/-- A number of n bytes is below 256 to the power n. -/
theorem num_lt (body : List Byte) (off n : Nat) : num body off n < 256 ^ n :=
  lt_of_lt_of_le (be_lt _) (Nat.pow_le_pow_right (by omega) (by simp))

theorem level16_num (body : List Byte) (off : Nat) : level16 (num body off 2) = true := by
  simpa [level16] using num_lt body off 2

theorem coef24_num24 (body : List Byte) (off : Nat) : coef24 (num24 body off) = true := by
  have hlo : -2 ^ 23 ≤ (BitVec.ofNat 24 (num body off 3)).toInt := BitVec.le_toInt _
  have hhi : (BitVec.ofNat 24 (num body off 3)).toInt < 2 ^ 23 := BitVec.toInt_lt
  rw [coef24, Bool.and_eq_true, decide_eq_true_eq, decide_eq_true_eq]
  exact ⟨hlo, Int.le_of_lt_add_one hhi⟩

/-- A number clamped from 0 on is at most the upper bound. -/
theorem clamp_zero_le (hi v : Nat) : clamp 0 hi v ≤ hi := (clamp_mem (Nat.zero_le hi) v).2

/-! ### The content of a group, code by code (R209) -/

section

variable (c : List Byte)

theorem groupOf_header : groupOf 0 c = if c.length = 17 then headerOf c else none := by simp [groupOf, groupLength]

theorem groupOf_levels :
    groupOf 1 c = if c.length = 6 then some (.levels ⟨num c 0 2, num c 2 2, num c 4 2⟩, false) else none := by
  simp [groupOf, groupLength]

theorem groupOf_expression : groupOf 2 c = expressionOf c := rfl

theorem groupOf_tempo : groupOf 3 c = if c.length = 3 then tempoGroupOf c else none := by simp [groupOf, groupLength]

theorem groupOf_gate : groupOf 4 c = if c.length = 7 then some (.gate (gateOf c).1, (gateOf c).2) else none := by
  simp [groupOf, groupLength]

theorem groupOf_drive : groupOf 5 c = if c.length = 5 then (shaperOf c).map (fun v => (.drive v, false)) else none := by
  simp [groupOf, groupLength]

theorem groupOf_tone1 : groupOf 6 c = if c.length = 15 then some (.tone1 (coefsOf c), false) else none := by
  simp [groupOf, groupLength]

theorem groupOf_tone2 : groupOf 7 c = if c.length = 15 then some (.tone2 (coefsOf c), false) else none := by
  simp [groupOf, groupLength]

theorem groupOf_tone3 : groupOf 8 c = if c.length = 15 then some (.tone3 (coefsOf c), false) else none := by
  simp [groupOf, groupLength]

theorem groupOf_power : groupOf 9 c = if c.length = 5 then (shaperOf c).map (fun v => (.power v, false)) else none := by
  simp [groupOf, groupLength]

theorem groupOf_cab :
    groupOf 10 c = if c.length = 1 then
      if num c 0 1 ≤ 15 then some (.cab (some (num c 0 1)), false)
      else if num c 0 1 = 255 then some (.cab none, false)
      else none
    else none := by
  simp [groupOf, groupLength]

theorem groupOf_delay : groupOf 11 c = if c.length = 11 then (delayOf c).map (fun v => (.delay v.1, v.2)) else none := by
  simp [groupOf, groupLength]

theorem groupOf_lane : groupOf 12 c = if c.length = 2 then some (.lane (num c 0 2), false) else none := by
  simp [groupOf, groupLength]

theorem groupOf_of_twelve_lt {code : Nat} (h : 12 < code) : groupOf code c = none := by
  have h2 : code ≠ 2 := by omega
  have h12 : ¬code ≤ 12 := by omega
  simp [groupOf, h2, h12]

end

/-! ### Legal groups (R38, R41 to R43) -/

/-- A group is legal for a preset of a kind. -/
def Group.Legal (kind : Kind) : Group → Prop
  | .header label k fade tailHold => k = kind ∧ label.length = 12 ∧ 32 ≤ fade ∧ fade ≤ 4800 ∧ tailHold ≤ 10000
  | .levels v => level16 v.foh = true ∧ level16 v.mon = true ∧ level16 v.amp = true
  | .expression xs => xs.length ≤ 4 ∧ (∀ x ∈ xs, x.legal kind = true) ∧ anyClash xs = false
  | .tempo b => ∀ v, b = some v → 2000 ≤ v ∧ v ≤ 24000
  | .gate g => g.openAt ≤ 8388607 ∧ g.closeAt ≤ g.openAt ∧ 4 ≤ g.release ∧ g.release ≤ 15
  | .drive v => v.legal = true
  | .tone1 v => v.legal = true
  | .tone2 v => v.legal = true
  | .tone3 v => v.legal = true
  | .power v => v.legal = true
  | .cab i => ∀ v, i = some v → v ≤ 15
  | .delay d => d.fixedLength ≤ 96000 ∧ d.division ≤ 8 ∧ d.feedback ≤ Config.feedbackMax ∧ level16 d.dry = true ∧
      level16 d.wet = true
  | .lane v => level16 v = true

/-- What an assignment is before its chain is checked against the record's kind (R42). -/
def Assign.Bounded (x : Assign) : Prop :=
  level16 x.low = true ∧ level16 x.high = true ∧
    (x.target = .delayFeedback → x.low ≤ Config.feedbackMax ∧ x.high ≤ Config.feedbackMax)

theorem Assign.legal_iff (kind : Kind) (x : Assign) :
    x.legal kind = true ↔ x.Bounded ∧ (kind = .single → x.chain = .a) := by
  simp only [Assign.legal, Assign.Bounded, Bool.and_eq_true, Bool.or_eq_true, bne_iff_ne, beq_iff_eq, decide_eq_true_eq]
  cases kind <;> simp [and_assoc, imp_iff_not_or]

theorem assignOf_bounded {b : List Byte} {x : Assign} {acted : Bool} (h : assignOf b = some (x, acted)) : x.Bounded := by
  have h16 (h l : Byte) : be [h, l] < 65536 := by simpa using be_lt [h, l]
  unfold assignOf at h
  split at h
  · next src tgt ch l1 l0 h1 h0 =>
    split at h
    · dsimp only at h
      split_ifs at h with htarget
      · simp only [Option.some.injEq, Prod.mk.injEq] at h
        obtain ⟨rfl, -⟩ := h
        exact ⟨by simp [level16, Config.feedbackMax], by simp [level16, Config.feedbackMax],
          fun _ => ⟨Nat.min_le_right _ _, Nat.min_le_right _ _⟩⟩
      · simp only [Option.some.injEq, Prod.mk.injEq] at h
        obtain ⟨rfl, -⟩ := h
        exact ⟨by simpa [level16] using h16 l1 l0, by simpa [level16] using h16 h1 h0, fun ht => absurd ht htarget⟩
    · exact absurd h (by simp)
  · exact absurd h (by simp)

theorem assignsOf_bounded {n : Nat} {b : List Byte} {xs : List Assign} {acted : Bool}
    (h : assignsOf n b = some (xs, acted)) : xs.length = n ∧ ∀ x ∈ xs, x.Bounded := by
  induction n generalizing b xs acted with
  | zero =>
    simp only [assignsOf, Option.some.injEq, Prod.mk.injEq] at h
    obtain ⟨rfl, -⟩ := h
    simp
  | succ n ih =>
    rw [assignsOf] at h
    split at h
    · next x c ys cs hx hys =>
      simp only [Option.some.injEq, Prod.mk.injEq] at h
      obtain ⟨rfl, -⟩ := h
      obtain ⟨hlen, hall⟩ := ih hys
      exact ⟨by simp [hlen], List.forall_mem_cons.mpr ⟨assignOf_bounded hx, hall⟩⟩
    · exact absurd h (by simp)

theorem shaperOf_legal {c : List Byte} {v : Shaper} (h : shaperOf c = some v) : v.legal = true := by
  unfold shaperOf at h
  split at h
  · next hcurve =>
    cases h
    simp [Shaper.legal, level16_num, hcurve]
  · exact absurd h (by simp)

theorem coefsOf_legal (c : List Byte) : (coefsOf c).legal = true := by simp [Coefs.legal, coefsOf, coef24_num24]

theorem delayOf_legal {kind : Kind} {c : List Byte} {v : Delay × Bool} (h : delayOf c = some v) : (Group.delay v.1).Legal kind := by
  unfold delayOf at h
  split at h
  · split at h
    · next hdiv =>
      cases h
      exact ⟨clamp_zero_le _ _, hdiv, clamp_zero_le _ _, level16_num _ _, level16_num _ _⟩
    · exact absurd h (by simp)
  · exact absurd h (by simp)

theorem gateOf_legal (kind : Kind) (c : List Byte) : (Group.gate (gateOf c).1).Legal kind :=
  ⟨clamp_zero_le _ _, clamp_zero_le _ _, clamp_mem (by decide) _⟩

theorem groupFits_header {kind k : Kind} {code : Nat} {ch : ChainId} {label : List Byte} {f t : Nat}
    (h : groupFits kind code ch (.header label k f t) = true) : k = kind := by
  simp only [groupFits, Bool.and_eq_true, beq_iff_eq] at h
  exact h.2

theorem groupFits_expression {kind : Kind} {code : Nat} {ch : ChainId} {xs : List Assign}
    (h : groupFits kind code ch (.expression xs) = true) : kind = .single → ∀ x ∈ xs, x.chain = .a := by
  simp only [groupFits, Bool.and_eq_true, Bool.or_eq_true, beq_iff_eq, List.all_eq_true] at h
  rintro rfl
  exact h.2.resolve_left (by simp)

/-- A content that passes its own checks and those of the record it goes to is legal there (R40 to R43). -/
theorem groupOf_legal {kind : Kind} {code : Nat} {ch : ChainId} {c : List Byte} {g : Group} {acted : Bool}
    (h : groupOf code c = some (g, acted)) (hfits : groupFits kind code ch g = true) : g.Legal kind := by
  have hcode : code ≤ 12 := by
    by_contra hcode
    rw [groupOf_of_twelve_lt c (by omega)] at h
    exact absurd h (by simp)
  interval_cases code
  · rw [groupOf_header] at h
    split at h
    · next hlen =>
      unfold headerOf at h
      split at h
      · cases h
        obtain ⟨hlo, hhi⟩ := clamp_mem (lo := 32) (hi := 4800) (by decide) (num c 13 2)
        exact ⟨groupFits_header hfits, by simp [hlen], hlo, hhi, clamp_zero_le _ _⟩
      · exact absurd h (by simp)
    · exact absurd h (by simp)
  · rw [groupOf_levels] at h
    split at h
    · cases h
      exact ⟨level16_num _ _, level16_num _ _, level16_num _ _⟩
    · exact absurd h (by simp)
  · rw [groupOf_expression, expressionOf] at h
    split at h
    · next hlen =>
      split at h
      · next xs cs hxs =>
        split at h
        · exact absurd h (by simp)
        · next hclash =>
          cases h
          obtain ⟨hn, hall⟩ := assignsOf_bounded hxs
          exact ⟨hn ▸ hlen.2, fun x hx => (x.legal_iff kind).mpr ⟨hall x hx, fun hk => groupFits_expression hfits hk x hx⟩,
            by simpa using hclash⟩
      · exact absurd h (by simp)
    · exact absurd h (by simp)
  · rw [groupOf_tempo] at h
    split at h
    · unfold tempoGroupOf at h
      split at h
      · cases h
        rintro v ⟨⟩
        exact clamp_mem (by decide) _
      · cases h
        exact fun v hv => absurd hv (by simp)
      · exact absurd h (by simp)
    · exact absurd h (by simp)
  · rw [groupOf_gate] at h
    split at h
    · cases h
      exact gateOf_legal kind c
    · exact absurd h (by simp)
  · rw [groupOf_drive] at h
    split at h
    · obtain ⟨v, hv, he⟩ := Option.map_eq_some_iff.mp h
      cases he
      exact shaperOf_legal hv
    · exact absurd h (by simp)
  · rw [groupOf_tone1] at h
    split at h
    · cases h
      exact coefsOf_legal c
    · exact absurd h (by simp)
  · rw [groupOf_tone2] at h
    split at h
    · cases h
      exact coefsOf_legal c
    · exact absurd h (by simp)
  · rw [groupOf_tone3] at h
    split at h
    · cases h
      exact coefsOf_legal c
    · exact absurd h (by simp)
  · rw [groupOf_power] at h
    split at h
    · obtain ⟨v, hv, he⟩ := Option.map_eq_some_iff.mp h
      cases he
      exact shaperOf_legal hv
    · exact absurd h (by simp)
  · rw [groupOf_cab] at h
    split_ifs at h with hlen hcab hnone
    · cases h
      rintro v ⟨⟩
      exact hcab
    · cases h
      exact fun v hv => absurd hv (by simp)
  · rw [groupOf_delay] at h
    split at h
    · obtain ⟨v, hv, he⟩ := Option.map_eq_some_iff.mp h
      cases he
      exact delayOf_legal hv
    · exact absurd h (by simp)
  · rw [groupOf_lane] at h
    split at h
    · cases h
      exact level16_num _ _
    · exact absurd h (by simp)

end Sys2Proof.Machine

/-! The law of presets: every preset the part holds stays legal. -/

namespace Sys2Proof.Machine

/-! ### Legal presets -/

/-- What legality says of a preset's content, but for the chains (R38, R41 to R43). -/
structure Preset.Legal (p : Preset) : Prop where
  label : p.label.length = 12
  fadeLo : 32 ≤ p.fade
  fadeHi : p.fade ≤ 4800
  tailHold : p.tailHold ≤ 10000
  foh : level16 p.levels.foh = true
  mon : level16 p.levels.mon = true
  amp : level16 p.levels.amp = true
  few : p.expression.length ≤ 4
  assigns : ∀ x ∈ p.expression, x.legal p.kind = true
  noClash : anyClash p.expression = false
  tempo : ∀ b, p.tempo = some b → 2000 ≤ b ∧ b ≤ 24000
  chainA : p.chainA.legal = true
  chainB : ∀ c, p.chainB = some c → c.legal = true
  dual : p.kind = .dual ↔ p.chainB.isSome = true

theorem Preset.legal_iff (p : Preset) : p.legal = true ↔ p.Legal := by
  have hdual : ((p.kind == .dual) = p.chainB.isSome) ↔ (p.kind = .dual ↔ p.chainB.isSome = true) := by
    rw [Bool.eq_iff_iff, beq_iff_eq]
  simp only [Preset.legal, Bool.and_eq_true, decide_eq_true_eq, List.all_eq_true, Bool.not_eq_true', Option.all_eq_true,
    beq_iff_eq, hdual]
  constructor
  · rintro ⟨⟨⟨⟨⟨⟨⟨⟨⟨⟨⟨⟨⟨h1, h2⟩, h3⟩, h4⟩, h5⟩, h6⟩, h7⟩, h8⟩, h9⟩, h10⟩, h11⟩, h12⟩, h13⟩, h14⟩
    exact ⟨h1, h2, h3, h4, h5, h6, h7, h8, h9, h10, h11, h12, h13, h14⟩
  · intro h
    exact ⟨⟨⟨⟨⟨⟨⟨⟨⟨⟨⟨⟨⟨h.label, h.fadeLo⟩, h.fadeHi⟩, h.tailHold⟩, h.foh⟩, h.mon⟩, h.amp⟩, h.few⟩, h.assigns⟩, h.noClash⟩,
      h.tempo⟩, h.chainA⟩, h.chainB⟩, h.dual⟩

/-- What legality says of a chain (R38, R41). -/
structure Chain.Legal (c : Chain) : Prop where
  openAt : c.gate.openAt ≤ 8388607
  closeAt : c.gate.closeAt ≤ c.gate.openAt
  releaseLo : 4 ≤ c.gate.release
  releaseHi : c.gate.release ≤ 15
  drive : c.drive.legal = true
  tone1 : c.tone1.legal = true
  tone2 : c.tone2.legal = true
  tone3 : c.tone3.legal = true
  power : c.power.legal = true
  cab : ∀ i, c.cab = some i → i ≤ 15
  fixedLength : c.delay.fixedLength ≤ 96000
  division : c.delay.division ≤ 8
  feedback : c.delay.feedback ≤ Config.feedbackMax
  dry : level16 c.delay.dry = true
  wet : level16 c.delay.wet = true
  level : level16 c.level = true

theorem Chain.legal_iff (c : Chain) : c.legal = true ↔ c.Legal := by
  simp only [Chain.legal, Bool.and_eq_true, decide_eq_true_eq, Option.all_eq_true]
  constructor
  · rintro ⟨⟨⟨⟨⟨⟨⟨⟨⟨⟨⟨⟨⟨⟨⟨h1, h2⟩, h3⟩, h4⟩, h5⟩, h6⟩, h7⟩, h8⟩, h9⟩, h10⟩, h11⟩, h12⟩, h13⟩, h14⟩, h15⟩, h16⟩
    exact ⟨h1, h2, h3, h4, h5, h6, h7, h8, h9, h10, h11, h12, h13, h14, h15, h16⟩
  · intro h
    exact ⟨⟨⟨⟨⟨⟨⟨⟨⟨⟨⟨⟨⟨⟨⟨h.openAt, h.closeAt⟩, h.releaseLo⟩, h.releaseHi⟩, h.drive⟩, h.tone1⟩, h.tone2⟩, h.tone3⟩,
      h.power⟩, h.cab⟩, h.fixedLength⟩, h.division⟩, h.feedback⟩, h.dry⟩, h.wet⟩, h.level⟩

/-- Both chains of a legal preset are legal. -/
theorem Preset.Legal.chain {p : Preset} (h : p.Legal) (c : ChainId) : (p.chain c).Legal := by
  rw [← Chain.legal_iff]
  cases c
  case a => exact h.chainA
  case b =>
    unfold Preset.chain
    cases hb : p.chainB
    case none => exact h.chainA
    case some x => exact h.chainB x hb

/-- A legal chain put into a legal preset leaves it legal. -/
theorem Preset.Legal.setChain {p : Preset} (h : p.Legal) (c : ChainId) {v : Chain} (hv : v.Legal) : (p.setChain c v).Legal := by
  rw [← Chain.legal_iff] at hv
  cases c
  case a => exact { h with chainA := hv }
  case b =>
    refine { h with chainB := fun x hx => ?_, dual := ?_ }
    · obtain ⟨_, -, rfl⟩ := Option.map_eq_some_iff.mp hx
      exact hv
    · simpa [Preset.setChain] using h.dual

/-- A legal group put into a legal preset of its kind leaves it legal (R40, R71). -/
theorem Preset.Legal.putGroup {p : Preset} (h : p.Legal) (c : ChainId) {g : Group} (hg : g.Legal p.kind) :
    (p.putGroup c g).Legal := by
  have hc := h.chain c
  cases g
  case header =>
    obtain ⟨rfl, hlabel, hlo, hhi, hhold⟩ := hg
    exact { h with label := hlabel, fadeLo := hlo, fadeHi := hhi, tailHold := hhold }
  case levels =>
    obtain ⟨hfoh, hmon, hamp⟩ := hg
    exact { h with foh := hfoh, mon := hmon, amp := hamp }
  case expression =>
    obtain ⟨hfew, hall, hclash⟩ := hg
    exact { h with few := hfew, assigns := hall, noClash := hclash }
  case tempo => exact { h with tempo := hg }
  case gate =>
    obtain ⟨hopen, hclose, hlo, hhi⟩ := hg
    exact h.setChain c { hc with openAt := hopen, closeAt := hclose, releaseLo := hlo, releaseHi := hhi }
  case drive => exact h.setChain c { hc with drive := hg }
  case tone1 => exact h.setChain c { hc with tone1 := hg }
  case tone2 => exact h.setChain c { hc with tone2 := hg }
  case tone3 => exact h.setChain c { hc with tone3 := hg }
  case power => exact h.setChain c { hc with power := hg }
  case cab => exact h.setChain c { hc with cab := hg }
  case delay =>
    obtain ⟨hlength, hdivision, hfeedback, hdry, hwet⟩ := hg
    exact h.setChain c
      { hc with fixedLength := hlength, division := hdivision, feedback := hfeedback, dry := hdry, wet := hwet }
  case lane => exact h.setChain c { hc with level := hg }

theorem Preset.default_legal (k : Kind) : (Preset.default k).Legal := by
  rw [← Preset.legal_iff]
  cases k <;> decide

/-! ### The presets of the engine -/

/-- What holds of the working scene's content and of the content that the transition in flight has copied. -/
def Engine.PresetsHold (q : Preset → Prop) (e : Engine) : Prop :=
  (∀ sc, e.scene = some sc → q sc.preset) ∧ ∀ tr, e.transition = some tr → q tr.copied

section

variable {q : Preset → Prop} {s : State}

theorem presetsHold_loadStep {tr : Transition} (h : q tr.copied) : (loadStep tr s).engine.PresetsHold q := by
  rw [loadStep_engine]
  constructor
  · rintro sc ⟨⟩
    exact h
  · rintro tr' ⟨⟩
    exact h

theorem presetsHold_transition {e : Engine} (h : e.PresetsHold q) {tr : Transition} (htr : q tr.copied) :
    ({ e with transition := some tr } : Engine).PresetsHold q := by
  refine ⟨h.1, ?_⟩
  rintro tr' ⟨⟩
  exact htr

theorem presetsHold_scene {e : Engine} (h : e.PresetsHold q) {sc : Scene} (hsc : q sc.preset) :
    ({ e with scene := some sc } : Engine).PresetsHold q := by
  refine ⟨?_, h.2⟩
  rintro sc' ⟨⟩
  exact hsc

theorem presetsHold_enterDipOut {tr : Transition} (h : s.engine.PresetsHold q) (htr : q tr.copied) :
    (enterDipOut tr s).engine.PresetsHold q := by
  unfold enterDipOut
  dsimp only
  split
  · exact presetsHold_loadStep htr
  · exact presetsHold_transition h htr

theorem presetsHold_enterPrepare {tr : Transition} {x : LaneId} (h : s.engine.PresetsHold q) (htr : q tr.copied) :
    (enterPrepare tr x s).engine.PresetsHold q := by
  unfold enterPrepare
  split
  · exact presetsHold_loadStep htr
  · exact presetsHold_transition h htr
  · exact presetsHold_transition h htr

theorem presetsHold_beginTransition {l : Link} {i : Nat} {p : Preset} (h : s.engine.PresetsHold q) (hp : q p) :
    (beginTransition l i p s).engine.PresetsHold q := by
  unfold beginTransition
  dsimp only
  split
  · exact presetsHold_enterDipOut h hp
  · exact presetsHold_enterPrepare h hp

theorem presetsHold_laneIdle {x : LaneId} (h : s.engine.PresetsHold q) : (laneIdle x s).engine.PresetsHold q := by
  unfold laneIdle
  dsimp only
  split
  · next tr htr =>
    split
    · exact presetsHold_loadStep (h.2 tr htr)
    · exact h
  · exact h

theorem presetsHold_engineFrame (h : s.engine.PresetsHold q) : (engineFrame s).engine.PresetsHold q := by
  unfold engineFrame
  split
  · next tr htr =>
    split
    · exact presetsHold_transition h (h.2 tr htr)
    · exact h
  · exact h

theorem inputFrame_engine (x : Int) (s : State) :
    (inputFrame x s).engine =
      (engineFrame ((s.withFrontEnd (s.frontEnd.frame x).1).withLanes
        ⟨(s.lanes.a.frame s.stores s.engine.dipping (s.frontEnd.frame x).2).1,
         (s.lanes.b.frame s.stores s.engine.dipping (s.frontEnd.frame x).2).1⟩)).engine := by
  unfold inputFrame audioFrame
  dsimp only
  rw [State.withTuner_engine, changesOnly_protectionFrame.same .engine (by decide)]
  rfl

theorem presetsHold_inputFrame {x : Int} (h : s.engine.PresetsHold q) : (inputFrame x s).engine.PresetsHold q := by
  rw [inputFrame_engine]
  exact presetsHold_engineFrame h

theorem presetsHold_completed {tr : Transition} (h : s.engine.PresetsHold q) : (completed tr s).engine.PresetsHold q :=
  ⟨h.1, fun tr' htr' => absurd htr' (by simp [completed])⟩

theorem presetsHold_pedal {body : List Byte} (h : s.engine.PresetsHold q) : (pedal body s).2.engine.PresetsHold q := by
  unfold pedal
  split
  · exact h
  · dsimp only
    split
    · exact h
    · next sc hsc => exact presetsHold_scene h (h.1 sc hsc)

theorem presetsHold_carryEdit {sc : Scene} {c : ChainId} {g : Group} (h : s.engine.PresetsHold q)
    (hg : q (sc.preset.putGroup c g)) : (carryEdit sc c g s).engine.PresetsHold q := by
  unfold carryEdit
  dsimp only
  split <;> exact presetsHold_scene h hg

theorem presetsHold_markDirty {i : Nat} (h : s.engine.PresetsHold q) : (markDirty i s).engine.PresetsHold q := by
  unfold markDirty
  split
  · next sc hsc =>
    split
    · exact presetsHold_scene h (h.1 sc hsc)
    · exact h
  · exact h

end

/-! ### The law of presets -/

/-- Every preset of the library is legal. -/
def Stores.PresetsLegal (st : Stores) : Prop := ∀ kv ∈ st.presets, kv.2.holds Preset.legal = true

theorem presetLaw_iff (s : State) :
    presetLaw s = true ↔ s.stores.PresetsLegal ∧ s.engine.PresetsHold Preset.Legal := by
  simp only [presetLaw, Bool.and_eq_true, List.all_eq_true, Option.all_eq_true, Preset.legal_iff, and_assoc]
  rfl

theorem reads_presetLaw : Reads [.stores, .engine] (fun s => presetLaw s = true) := by
  intro s t hb h
  have hs : t.stores = s.stores := hb .stores (by decide)
  have he : t.engine = s.engine := hb .engine (by decide)
  rw [presetLaw_iff] at h ⊢
  rw [hs, he]
  exact h

/-- A preset of the library is legal. -/
theorem Stores.PresetsLegal.get {st : Stores} (h : st.PresetsLegal) (i : Nat) : (st.preset i).holds Preset.legal = true := by
  rcases tableGet_mem (d := PresetRec.empty) st.presets i with he | he
  · rw [Stores.preset, he]
    rfl
  · exact h _ he

theorem Stores.PresetsLegal.valid {st : Stores} (h : st.PresetsLegal) {i : Nat} {p : Preset} (hp : st.preset i = .valid p) :
    p.Legal := by
  have hi := h.get i
  rw [hp] at hi
  exact (Preset.legal_iff p).mp hi

theorem Stores.PresetsLegal.filling {st : Stores} (h : st.PresetsLegal) {i : Nat} {p : Preset}
    (hp : st.preset i = .filling p) : p.Legal := by
  have hi := h.get i
  rw [hp] at hi
  exact (Preset.legal_iff p).mp hi

section

variable {s : State}

theorem presetsLegal_putPreset {i : Nat} {r : PresetRec} (h : s.stores.PresetsLegal) (hr : r.holds Preset.legal = true) :
    (putPreset i r s).stores.PresetsLegal := by
  intro kv hkv
  rcases mem_tablePut hkv with rfl | hkv
  · exact hr
  · exact h kv hkv

/-- A library write of a legal content, with the dirty flag that may come of it. -/
theorem presetLaw_libraryWrite {i : Nat} {r : PresetRec} (h : presetLaw s = true) (hr : r.holds Preset.legal = true) :
    presetLaw (markDirty i (putPreset i r s)) = true := by
  rw [presetLaw_iff] at h ⊢
  rw [changesOnly_markDirty.same .stores (by decide)]
  exact ⟨presetsLegal_putPreset h.1 hr, presetsHold_markDirty (s := putPreset i r s) h.2⟩

/-- What leaves the library alone keeps the law if it keeps it in the engine. -/
theorem presetLaw_of_engine {t : State} (h : presetLaw s = true) (hs : t.stores.presets = s.stores.presets)
    (he : s.engine.PresetsHold Preset.Legal → t.engine.PresetsHold Preset.Legal) : presetLaw t = true := by
  rw [presetLaw_iff] at h ⊢
  exact ⟨by rw [Stores.PresetsLegal, hs]; exact h.1, he h.2⟩

theorem presetLaw_edit (body : List Byte) (h : presetLaw s = true) : presetLaw (edit body s).2 = true := by
  unfold edit
  dsimp only
  split
  · next c g acted hc hg =>
    split
    · exact h
    · next sc hsc =>
      split_ifs with hfits hready
      · exact h
      · exact h
      · refine presetLaw_of_engine h (congrArg Stores.presets (changesOnly_carryEdit.same .stores (by decide))) fun he => ?_
        exact presetsHold_carryEdit he ((he.1 sc hsc).putGroup c (groupOf_legal hg (by simpa using hfits)))
  · exact h

theorem presetLaw_presetPut (body : List Byte) (h : presetLaw s = true) : presetLaw (presetPut body s).2 = true := by
  have hlib := ((presetLaw_iff s).mp h).1
  unfold presetPut
  dsimp only
  split_ifs
  · exact h
  · split
    · next p c g acted hp hc hg =>
      split
      · next hfits =>
        refine presetLaw_libraryWrite h ((Preset.legal_iff _).mpr ?_)
        exact (hlib.filling hp).putGroup c (groupOf_legal hg hfits)
      · exact h
    · exact h

/-- The requests keep every preset legal. -/
theorem presetLaw_deliver {t : ReqType} {l : Link} {body : List Byte} (h : presetLaw s = true) :
    presetLaw (deliver t l body s).2 = true := by
  obtain ⟨hlib, heng⟩ := (presetLaw_iff s).mp h
  cases t
  case edit => exact presetLaw_edit body h
  case presetPut => exact presetLaw_presetPut body h
  case pedal =>
    exact presetLaw_of_engine h (congrArg Stores.presets (changesOnly_pedal.same .stores (by decide))) presetsHold_pedal
  case store =>
    simp only [deliver, store]
    split_ifs
    · exact h
    · split
      · exact h
      · next sc hsc =>
        have hsc' := heng.1 sc hsc
        rw [presetLaw_iff]
        exact ⟨presetsLegal_putPreset hlib ((Preset.legal_iff _).mpr hsc'), presetsHold_scene heng hsc'⟩
  case presetBegin =>
    simp only [deliver, presetBegin]
    split
    · next k _ =>
      split_ifs
      · exact presetLaw_libraryWrite h ((Preset.legal_iff _).mpr (Preset.default_legal k))
      · exact h
    · exact h
  case presetEnd =>
    simp only [deliver, presetEnd]
    split_ifs
    · exact h
    · split
      · next p hp => exact presetLaw_libraryWrite h ((Preset.legal_iff _).mpr (hlib.filling hp))
      · exact h
  case presetErase =>
    simp only [deliver, presetErase]
    split_ifs
    · exact h
    · exact presetLaw_libraryWrite h rfl
  case curveBegin | curvePut | impulseBegin | impulsePut | mapSet | instrumentSelect =>
    simp only [deliver, curveBegin, curvePut, impulseBegin, impulsePut, mapSet, instrumentSelect]
    split_ifs <;> exact h
  case profilePut =>
    simp only [deliver, profilePut]
    split_ifs <;> exact h
  all_goals exact reads_presetLaw.keep changesOnly_deliver (by decide) h

end

theorem presetLaw_ownersKeep : OwnersKeep (fun s => presetLaw s = true) := by
  have hR := reads_presetLaw
  exact {
    reads := hR.mono (by decide)
    begins := fun h _ hp _ => presetLaw_of_engine h (congrArg Stores.presets (changesOnly_beginTransition.same .stores (by decide)))
      fun he => presetsHold_beginTransition he (((presetLaw_iff _).mp h).1.valid hp)
    powerOn := fun _ => by rfl
    softReset := fun h => presetLaw_of_engine h rfl fun _ => ⟨fun _ h => absurd h (by simp [softReset, Engine.initial]), fun _ h => absurd h (by simp [softReset, Engine.initial])⟩
    inputFrame := fun h => presetLaw_of_engine h (congrArg Stores.presets (changesOnly_inputFrame.same .stores (by decide)))
      presetsHold_inputFrame
    laneIdle := fun h _ => presetLaw_of_engine h (congrArg Stores.presets (changesOnly_laneIdle.same .stores (by decide)))
      presetsHold_laneIdle
    dipOutEnd := fun h htr _ => presetLaw_of_engine h (congrArg Stores.presets (changesOnly_dipOutEnd.same .stores (by decide)))
      fun he => presetsHold_loadStep (he.2 _ htr)
    fadeCompleted := fun h _ _ _ => presetLaw_of_engine h rfl fun he => presetsHold_completed he
    dipCompleted := fun h _ _ _ => presetLaw_of_engine h rfl fun he => presetsHold_completed he
    deliver := fun h _ => presetLaw_deliver h }

end Sys2Proof.Machine

/-! The law of ranges, block by block: windows, tempo, ramps, lanes, tuner. -/

namespace Sys2Proof.Machine

/-- A SETTING leaves the state as it is, or stores the value kept to its range (R199). -/
theorem setting_state (t : Setting) (v : Nat) (s : State) :
    (setting t v s).2 = s ∨ (setting t v s).2 = putSetting t (clamp (settingRange s t).1 (settingRange s t).2 v) s := by
  unfold setting
  split_ifs
  exacts [.inl rfl, .inl rfl, .inr rfl]

/-- The blocks that each setting's owner moves. -/
def Setting.blocks : Setting → List Block
  | .presenceFloor => [.frontEnd]
  | .tenure _ => [.arbiter]
  | .referencePitch => [.tuner]
  | .hysteresis => [.tuner]
  | .wIn => [.tuner]
  | .wNear => [.tuner]
  | .tunerMuteSet => [.links, .tuner, .mixer]
  | .safetyTimer => [.links, .mixer]
  | .attenuation => [.mixer]
  | .overThreshold => [.protection]
  | .dcThreshold => [.protection]
  | .lossFloor => [.protection]
  | .tOver => [.links, .protection, .mixer]
  | .tDc => [.links, .protection, .mixer]
  | .tLoss => [.links, .protection, .mixer]

theorem changesOnly_putSetting_blocks {t : Setting} {v : Nat} {s : State} : changesOnly t.blocks s (putSetting t v s) := by
  cases t
  case presenceFloor => exact changesOnly_withFrontEnd
  case tenure => exact changesOnly_withArbiter
  case referencePitch | hysteresis | wIn | wNear => exact changesOnly_withTuner
  case tunerMuteSet =>
    exact .trans (.mono changesOnly_withTuner (by decide)) (.mono changesOnly_handTunerMute (by decide))
  case safetyTimer => exact .mono changesOnly_setSafetyTimer (by decide)
  case attenuation => exact changesOnly_withMixer
  case overThreshold | dcThreshold | lossFloor => exact changesOnly_withProtection
  case tOver | tDc | tLoss => exact .mono changesOnly_setTimer (by decide)

/-! ### Windows (R77) -/

def windowsLegal (s : State) : Prop := ∀ k, (s.arbiter.windows.get k).legal = true

theorem windowsLegal_of_same {s t : State} (h : windowsLegal s) (hw : t.arbiter.windows = s.arbiter.windows) :
    windowsLegal t := by
  rw [windowsLegal, hw]
  exact h

theorem reads_windowsLegal : Reads [.arbiter] windowsLegal :=
  fun _ _ hb h => windowsLegal_of_same h (congrArg Arbiter.windows (hb .arbiter (by decide)))

theorem windowsLegal_windowSet (body : List Byte) {s : State} (h : windowsLegal s) : windowsLegal (windowSet body s).2 := by
  unfold windowSet
  dsimp only
  split
  · exact h
  · next l hl =>
    split_ifs with hsize hbase
    · exact h
    · intro k
      change ((s.arbiter.windows.set l _).get k).legal = true
      rw [PerLink.get_set]
      split
      · simp only [not_or, not_le, not_not] at hbase
        simp only [Window.legal, Bool.and_eq_true, List.contains_eq_mem, decide_eq_true_eq, beq_iff_eq]
        exact ⟨⟨by simpa using hsize, hbase.1⟩, hbase.2⟩
      · exact h k
    · exact h

theorem windowsLegal_ownersKeep : OwnersKeep windowsLegal := by
  have hR := reads_windowsLegal
  exact {
    reads := hR.mono (by decide)
    arbiter := fun h ha => windowsLegal_of_same h ha
    powerOn := fun _ k => by cases k <;> rfl
    softReset := fun h => h
    controlMillisecond := fun h => h
    deliver := by
      intro t l body s h ht
      cases t
      case windowSet => exact windowsLegal_windowSet body h
      case setting => exact absurd rfl ht
      all_goals exact hR.keep changesOnly_deliver (by decide) h
    setting := setting_keeps (by
      intro t v s h
      cases t
      case tenure => exact windowsLegal_of_same h rfl
      all_goals exact hR.keep changesOnly_putSetting_blocks (by decide) h) }

/-! ### The tempo record (R103) -/

structure Control.Legal (c : Control) : Prop where
  periodLo : 12000 ≤ c.period
  periodHi : c.period ≤ 144000
  intervals : ∀ i ∈ c.intervals, 12000 ≤ i ∧ i ≤ 144000
  few : c.intervals.length ≤ 4

theorem Control.initial_legal : Control.initial.Legal := ⟨by decide, by decide, by decide, by decide⟩

/-- The period of a bpm×100 in its range is in its range (R105). -/
theorem tempoQuotient_mem {b : Nat} (hlo : 2000 ≤ b) (hhi : b ≤ 24000) :
    12000 ≤ tempoQuotient b ∧ tempoQuotient b ≤ 144000 := by
  constructor
  · rw [tempoQuotient, Nat.le_div_iff_mul_le (by omega)]
    omega
  · rw [tempoQuotient, ← Nat.lt_succ_iff, Nat.div_lt_iff_lt_mul (by omega)]
    omega

theorem Control.Legal.withPeriod {d : Control} {b : Nat} (hlo : 2000 ≤ b) (hhi : b ≤ 24000)
    (hperiod : d.period = tempoQuotient b) (hintervals : d.intervals = []) : d.Legal := by
  obtain ⟨hplo, hphi⟩ := tempoQuotient_mem hlo hhi
  exact ⟨hperiod ▸ hplo, hperiod ▸ hphi, by simp [hintervals], by simp [hintervals]⟩

theorem Control.Legal.afterLoad {c : Control} (h : c.Legal) {tempo : Option Nat}
    (htempo : ∀ b, tempo = some b → 2000 ≤ b ∧ b ≤ 24000) : (tempoAfterLoad tempo c).Legal := by
  unfold tempoAfterLoad
  split
  · next b =>
    split
    · exact h
    · obtain ⟨hlo, hhi⟩ := htempo b rfl
      exact .withPeriod hlo hhi rfl rfl
  · exact h

/-- The sum of numbers of a range lies between the multiples of its bounds. -/
theorem sum_mem_of_forall_mem {lo hi : Nat} {xs : List Nat} (h : ∀ x ∈ xs, lo ≤ x ∧ x ≤ hi) :
    lo * xs.length ≤ xs.sum ∧ xs.sum ≤ hi * xs.length := by
  have hsum := List.card_nsmul_le_sum xs lo (fun x hx => (h x hx).1)
  have hsum' := List.sum_le_card_nsmul xs hi (fun x hx => (h x hx).2)
  simp only [smul_eq_mul] at hsum hsum'
  constructor <;> linarith

theorem Control.Legal.tapped {c : Control} (h : c.Legal) {i : Nat} (hlo : 12000 ≤ i) (hhi : i ≤ 144000) {now : BitVec 32}
    {src : TempoSource} :
    ({ c with
      period := (addInterval c.intervals i).sum / (addInterval c.intervals i).length, source := src, prevTap := some now
      intervals := addInterval c.intervals i } : Control).Legal := by
  have hall : ∀ x ∈ addInterval c.intervals i, 12000 ≤ x ∧ x ≤ 144000 := by
    intro x hx
    unfold addInterval at hx
    rw [List.mem_append, List.mem_singleton] at hx
    rcases hx with hx | rfl
    · refine h.intervals x ?_
      split at hx
      · exact List.mem_of_mem_drop hx
      · exact hx
    · exact ⟨hlo, hhi⟩
  have hlen : 0 < (addInterval c.intervals i).length := by simp [addInterval]
  have hfew : (addInterval c.intervals i).length ≤ 4 := by
    have := h.few
    unfold addInterval
    split <;> simp <;> omega
  obtain ⟨hsumlo, hsumhi⟩ := sum_mem_of_forall_mem hall
  exact ⟨(Nat.le_div_iff_mul_le hlen).mpr hsumlo, Nat.div_le_of_le_mul (by rwa [mul_comm] at hsumhi), hall, hfew⟩

theorem enterDipOut_control (tr : Transition) (s : State) :
    (enterDipOut tr s).control = s.control ∨ (enterDipOut tr s).control = tempoAfterLoad tr.copied.tempo s.control := by
  unfold enterDipOut
  dsimp only
  split
  · exact .inr (loadStep_control _ _)
  · exact .inl rfl

theorem enterPrepare_control (tr : Transition) (x : LaneId) (s : State) :
    (enterPrepare tr x s).control = s.control ∨ (enterPrepare tr x s).control = tempoAfterLoad tr.copied.tempo s.control := by
  unfold enterPrepare
  split
  · exact .inr (loadStep_control _ _)
  · exact .inl rfl
  · exact .inl rfl

/-- The start of a transition leaves the tempo record, or applies the preset's tempo to it (R107). -/
theorem beginTransition_control (l : Link) (i : Nat) (p : Preset) (s : State) :
    (beginTransition l i p s).control = s.control ∨ (beginTransition l i p s).control = tempoAfterLoad p.tempo s.control := by
  unfold beginTransition
  dsimp only
  split
  · exact enterDipOut_control _ _
  · exact enterPrepare_control _ _ _

theorem laneIdle_control (x : LaneId) (s : State) :
    (laneIdle x s).control = s.control ∨
      ∃ tr, s.engine.transition = some tr ∧ (laneIdle x s).control = tempoAfterLoad tr.copied.tempo s.control := by
  unfold laneIdle
  dsimp only
  split
  · next tr htr =>
    split
    · exact .inr ⟨tr, htr, loadStep_control _ _⟩
    · exact .inl rfl
  · exact .inl rfl

theorem reads_control {p : Control → Prop} : Reads [.control] (fun s => p s.control) := by
  intro s t hb h
  have hc : t.control = s.control := hb .control (by decide)
  rwa [hc]

theorem controlLegal_deliver {t : ReqType} {l : Link} {body : List Byte} {s : State} (h : s.control.Legal) :
    (deliver t l body s).2.control.Legal := by
  cases t
  case pedal =>
    simp only [deliver, pedal]
    split
    · exact h
    · next src hsrc =>
      have hset : (s.control.setHistory src ((s.control.history src).push (clamp 0 1023 (num body 1 2)))).Legal := by
        cases src <;> exact ⟨h.periodLo, h.periodHi, h.intervals, h.few⟩
      split <;> exact hset
  case tap =>
    simp only [deliver, tap]
    split
    · exact h
    · split
      · exact ⟨h.periodLo, h.periodHi, by simp, by simp⟩
      · split_ifs with hout
        · exact ⟨h.periodLo, h.periodHi, by simp, by simp⟩
        · rw [writeTempo_control]
          exact h.tapped (by omega) (by omega)
  case tempo =>
    simp only [deliver, tempo]
    split
    · exact h
    · rw [writeTempo_control]
      obtain ⟨hlo, hhi⟩ := clamp_mem (lo := 2000) (hi := 24000) (by decide) (num body 0 2)
      exact .withPeriod hlo hhi rfl rfl
  all_goals exact (reads_control (p := Control.Legal)).keep changesOnly_deliver (by decide) h

/-- The tempo record keeps its ranges where the presets are legal. -/
theorem controlLegal_ownersKeep : OwnersKeep (fun s => presetLaw s = true ∧ s.control.Legal) := by
  have hL := presetLaw_ownersKeep
  have hC : Reads [.control] (fun s => s.control.Legal) := reads_control
  have hR : Reads [.stores, .engine, .control] (fun s => presetLaw s = true ∧ s.control.Legal) :=
    .and (reads_presetLaw.mono (by decide)) (hC.mono (by decide))
  have htempo {s : State} (h : presetLaw s = true) {tr : Transition} (htr : s.engine.transition = some tr) :
      ∀ b, tr.copied.tempo = some b → 2000 ≤ b ∧ b ≤ 24000 :=
    (((presetLaw_iff s).mp h).2.2 tr htr).tempo
  exact {
    reads := hR.mono (by decide)
    begins := fun {s l i p} h htr hp hready => by
      refine ⟨hL.begins h.1 htr hp hready, ?_⟩
      rcases beginTransition_control l i p s with hc | hc <;> simp only [hc]
      · exact h.2
      · exact h.2.afterLoad (((presetLaw_iff s).mp h.1).1.valid hp).tempo
    powerOn := fun h => ⟨hL.powerOn h.1, Control.initial_legal⟩
    softReset := fun h => ⟨hL.softReset h.1, Control.initial_legal⟩
    inputFrame := fun h => ⟨hL.inputFrame h.1, hC.keep changesOnly_inputFrame (by decide) h.2⟩
    laneIdle := fun {x s} h hst => by
      refine ⟨hL.laneIdle h.1 hst, ?_⟩
      rcases laneIdle_control x s with hc | ⟨tr, htr, hc⟩ <;> simp only [hc]
      · exact h.2
      · exact h.2.afterLoad (htempo h.1 htr)
    dipOutEnd := fun {s tr} h htr hphase => by
      refine ⟨hL.dipOutEnd h.1 htr hphase, ?_⟩
      have hc : (dipOutEnd tr s).control = tempoAfterLoad tr.copied.tempo s.control := loadStep_control _ _
      simp only [hc]
      exact h.2.afterLoad (htempo h.1 htr)
    fadeCompleted := fun h h1 h2 h3 => ⟨hL.fadeCompleted h.1 h1 h2 h3, h.2⟩
    dipCompleted := fun h h1 h2 h3 => ⟨hL.dipCompleted h.1 h1 h2 h3, h.2⟩
    deliver := fun h ht => ⟨hL.deliver h.1 ht, controlLegal_deliver h.2⟩ }

/-! ### The mixer (R139) -/

structure Mixer.Legal (m : Mixer) : Prop where
  ramps : ∀ b, m.ramps.get b ≤ Config.rampTop
  pair : m.ramps.fohL = m.ramps.fohR
  monRamp : m.monRamp ≤ Config.rampTop
  attenuation : m.attenuation ≤ Config.weightUnity

theorem Mixer.Legal.of_same {m n : Mixer} (h : m.Legal) (hramps : n.ramps = m.ramps) (hmon : n.monRamp = m.monRamp)
    (hatt : n.attenuation = m.attenuation) : n.Legal :=
  ⟨hramps ▸ h.ramps, hramps ▸ h.pair, hmon ▸ h.monRamp, hatt ▸ h.attenuation⟩

theorem Mixer.initial_legal : Mixer.initial.Legal := ⟨fun b => by cases b <;> decide, rfl, by decide, by decide⟩

theorem Mixer.Legal.stepRamps {m : Mixer} (h : m.Legal) : m.stepRamps.Legal := by
  refine ⟨fun b => ?_, ?_, ?_, h.attenuation⟩
  · have hb := h.ramps b
    cases b <;> simp only [Mixer.stepRamps, PerBus.build, PerBus.get] <;> split
    all_goals first
      | exact rampDown_le hb
      | exact rampUp_le hb
  · simp only [Mixer.stepRamps, PerBus.build, PerBus.get, h.pair]
    rfl
  · simp only [Mixer.stepRamps]
    split
    · exact rampDown_le h.monRamp
    · exact rampUp_le h.monRamp

theorem reads_mixerLegal : Reads [.mixer] (fun s => s.mixer.Legal) := by
  intro s t hb h
  have hm : t.mixer = s.mixer := hb .mixer (by decide)
  rwa [hm]

theorem mixerLegal_handTunerMute {s : State} (h : s.mixer.Legal) : (handTunerMute s).mixer.Legal := by
  rw [handTunerMute_mixer]
  exact h.of_same rfl rfl rfl

theorem mixerLegal_tunerOff {s : State} (h : s.mixer.Legal) : (tunerOff s).mixer.Legal := by
  unfold tunerOff
  split
  · exact mixerLegal_handTunerMute h
  · exact h

theorem mixerLegal_movePairs {f : ProtClass → Bool} {cond : Bus → ProtClass → Bool} {s : State} (h : s.mixer.Legal) :
    (movePairs f cond s).mixer.Legal := by
  rw [movePairs_mixer]
  exact h.of_same rfl rfl rfl

theorem mixerLegal_setSafetyTimer (v : Nat) {s : State} (h : s.mixer.Legal) : (setSafetyTimer v s).mixer.Legal := by
  unfold setSafetyTimer
  dsimp only
  split_ifs <;> exact h.of_same rfl rfl rfl

theorem mixerLegal_setting (t : Setting) (v : Nat) {s : State} (h : s.mixer.Legal) : (setting t v s).2.mixer.Legal := by
  rcases setting_state t v s with hs | hs <;> rw [hs]
  · exact h
  · cases t
    case attenuation => exact { h with attenuation := clamp_zero_le _ _ }
    case tunerMuteSet => exact mixerLegal_handTunerMute h
    case safetyTimer => exact mixerLegal_setSafetyTimer _ h
    all_goals exact h.of_same rfl rfl rfl

theorem mixerLegal_deliver {t : ReqType} {l : Link} {body : List Byte} {s : State} (h : s.mixer.Legal) (ht : t ≠ .setting) :
    (deliver t l body s).2.mixer.Legal := by
  cases t
  case setting => exact absurd rfl ht
  case tunerRelease => exact mixerLegal_tunerOff h
  case tunerEngage =>
    simp only [deliver, tunerEngage]
    split
    · exact mixerLegal_handTunerMute h
    · exact h
  case mute =>
    simp only [deliver, mute]
    split
    · exact h
    · exact h.of_same rfl rfl rfl
  case ack =>
    simp only [deliver, ack]
    split
    · exact h.of_same rfl rfl rfl
    · exact h
  case force =>
    simp only [deliver, force]
    split
    · exact h.of_same rfl rfl rfl
    · exact h
  all_goals exact reads_mixerLegal.keep changesOnly_deliver (by decide) h

theorem mixerLegal_ownersKeep : OwnersKeep (fun s => s.mixer.Legal) := by
  have hR := reads_mixerLegal
  exact {
    reads := hR.mono (by decide)
    tunerOff := mixerLegal_tunerOff
    powerOn := fun _ => Mixer.initial_legal
    softReset := fun h => h.of_same rfl rfl rfl
    inputFrame := fun {x s} h => by
      rw [inputFrame_mixer]
      exact h.stepRamps.of_same rfl rfl rfl
    controlMillisecond := fun h => h.of_same rfl rfl rfl
    dcWindowEnd := fun h => mixerLegal_movePairs h
    flagLatch := fun h => h.of_same rfl rfl rfl
    safetyExpiry := fun h => h.of_same rfl rfl rfl
    deliver := mixerLegal_deliver
    setting := mixerLegal_setting _ _ }

/-! ### The lanes (R2) -/

structure Lane.InRange (l : Lane) : Prop where
  outRamp : l.outRamp ≤ Config.rampTop
  gateRamp : l.gateRamp ≤ Config.gateRampTop
  fill : l.fill ≤ Config.delayEntries
  writePos : l.writePos < Config.delayEntries

theorem gateFrame_inRange {l : Lane} (h : l.InRange) (x : Int) : (l.gateFrame x).1.InRange := by
  refine { h with gateRamp := ?_ }
  simp only [Lane.gateFrame, gateRampNext]
  split
  · exact rampUp_le h.gateRamp
  · exact rampDown_le h.gateRamp

theorem delayWrite_inRange {l : Lane} (h : l.InRange) (v : Int) : (l.delayWrite v).InRange := by
  refine { h with fill := ?_, writePos := Nat.mod_lt _ (by decide) }
  have := h.fill
  simp only [Lane.delayWrite]
  split <;> omega

theorem stepOutRamp_inRange {l : Lane} (h : l.InRange) (d : Bool) : (l.stepOutRamp d).InRange := by
  unfold Lane.stepOutRamp
  repeat' split
  all_goals first
    | exact h
    | exact { h with outRamp := rampDown_le h.outRamp }

theorem compute_inRange {l : Lane} (h : l.InRange) (st : Stores) (d : Bool) (x : Int) : (l.compute st d x).1.InRange := by
  obtain ⟨v, lp, h1, h2, h3, fir, heq⟩ := compute_eq st d x l
  have hg := gateFrame_inRange h x
  have hw := delayWrite_inRange (l := { (l.gateFrame x).1 with hist1 := h1, hist2 := h2, hist3 := h3, fir := fir })
    ⟨hg.outRamp, hg.gateRamp, hg.fill, hg.writePos⟩ v
  obtain ⟨e, n, m, htail⟩ := tailFrame_eq (Lane.stepOutRamp (Lane.delayWrite
    { (l.gateFrame x).1 with hist1 := h1, hist2 := h2, hist3 := h3, fir := fir } v) d) lp
  have hr := stepOutRamp_inRange hw d
  rw [heq, htail]
  exact ⟨hr.outRamp, hr.gateRamp, hr.fill, hr.writePos⟩

theorem laneLaw_inRange : LaneLaw Lane.InRange where
  initial := ⟨by decide, by decide, by decide, by decide⟩
  compute h := compute_inRange h _ _ _
  phase h := ⟨h.outRamp, h.gateRamp, h.fill, h.writePos⟩
  latch {l} h := by
    refine { h with gateRamp := ?_ }
    simp only [Lane.latch]
    split
    · split
      · exact le_rfl
      · exact h.gateRamp
    · exact h.gateRamp
  pending h := ⟨h.outRamp, h.gateRamp, h.fill, h.writePos⟩
  load {l q r n m} h := by
    refine ⟨le_rfl, ?_, Nat.zero_le _, (by decide : 0 < Config.delayEntries)⟩
    simp only [Lane.load]
    split
    · exact le_rfl
    · exact Nat.zero_le _
  state h := ⟨h.outRamp, h.gateRamp, h.fill, h.writePos⟩
  toIdle h := ⟨h.outRamp, h.gateRamp, h.fill, h.writePos⟩
  tail h := ⟨h.outRamp, h.gateRamp, h.fill, h.writePos⟩
  weight h := ⟨h.outRamp, h.gateRamp, h.fill, h.writePos⟩

/-! ### The tuner (R114, R124, R133) -/

structure Tuner.Legal (t : Tuner) : Prop where
  wInLo : 1 ≤ t.wIn
  bands : t.wIn ≤ t.wNear
  wInHi : t.wIn ≤ 100
  wNearHi : t.wNear ≤ 500
  group : t.group.length ≤ 7
  reading : t.current.isSome = true ↔ t.state = .reading

theorem reads_tunerLegal : Reads [.tuner] (fun s => s.tuner.Legal) := by
  intro s t hb h
  have ht : t.tuner = s.tuner := hb .tuner (by decide)
  rwa [ht]

theorem Tuner.initial_legal : Tuner.initial.Legal := ⟨by decide, by decide, by decide, by decide, by decide, by decide⟩

theorem Tuner.Legal.fresh {t : Tuner} (h : t.Legal) {st : TunerState} (hst : st ≠ .reading) {m : TunerMode} {f : Bool} :
    ({ t.fresh with state := st, mode := m, muteFlag := f } : Tuner).Legal :=
  ⟨h.wInLo, h.bands, h.wInHi, h.wNearHi, Nat.zero_le _, by simp [Tuner.fresh, hst]⟩

theorem tunerLegal_tunerOff {s : State} (h : s.tuner.Legal) : (tunerOff s).tuner.Legal := by
  unfold tunerOff
  split
  · rw [handTunerMute_tuner]
    exact h.fresh (by simp)
  · exact h

theorem addPeriod_length {group : List Nat} (h : group.length ≤ 7) (p : Nat) : (addPeriod group p).1.length ≤ 7 := by
  unfold addPeriod
  split
  · simp
  · split
    · simp
    · split_ifs
      · simp
      · simp
      · simp only [List.length_append, List.length_singleton]
        omega

theorem detect_length {t : Tuner} (h : t.group.length ≤ 7) (d : Int) : (t.detect d).2.1.length ≤ 7 := by
  unfold Tuner.detect
  split
  · dsimp only
    split
    · simp
    · exact addPeriod_length h _
  · exact h

theorem handle_legal {t : Tuner} (h : t.Legal) (presence : Bool) : (t.handle presence).1.Legal := by
  refine ⟨h.wInLo, h.bands, h.wInHi, h.wNearHi, ?_, h.reading⟩
  unfold Tuner.handle
  dsimp only
  split
  · exact detect_length h.group _
  · simp

theorem tunerLegal_decimatedSample {s : State} (h : s.tuner.Legal) : (decimatedSample s).tuner.Legal := by
  have hh := handle_legal h s.frontEnd.presence
  rw [decimatedSample_tuner]
  split
  · exact hh
  · exact ⟨hh.wInLo, hh.bands, hh.wInHi, hh.wNearHi, hh.group, by simp⟩

theorem tunerLegal_putSetting {t : Setting} {v : Nat} {s : State} (h : s.tuner.Legal) (hlo : (settingRange s t).1 ≤ v)
    (hhi : v ≤ (settingRange s t).2) : (putSetting t v s).tuner.Legal := by
  cases t
  case referencePitch | hysteresis => exact ⟨h.wInLo, h.bands, h.wInHi, h.wNearHi, h.group, h.reading⟩
  case wIn =>
    have hv : v ≤ min 100 s.tuner.wNear := hhi
    exact ⟨hlo, hv.trans (min_le_right _ _), hv.trans (min_le_left _ _), h.wNearHi, h.group, h.reading⟩
  case wNear => exact ⟨h.wInLo, hlo, h.wInHi, hhi, h.group, h.reading⟩
  case tunerMuteSet =>
    simp only [putSetting, handTunerMute_tuner]
    exact ⟨h.wInLo, h.bands, h.wInHi, h.wNearHi, h.group, h.reading⟩
  case tenure => exact h
  all_goals exact reads_tunerLegal.keep changesOnly_putSetting_blocks (by decide) h

theorem settingRange_le {s : State} (h : s.tuner.Legal) (t : Setting) : (settingRange s t).1 ≤ (settingRange s t).2 := by
  have h1 := h.wInLo
  have h2 := h.bands
  have h3 := h.wInHi
  have h4 := h.wNearHi
  cases t <;> simp only [settingRange] <;> omega

theorem tunerLegal_ownersKeep : OwnersKeep (fun s => s.tuner.Legal) := by
  have hR := reads_tunerLegal
  exact {
    reads := hR.mono (by decide)
    tunerOff := tunerLegal_tunerOff
    powerOn := fun _ => Tuner.initial_legal
    softReset := fun h => h.fresh (by simp)
    inputFrame := fun {x s} h => by
      rw [inputFrame_tuner, Tuner.takeSample]
      split
      · exact ⟨h.wInLo, h.bands, h.wInHi, h.wNearHi, h.group, h.reading⟩
      · exact h
    decimatedSample := fun h _ => tunerLegal_decimatedSample h
    tunerStale := fun h _ => ⟨h.wInLo, h.bands, h.wInHi, h.wNearHi, h.group, by simp [tunerStale]⟩
    deliver := fun {t l body s} h _ => by
      cases t
      case tunerRelease => exact tunerLegal_tunerOff h
      case tunerEngage =>
        simp only [deliver, tunerEngage]
        split
        · rw [handTunerMute_tuner]
          change Tuner.Legal { (if s.tuner.engaged then s.tuner else _) with mode := _, muteFlag := _ }
          split
          · exact ⟨h.wInLo, h.bands, h.wInHi, h.wNearHi, h.group, h.reading⟩
          · exact h.fresh (by simp)
        · exact h
      case setting =>
        simp only [deliver]
        split
        · next x hx =>
          rcases setting_state x (num body 1 3) s with hs | hs <;> rw [hs]
          · exact h
          · exact tunerLegal_putSetting h (clamp_mem (settingRange_le h x) _).1 (clamp_mem (settingRange_le h x) _).2
        · exact h
      all_goals exact hR.keep changesOnly_deliver (by decide) h
    setting := fun {t v s} h => by
      rcases setting_state t v s with hs | hs <;> rw [hs]
      · exact h
      · exact tunerLegal_putSetting h (clamp_mem (settingRange_le h t) _).1 (clamp_mem (settingRange_le h t) _).2 }

/-! ### The law of ranges -/

theorem forall_mem_links {p : Link → Prop} : (∀ k ∈ [Link.player, .crew, .showControl], p k) ↔ ∀ k, p k :=
  ⟨fun h k => h k (by cases k <;> decide), fun h k _ => h k⟩

theorem PerBus.forall_mem_toList {α : Type} {q : PerBus α} {p : α → Prop} : (∀ x ∈ q.toList, p x) ↔ ∀ b, p (q.get b) := by
  simp only [PerBus.toList, List.forall_mem_cons, List.not_mem_nil, false_imp_iff, implies_true, and_true]
  constructor
  · rintro ⟨h1, h2, h3, h4⟩ b
    cases b <;> assumption
  · exact fun h => ⟨h .fohL, h .fohR, h .mon, h .amp⟩

theorem rangeLaw_iff (s : State) :
    rangeLaw s = true ↔
      windowsLegal s ∧ s.control.Legal ∧ s.mixer.Legal ∧ bothLanes Lane.InRange s ∧ s.tuner.Legal := by
  have hreading : (s.tuner.current.isSome = (s.tuner.state == .reading)) ↔
      (s.tuner.current.isSome = true ↔ s.tuner.state = .reading) := by
    rw [Bool.eq_iff_iff, beq_iff_eq]
  simp only [rangeLaw, Bool.and_eq_true, decide_eq_true_eq, List.all_eq_true, forall_mem_links,
    PerBus.forall_mem_toList, beq_iff_eq, hreading]
  constructor
  · rintro ⟨⟨⟨⟨⟨⟨⟨⟨⟨⟨⟨⟨⟨⟨⟨h1, h2⟩, h3⟩, h4⟩, h5⟩, h6⟩, h7⟩, h8⟩, h9⟩, h10⟩, h11⟩, h12⟩, h13⟩, h14⟩, h15⟩, h16⟩
    refine ⟨h1, ⟨h2, h3, h4, h5⟩, ⟨h6, h7, h8, h9⟩, fun x => ?_, ⟨h11, h12, h13, h14, h15, h16⟩⟩
    have hx := h10 (s.lanes.get x) (by cases x <;> simp [PerLane.get])
    exact ⟨hx.1.1.1, hx.1.1.2, hx.1.2, hx.2⟩
  · rintro ⟨h1, h2, h3, h4, h5⟩
    refine ⟨⟨⟨⟨⟨⟨⟨⟨⟨⟨⟨⟨⟨⟨⟨h1, h2.periodLo⟩, h2.periodHi⟩, h2.intervals⟩, h2.few⟩, h3.ramps⟩, h3.pair⟩, h3.monRamp⟩,
      h3.attenuation⟩, fun l hl => ?_⟩, h5.wInLo⟩, h5.bands⟩, h5.wInHi⟩, h5.wNearHi⟩, h5.group⟩, h5.reading⟩
    have hlane : l.InRange := by
      simp only [List.mem_cons, List.not_mem_nil, or_false] at hl
      rcases hl with rfl | rfl
      exacts [h4 .a, h4 .b]
    exact ⟨⟨⟨hlane.outRamp, hlane.gateRamp⟩, hlane.fill⟩, hlane.writePos⟩

end Sys2Proof.Machine

namespace Sys2Proof.Laws

open Sys2Proof.Machine

/-- Settles O8: the ranges block by block, the tempo record together with the legal presets it is loaded from; then the derived
values and the mute law, each by what its owners do. -/
theorem stepKeepsValueLaws : Obligations.StepKeepsValueLaws := by
  refine ⟨fun s t hrange hpreset hstep => ?_, fun s t h hstep => derivedLaw_ownersKeep.step h hstep,
    fun s t h hstep => muteLaw_ownersKeep.step h hstep⟩
  obtain ⟨hwindows, hcontrol, hmixer, hlanes, htuner⟩ := (rangeLaw_iff s).mp hrange
  exact (rangeLaw_iff t).mpr ⟨windowsLegal_ownersKeep.step hwindows hstep,
    (controlLegal_ownersKeep.step ⟨hpreset, hcontrol⟩ hstep).2, mixerLegal_ownersKeep.step hmixer hstep,
    laneLaw_inRange.ownersKeep.step hlanes hstep, tunerLegal_ownersKeep.step htuner hstep⟩

end Sys2Proof.Laws

/-! The lanes after a load step, and the laws of the working scene and of the weights. -/

namespace Sys2Proof.Machine

/-! ### What each thing that happens to a lane does to its state and weight (R8, R26) -/

@[simp] theorem Lane.toIdle_state (l : Lane) : l.toIdle.state = .idle := rfl
@[simp] theorem Lane.cut_state (l : Lane) : l.cut.state = .cutting := rfl
@[simp] theorem Lane.cut_weight (l : Lane) : l.cut.weight = l.weight := rfl

@[simp] theorem Lane.latch_state (l : Lane) : l.latch.state = l.state := rfl
@[simp] theorem Lane.latch_weight (l : Lane) : l.latch.weight = l.weight := rfl

@[simp] theorem Lane.pend_state (l : Lane) (f : ChainId → PendingSet → PendingSet) : (l.pend f).state = l.state := by
  unfold Lane.pend
  split <;> rfl
@[simp] theorem Lane.pend_weight (l : Lane) (f : ChainId → PendingSet → PendingSet) : (l.pend f).weight = l.weight := by
  unfold Lane.pend
  split <;> rfl

/-- The chain of a frame leaves a lane's state, weight, role, parameters and pending set alone. -/
theorem compute_keeps (st : Stores) (d : Bool) (x : Int) (l : Lane) :
    (l.compute st d x).1.state = l.state ∧ (l.compute st d x).1.weight = l.weight ∧ (l.compute st d x).1.role = l.role ∧
      (l.compute st d x).1.params = l.params ∧ (l.compute st d x).1.pendingSet = l.pendingSet := by
  obtain ⟨v, lp, h1, h2, h3, fir, heq⟩ := compute_eq st d x l
  obtain ⟨e, n, m, htail⟩ := tailFrame_eq (Lane.stepOutRamp (Lane.delayWrite
    { (l.gateFrame x).1 with hist1 := h1, hist2 := h2, hist3 := h3, fir := fir } v) d) lp
  obtain ⟨r, hramp⟩ := stepOutRamp_eq (Lane.delayWrite
    { (l.gateFrame x).1 with hist1 := h1, hist2 := h2, hist3 := h3, fir := fir } v) d
  rw [heq, htail, hramp]
  exact ⟨rfl, rfl, rfl, rfl, rfl⟩

/-- A frame of a lane that is not IDLE: a boundary that falls, the chain, and the frame's count (R8, R24). -/
theorem Lane.frame_of_ne_idle {st : Stores} {d : Bool} {x : Int} {l : Lane} (h : l.state ≠ .idle) :
    l.frame st d x =
      ({ ((if l.boundaryFalls then l.latch else l).compute st d x).1 with
          phase := (((if l.boundaryFalls then l.latch else l).compute st d x).1.phase + 1) % Config.blockLength
          boundaryTaken := false },
        ((if l.boundaryFalls then l.latch else l).compute st d x).2) := by
  rw [Lane.frame, if_neg h]

theorem Lane.frame_of_idle {st : Stores} {d : Bool} {x : Int} {l : Lane} (h : l.state = .idle) :
    l.frame st d x = (l, ⟨0, 0, 0⟩) := by
  rw [Lane.frame, if_pos h]

@[simp] theorem Lane.frame_state (st : Stores) (d : Bool) (x : Int) (l : Lane) : (l.frame st d x).1.state = l.state := by
  by_cases h : l.state = .idle
  · rw [Lane.frame_of_idle h]
  · rw [Lane.frame_of_ne_idle h]
    refine (compute_keeps st d x _).1.trans ?_
    split <;> rfl

@[simp] theorem Lane.frame_weight (st : Stores) (d : Bool) (x : Int) (l : Lane) : (l.frame st d x).1.weight = l.weight := by
  by_cases h : l.state = .idle
  · rw [Lane.frame_of_idle h]
  · rw [Lane.frame_of_ne_idle h]
    refine (compute_keeps st d x _).2.1.trans ?_
    split <;> rfl

theorem Lane.freeze_of_live {l : Lane} (h : l.state = .live) :
    l.freeze = { l with state := .outgoing, pendingSet := .empty } := by rw [Lane.freeze, if_pos h]

theorem Lane.freeze_of_ne {l : Lane} (h : l.state ≠ .live) : l.freeze = l := by rw [Lane.freeze, if_neg h]

theorem Lane.arrive_of_incoming {l : Lane} (h : l.state = .incoming) : l.arrive = { l with state := .live } := by
  rw [Lane.arrive, if_pos h]

theorem Lane.arrive_of_ne {l : Lane} (h : l.state ≠ .incoming) : l.arrive = l := by rw [Lane.arrive, if_neg h]

theorem Lane.endFade_of_ne {l : Lane} {hold : Option Nat} (h : l.state ≠ .outgoing) : l.endFade hold = l := by
  rw [Lane.endFade, if_neg h]

theorem Lane.endFade_of_outgoing {l : Lane} (hold : Option Nat) (h : l.state = .outgoing) :
    (l.endFade hold).state = .tailing ∨ (l.endFade hold).state = .cutting := by
  rw [Lane.endFade, if_pos h]
  split
  exacts [.inl rfl, .inr rfl]

@[simp] theorem Lane.writeWeight_state (w : Nat) (l : Lane) : (l.writeWeight w).state = l.state := by
  unfold Lane.writeWeight
  split <;> rfl

theorem Lane.writeWeight_incoming {w : Nat} {l : Lane} (h : l.state = .incoming) : (l.writeWeight w).weight = w := by
  simp [Lane.writeWeight, h]

theorem Lane.writeWeight_outgoing {w : Nat} {l : Lane} (h : l.state = .outgoing) :
    (l.writeWeight w).weight = Config.weightUnity - w := by
  simp [Lane.writeWeight, h]

theorem Lane.writeWeight_other {w : Nat} {l : Lane} (hi : l.state ≠ .incoming) (ho : l.state ≠ .outgoing) :
    l.writeWeight w = l := by
  unfold Lane.writeWeight
  split
  exacts [absurd ‹_› hi, absurd ‹_› ho, rfl]

/-! ### The lanes after a load step (R27, R60, R61, R66) -/

/-- A load as the model makes it is the load as R27 lays it down. -/
theorem loadLane_eq (s : State) (sc : Scene) (c : ChainId) (role : Role) (l : Lane) :
    loadLane s sc c role l = loadedLane l sc c role s.control.period s.frontEnd.meter := by
  have hopen : (((sc.params c).chain.gate.openAt == 0 || decide ((sc.params c).chain.gate.openAt ≤ s.frontEnd.meter)) = true) =
      ((sc.params c).chain.gate.openAt ≤ s.frontEnd.meter) := by
    simp only [Bool.or_eq_true, beq_iff_eq, decide_eq_true_eq, eq_iff_iff]
    omega
  simp only [loadLane, Lane.load, loadedLane, hopen]
  rfl

theorem loadStep_lanes (tr : Transition) (s : State) :
    ∃ t : State, t.frontEnd = s.frontEnd ∧ t.control = (loadStep tr s).control ∧ t.lanes = s.lanes.map Lane.freeze ∧
      (loadStep tr s).lanes =
        (loadLanes (tr.loaded s.engine.scene) (tr.scene (loadStep tr s).control) t).lanes := by
  refine ⟨(applyPresetTempo tr.copied.tempo (s.withLanes (s.lanes.map Lane.freeze))).withEngine
    { (applyPresetTempo tr.copied.tempo (s.withLanes (s.lanes.map Lane.freeze))).engine with
      scene := some (tr.scene (loadStep tr s).control), transition := some (tr.loaded s.engine.scene) }, ?_, ?_, ?_, ?_⟩
  · exact changesOnly_applyPresetTempo.same .frontEnd (by decide)
  · rw [loadStep_control]
    exact applyPresetTempo_control _ _
  · exact changesOnly_applyPresetTempo.same .lanes (by decide)
  · have hcontrol := applyPresetTempo_control tr.copied.tempo (s.withLanes (s.lanes.map Lane.freeze))
    rw [loadStep_control]
    simp only [loadStep, sceneOf, Transition.scene, hcontrol, State.withLanes_control]
    cases hscene : s.engine.scene <;> cases hkind : tr.kind <;>
      simp only [loadLanes, Transition.loaded, hkind, Option.map, Option.any, ite_true, reduceCtorEq, ite_false]

/-- The lanes after the load step of a FADE (R61). -/
theorem fadeLoaded_loadStep {tr : Transition} {x : LaneId} (hkind : tr.kind = .fade) (htarget : tr.target = some x)
    (s : State) : fadeLoaded x s (loadStep tr s) := by
  obtain ⟨t, hfront, hcontrol, hlanes, hload⟩ := loadStep_lanes tr s
  have hset : (loadStep tr s).lanes =
      t.lanes.set x (loadLane t (tr.scene (loadStep tr s).control) .a .single (t.lanes.get x)) := by
    rw [hload]
    simp only [loadLanes, Transition.loaded, hkind, htarget]
    rfl
  constructor
  · intro sc hsc
    have hsc' : sc = tr.scene (loadStep tr s).control := by
      rw [loadStep_engine, ← loadStep_control] at hsc
      exact (Option.some.inj hsc).symm
    rw [hset, PerLane.get_set_self, loadLane_eq, hcontrol, hfront, hsc', hlanes, PerLane.get_map]
    unfold Lane.freeze
    split <;> rfl
  · intro y hy
    rw [hset, PerLane.get_set, if_neg hy, hlanes, PerLane.get_map]
    rfl

/-- The lanes after the end of DIP_OUT (R66). -/
theorem dipLoaded_dipOutEnd {tr : Transition} (hkind : tr.kind = .dip) (s : State) : dipLoaded s (dipOutEnd tr s) := by
  obtain ⟨t, hfront, hcontrol, hlanes, hload⟩ := loadStep_lanes tr (s.withLanes (s.lanes.map Lane.toIdle))
  intro sc hsc
  have hsc' : tr.scene (dipOutEnd tr s).control = sc := by
    rw [dipOutEnd, loadStep_engine, ← loadStep_control] at hsc
    exact Option.some.inj hsc
  have hidle : t.lanes = s.lanes.map Lane.toIdle := by
    rw [hlanes]
    rfl
  have hload' : (dipOutEnd tr s).lanes = (loadLanes (tr.loaded s.engine.scene) sc t).lanes := hsc' ▸ hload
  have hcontrol' : t.control = (dipOutEnd tr s).control := hcontrol
  have hfront' : t.frontEnd = s.frontEnd := hfront
  rw [hload']
  cases hk : sc.preset.kind
  case single =>
    simp only [loadLanes, Transition.loaded, hkind, hk, State.setLane_lanes, hidle, loadLane_eq, hcontrol', hfront']
    exact ⟨rfl, rfl⟩
  case dual =>
    simp only [loadLanes, Transition.loaded, hkind, hk, State.withLanes_lanes, hidle, loadLane_eq, hcontrol', hfront']
    exact ⟨rfl, rfl⟩

/-! ### What the laws of scenes and weights read -/

/-- Lane states, weights, whether a scene stands, and the transition in flight. -/
def transView (s : State) : (LaneId → LaneState) × (LaneId → Nat) × Bool × Option Transition :=
  (fun x => (s.lanes.get x).state, fun x => (s.lanes.get x).weight, s.engine.scene.isSome, s.engine.transition)

theorem transView_of_same {s t : State} (hlanes : t.lanes = s.lanes) (hscene : t.engine.scene.isSome = s.engine.scene.isSome)
    (htr : t.engine.transition = s.engine.transition) : transView t = transView s := by
  rw [transView, transView, hlanes, hscene, htr]

theorem transView_keep {bs : List Block} {s t : State} (hc : changesOnly bs s t) (hlanes : Block.lanes ∉ bs)
    (hengine : Block.engine ∉ bs) : transView t = transView s := by
  have he : t.engine = s.engine := hc.same .engine hengine
  exact transView_of_same (hc.same .lanes hlanes) (by rw [he]) (by rw [he])

theorem transView_map {s : State} {f : Lane → Lane} (hstate : ∀ l, (f l).state = l.state)
    (hweight : ∀ l, (f l).weight = l.weight) : transView (s.withLanes (s.lanes.map f)) = transView s := by
  simp only [transView, State.withLanes_lanes, PerLane.get_map, hstate, hweight, State.withLanes_engine]

theorem transView_pendLanes (f : ChainId → PendingSet → PendingSet) (s : State) : transView (pendLanes f s) = transView s :=
  transView_map (fun _ => Lane.pend_state _ _) (fun _ => Lane.pend_weight _ _)

theorem transView_setScene {s : State} {old : Scene} (h : s.engine.scene = some old) (sc : Scene) :
    transView (setScene sc s) = transView s :=
  transView_of_same rfl (by simp [setScene, h]) rfl

theorem transView_markDirty (i : Nat) (s : State) : transView (markDirty i s) = transView s := by
  unfold markDirty
  split
  · next sc hsc =>
    split
    · exact transView_of_same rfl (by simp [hsc]) rfl
    · rfl
  · rfl

theorem transView_writeTempo (ctl : Control) (s : State) : transView (writeTempo ctl s) = transView s := by
  unfold writeTempo pendLengths
  split
  · rfl
  · exact transView_pendLanes _ _

theorem transView_edit (body : List Byte) (s : State) : transView (edit body s).2 = transView s := by
  unfold edit
  dsimp only
  split
  · split
    · rfl
    · next sc hsc =>
      split_ifs
      · rfl
      · rfl
      · unfold carryEdit
        dsimp only
        split <;> exact (transView_pendLanes _ _).trans (transView_setScene hsc _)
  · rfl

/-- No request but a recall moves a lane's state or weight, a transition, or the existence of the scene. -/
theorem transView_deliver (t : ReqType) (l : Link) (body : List Byte) (s : State) :
    transView (deliver t l body s).2 = transView s := by
  cases t
  case edit => exact transView_edit body s
  case pedal =>
    simp only [deliver, pedal]
    split
    · rfl
    · split
      · rfl
      · next sc hsc => exact (transView_pendLanes _ _).trans (transView_setScene hsc _)
  case tap =>
    simp only [deliver, tap]
    split
    · rfl
    · split
      · rfl
      · split
        · rfl
        · exact transView_writeTempo _ _
  case tempo =>
    simp only [deliver, tempo]
    split
    · rfl
    · exact transView_writeTempo _ _
  case store =>
    simp only [deliver, store]
    split_ifs
    · rfl
    · split
      · rfl
      · next sc hsc => exact transView_of_same rfl (by simp [setScene, hsc]) rfl
  case presetBegin =>
    simp only [deliver, presetBegin]
    split
    · split_ifs
      · exact transView_markDirty _ _
      · rfl
    · rfl
  case presetPut =>
    simp only [deliver, presetPut]
    split_ifs
    · rfl
    · split
      · split_ifs
        · exact transView_markDirty _ _
        · rfl
      · rfl
  case presetEnd =>
    simp only [deliver, presetEnd]
    split_ifs
    · rfl
    · split
      · exact transView_markDirty _ _
      · rfl
  case presetErase =>
    simp only [deliver, presetErase]
    split_ifs
    · rfl
    · exact transView_markDirty _ _
  all_goals exact transView_keep changesOnly_deliver (by decide) (by decide)

theorem transView_laneBoundary (x : LaneId) (s : State) : transView (laneBoundary x s) = transView s := by
  unfold laneBoundary
  dsimp only
  split
  · refine Prod.ext (funext fun y => ?_) (Prod.ext (funext fun y => ?_) rfl)
    · simp only [transView, State.setLane_lanes, PerLane.get_set]
      split
      · next h => rw [h]; rfl
      · rfl
    · simp only [transView, State.setLane_lanes, PerLane.get_set]
      split
      · next h => rw [h]; rfl
      · rfl
  · rfl

/-- A law of the view reads the lanes and the engine. -/
theorem reads_transView {p : _ → Prop} : Reads [.lanes, .engine] (fun s => p (transView s)) := by
  intro s t hb h
  have he : t.engine = s.engine := hb .engine (by decide)
  have hv : transView t = transView s := transView_of_same (hb .lanes (by decide)) (by rw [he]) (by rw [he])
  change p (transView t)
  rw [hv]
  exact h

end Sys2Proof.Machine

/-! The laws of the working scene and of the weights (R53, R61 to R63, R67). -/

namespace Sys2Proof.Machine

/-! ### Legal transitions (R55, R58) -/

theorem Transition.legal_fade {tr : Transition} (hkind : tr.kind = .fade) :
    tr.legal = true ↔ tr.target.isSome = true ∧ (tr.phase = .prepare ∨ tr.phase = .cross) := by
  simp [Transition.legal, hkind]

theorem Transition.legal_dip {tr : Transition} (hkind : tr.kind = .dip) :
    tr.legal = true ↔ tr.target = none ∧ (tr.phase = .dipOut ∨ tr.phase = .dipIn) := by
  simp [Transition.legal, hkind]

/-- A legal transition in PREPARE is a FADE, one in DIP_OUT a DIP. -/
theorem Transition.kind_of_prepare {tr : Transition} (h : tr.legal = true) (hphase : tr.phase = .prepare) : tr.kind = .fade := by
  cases hkind : tr.kind
  case fade => rfl
  case dip => simp [(Transition.legal_dip hkind), hphase] at h

theorem Transition.kind_of_dipOut {tr : Transition} (h : tr.legal = true) (hphase : tr.phase = .dipOut) : tr.kind = .dip := by
  cases hkind : tr.kind
  case fade => simp [(Transition.legal_fade hkind), hphase] at h
  case dip => rfl

theorem Transition.loaded_legal {tr : Transition} (h : tr.legal = true) (old : Option Scene) : (tr.loaded old).legal = true := by
  cases hkind : tr.kind
  case fade =>
    rw [Transition.legal_fade hkind] at h
    rw [Transition.legal_fade (by exact hkind)]
    exact ⟨h.1, .inr (by simp [Transition.loaded, hkind])⟩
  case dip =>
    rw [Transition.legal_dip hkind] at h
    rw [Transition.legal_dip (by exact hkind)]
    exact ⟨h.1, .inr (by simp [Transition.loaded, hkind])⟩

theorem Transition.legal_of_same {tr tr' : Transition} (h : tr.legal = true) (hkind : tr'.kind = tr.kind)
    (hphase : tr'.phase = tr.phase) (htarget : tr'.target = tr.target) : tr'.legal = true := by
  rw [Transition.legal, hkind, hphase, htarget]
  exact h

/-! ### Loaded lanes, seen from their states and weights -/

section

variable {tr : Transition} {s : State}

theorem fadeLoaded_self {x : LaneId} {t : State} (h : fadeLoaded x s t) {sc : Scene} (hsc : t.engine.scene = some sc) :
    (t.lanes.get x).state = .incoming ∧ (t.lanes.get x).weight = 0 := by
  rw [h.1 sc hsc]
  exact ⟨rfl, rfl⟩

/-- What a DIP's load leaves on each lane: INCOMING at weight 0, or on lane B for a SINGLE scene, IDLE (R66). -/
theorem dipLoaded_states {t : State} (h : dipLoaded s t) {sc : Scene} (hsc : t.engine.scene = some sc) :
    (t.lanes.a.state = .incoming ∧ t.lanes.a.weight = 0) ∧
      (t.lanes.b.state = .idle ∨ (t.lanes.b.state = .incoming ∧ t.lanes.b.weight = 0)) := by
  have hload := h sc hsc
  cases hk : sc.preset.kind <;> simp only [hk] at hload <;> obtain ⟨ha, hb⟩ := hload <;> rw [ha, hb]
  · exact ⟨⟨rfl, rfl⟩, .inl rfl⟩
  · exact ⟨⟨rfl, rfl⟩, .inr ⟨rfl, rfl⟩⟩

theorem loadStep_scene (tr : Transition) (s : State) : ∃ sc, (loadStep tr s).engine.scene = some sc := by
  rw [loadStep_engine]
  exact ⟨_, rfl⟩

theorem loadStep_transition (tr : Transition) (s : State) :
    (loadStep tr s).engine.transition = some (tr.loaded s.engine.scene) := by
  rw [loadStep_engine]

end

/-! ### The law of the working scene (R53) -/

structure SceneHeld (s : State) : Prop where
  scene : s.engine.scene.isSome = true ↔ ∃ x, (s.lanes.get x).state.carries = true
  legal : ∀ tr, s.engine.transition = some tr → tr.legal = true

theorem exists_lane {p : LaneId → Prop} : (∃ x, p x) ↔ p .a ∨ p .b := by
  constructor
  · rintro ⟨x, hx⟩
    cases x
    exacts [.inl hx, .inr hx]
  · rintro (h | h)
    exacts [⟨_, h⟩, ⟨_, h⟩]

theorem sceneLaw_iff (s : State) : sceneLaw s = true ↔ SceneHeld s := by
  have hscene : (s.engine.scene.isSome = (s.lanes.a.state.carries || s.lanes.b.state.carries)) ↔
      (s.engine.scene.isSome = true ↔ ∃ x, (s.lanes.get x).state.carries = true) := by
    rw [Bool.eq_iff_iff, Bool.or_eq_true, exists_lane]
    rfl
  simp only [sceneLaw, Bool.and_eq_true, beq_iff_eq, hscene, Option.all_eq_true]
  exact ⟨fun h => ⟨h.1, h.2⟩, fun h => ⟨h.scene, h.legal⟩⟩

theorem SceneHeld.of_view {s t : State} (h : SceneHeld s) (hv : transView t = transView s) : SceneHeld t := by
  simp only [transView, Prod.mk.injEq] at hv
  obtain ⟨hstate, -, hscene, htr⟩ := hv
  refine ⟨?_, by rw [htr]; exact h.legal⟩
  have hcarries : (∃ x, (t.lanes.get x).state.carries = true) ↔ ∃ x, (s.lanes.get x).state.carries = true :=
    exists_congr fun x => by rw [show (t.lanes.get x).state = (s.lanes.get x).state from congrFun hstate x]
  rw [hscene, hcarries]
  exact h.scene

section

variable {tr : Transition} {s : State}

/-- A load of some lane brings a scene and a lane that carries it. -/
theorem sceneHeld_of_loaded {x : LaneId} (hlegal : tr.legal = true)
    (hx : ((loadStep tr s).lanes.get x).state = .incoming) : SceneHeld (loadStep tr s) := by
  obtain ⟨sc, hsc⟩ := loadStep_scene tr s
  refine ⟨by simpa [hsc] using ⟨x, by rw [hx]; rfl⟩, fun tr' htr' => ?_⟩
  rw [loadStep_transition] at htr'
  cases htr'
  exact tr.loaded_legal hlegal _

theorem sceneHeld_loadStep {x : LaneId} (hlegal : tr.legal = true) (hkind : tr.kind = .fade) (htarget : tr.target = some x) :
    SceneHeld (loadStep tr s) := by
  obtain ⟨sc, hsc⟩ := loadStep_scene tr s
  exact sceneHeld_of_loaded hlegal (fadeLoaded_self (fadeLoaded_loadStep hkind htarget s) hsc).1

theorem sceneHeld_dipOutEnd (hlegal : tr.legal = true) (hkind : tr.kind = .dip) : SceneHeld (dipOutEnd tr s) := by
  obtain ⟨sc, hsc⟩ := loadStep_scene tr (s.withLanes (s.lanes.map Lane.toIdle))
  exact sceneHeld_of_loaded (x := .a) hlegal (dipLoaded_states (dipLoaded_dipOutEnd hkind s) hsc).1.1

theorem SceneHeld.withTransition (h : SceneHeld s) (hlegal : tr.legal = true) :
    SceneHeld (s.withEngine { s.engine with transition := some tr }) := by
  refine ⟨h.scene, ?_⟩
  rintro tr' ⟨⟩
  exact hlegal

/-- A lane that carries nothing may be replaced by another that carries nothing. -/
theorem SceneHeld.setLane {x : LaneId} {l : Lane} (h : SceneHeld s) (hold : (s.lanes.get x).state.carries = false)
    (hnew : l.state.carries = false) : SceneHeld (s.setLane x l) := by
  refine ⟨h.scene.trans (exists_congr fun y => ?_), h.legal⟩
  rw [State.setLane_lanes, PerLane.get_set]
  split
  · next hy => rw [hy, hold, hnew]
  · rfl

theorem sceneHeld_enterDipOut (h : SceneHeld s) (hlegal : tr.legal = true) (hkind : tr.kind = .dip) :
    SceneHeld (enterDipOut tr s) := by
  unfold enterDipOut
  dsimp only
  split
  · exact sceneHeld_dipOutEnd (Transition.legal_of_same hlegal rfl rfl rfl) hkind
  · exact h.withTransition (Transition.legal_of_same hlegal rfl rfl rfl)

theorem sceneHeld_enterPrepare {x : LaneId} (h : SceneHeld s) (hlegal : tr.legal = true) (hkind : tr.kind = .fade)
    (htarget : tr.target = some x) : SceneHeld (enterPrepare tr x s) := by
  unfold enterPrepare
  split
  · exact sceneHeld_loadStep hlegal hkind htarget
  · next hx =>
    exact (h.setLane (by rw [hx]; rfl) rfl).withTransition (Transition.legal_of_same hlegal rfl rfl rfl)
  · exact h.withTransition hlegal

theorem sceneHeld_beginTransition {l : Link} {i : Nat} {p : Preset} (h : SceneHeld s) :
    SceneHeld (beginTransition l i p s) := by
  have hraised : SceneHeld (raiseNotice .scene s) := h.of_view rfl
  unfold beginTransition
  dsimp only
  split
  · exact sceneHeld_enterDipOut hraised rfl rfl
  · exact sceneHeld_enterPrepare hraised rfl rfl rfl

theorem sceneHeld_laneIdle {x : LaneId} (h : SceneHeld s)
    (hx : (s.lanes.get x).state = .tailing ∨ (s.lanes.get x).state = .cutting) : SceneHeld (laneIdle x s) := by
  have hidle : SceneHeld (s.setLane x (s.lanes.get x).toIdle) := by
    refine h.setLane ?_ rfl
    rcases hx with hx | hx <;> rw [hx] <;> rfl
  unfold laneIdle
  dsimp only
  split
  · next tr htr =>
    split
    · next hphase =>
      have hlegal := h.legal tr htr
      exact sceneHeld_loadStep hlegal (tr.kind_of_prepare hlegal hphase.1) hphase.2
    · exact hidle
  · exact hidle

/-- The lanes of a completed transition: what carried the scene still does, and nothing else. -/
theorem sceneHeld_completed {f : Lane → Lane} (h : SceneHeld s) (hf : ∀ l, (f l).state.carries = l.state.carries) :
    SceneHeld (completed tr (s.withLanes (s.lanes.map f))) := by
  refine ⟨h.scene.trans (exists_congr fun x => ?_), fun tr' htr' => absurd htr' (by simp [completed])⟩
  rw [completed, State.withEngine_lanes, State.withLanes_lanes, PerLane.get_map, hf]

theorem arrive_carries (l : Lane) : l.arrive.state.carries = l.state.carries := by
  by_cases h : l.state = .incoming
  · rw [Lane.arrive_of_incoming h, h]
    rfl
  · rw [Lane.arrive_of_ne h]

theorem endFade_carries (hold : Option Nat) (l : Lane) : (l.endFade hold).state.carries = l.state.carries := by
  by_cases h : l.state = .outgoing
  · rcases Lane.endFade_of_outgoing hold h with h' | h' <;> rw [h', h] <;> rfl
  · rw [Lane.endFade_of_ne h]

theorem sceneHeld_engineFrame (h : SceneHeld s) : SceneHeld (engineFrame s) := by
  unfold engineFrame
  split
  · next tr htr =>
    split
    · refine ⟨h.scene.trans (exists_congr fun x => ?_), ?_⟩
      · simp only [State.withEngine_lanes, State.withLanes_lanes, PerLane.get_map, Lane.writeWeight_state]
      · rintro tr' ⟨⟩
        exact Transition.legal_of_same (h.legal tr htr) rfl rfl rfl
    · exact h
  · exact h

/-- The lanes of an input frame before the engine moves the weights. -/
def framed (x : Int) (s : State) : State :=
  (s.withFrontEnd (s.frontEnd.frame x).1).withLanes
    ⟨(s.lanes.a.frame s.stores s.engine.dipping (s.frontEnd.frame x).2).1,
     (s.lanes.b.frame s.stores s.engine.dipping (s.frontEnd.frame x).2).1⟩

theorem framed_lane (x : Int) (s : State) (i : LaneId) :
    (framed x s).lanes.get i = ((s.lanes.get i).frame s.stores s.engine.dipping (s.frontEnd.frame x).2).1 := by
  cases i <;> rfl

theorem transView_framed (x : Int) (s : State) : transView (framed x s) = transView s := by
  simp only [transView, framed_lane, Lane.frame_state, Lane.frame_weight]
  rfl

/-- The lanes and the engine of an input frame are those that the engine leaves (R62, R67). -/
theorem inputFrame_lanes (x : Int) (s : State) : (inputFrame x s).lanes = (engineFrame (framed x s)).lanes := by
  unfold inputFrame audioFrame
  dsimp only
  rw [State.withTuner_lanes, changesOnly_protectionFrame.same .lanes (by decide)]
  rfl

theorem transView_inputFrame (x : Int) (s : State) : transView (inputFrame x s) = transView (engineFrame (framed x s)) :=
  transView_of_same (inputFrame_lanes x s) (congrArg (fun e : Engine => e.scene.isSome) (inputFrame_engine x s))
    (congrArg Engine.transition (inputFrame_engine x s))

theorem sceneHeld_inputFrame (x : Int) (h : SceneHeld s) : SceneHeld (inputFrame x s) :=
  (sceneHeld_engineFrame (h.of_view (transView_framed x s))).of_view (transView_inputFrame x s)

end

theorem reads_sceneHeld : Reads [.lanes, .engine] SceneHeld := by
  intro s t hb h
  have he : t.engine = s.engine := hb .engine (by decide)
  exact h.of_view (transView_of_same (hb .lanes (by decide)) (by rw [he]) (by rw [he]))

theorem sceneHeld_initial {s : State} (hlanes : s.lanes = ⟨.initial, .initial⟩) (hengine : s.engine = .initial) : SceneHeld s := by
  constructor
  · rw [exists_lane, hlanes, hengine]
    decide
  · rw [hengine]
    rintro tr ⟨⟩

theorem sceneHeld_ownersKeep : OwnersKeep SceneHeld := by
  have hR := reads_sceneHeld
  exact {
    reads := hR.mono (by decide)
    begins := fun h _ _ _ => sceneHeld_beginTransition h
    powerOn := fun _ => sceneHeld_initial rfl rfl
    softReset := fun _ => sceneHeld_initial rfl rfl
    inputFrame := sceneHeld_inputFrame _
    laneBoundary := fun h => h.of_view (transView_laneBoundary _ _)
    cut := fun h hx => h.setLane (by rw [hx]; rfl) rfl
    laneIdle := sceneHeld_laneIdle
    dipOutEnd := fun h htr hphase => sceneHeld_dipOutEnd (h.legal _ htr) (Transition.kind_of_dipOut (h.legal _ htr) hphase)
    fadeCompleted := fun h _ _ _ => sceneHeld_completed h (fun l => (arrive_carries _).trans (endFade_carries _ l))
    dipCompleted := fun h _ _ _ => sceneHeld_completed h arrive_carries
    deliver := fun h _ => h.of_view (transView_deliver _ _ _ _) }

/-! ### The law of the weights (R61 to R63, R67) -/

/-- A transition with its ramp position and fade length in range. -/
structure Transition.InRange (tr : Transition) : Prop where
  legal : tr.legal = true
  fadeLo : 32 ≤ tr.fade
  fadeHi : tr.fade ≤ 4800
  j : tr.j ≤ tr.fade

structure WeightsHeld (s : State) : Prop where
  lane : ∀ x, weightLegal s.engine (s.lanes.get x) = true
  transition : ∀ tr, s.engine.transition = some tr → tr.InRange

theorem weightLaw_iff (s : State) : weightLaw s = true ↔ WeightsHeld s := by
  simp only [weightLaw, Bool.and_eq_true, Option.all_eq_true, decide_eq_true_eq]
  constructor
  · rintro ⟨⟨ha, hb⟩, htr⟩
    refine ⟨fun x => by cases x <;> assumption, fun tr h => ?_⟩
    obtain ⟨⟨⟨h1, h2⟩, h3⟩, h4⟩ := htr tr h
    exact ⟨h1, h2, h3, h4⟩
  · intro h
    exact ⟨⟨h.lane .a, h.lane .b⟩, fun tr htr =>
      ⟨⟨⟨(h.transition tr htr).legal, (h.transition tr htr).fadeLo⟩, (h.transition tr htr).fadeHi⟩, (h.transition tr htr).j⟩⟩

section

variable {e e' : Engine} {l l' : Lane} {tr : Transition} {s : State}

theorem weightLegal_congr (htr : e'.transition = e.transition) (hstate : l'.state = l.state) (hweight : l'.weight = l.weight) :
    weightLegal e' l' = weightLegal e l := by
  rw [weightLegal, weightLegal, htr, hstate, hweight]

theorem weightLegal_live (h : l.state = .live) : weightLegal e l = true ↔ l.weight = Config.weightUnity := by
  simp [weightLegal, h]

theorem weightLegal_incoming (h : l.state = .incoming) (htr : e.transition = some tr) :
    weightLegal e l = true ↔ (tr.phase = .cross ∨ tr.phase = .dipIn) ∧ l.weight = crossWeight tr.j tr.fade := by
  simp [weightLegal, h, htr]

theorem weightLegal_outgoing (h : l.state = .outgoing) (htr : e.transition = some tr) :
    weightLegal e l = true ↔ tr.phase = .cross ∧ l.weight = Config.weightUnity - crossWeight tr.j tr.fade := by
  simp [weightLegal, h, htr]

/-- A lane that is neither INCOMING, OUTGOING nor LIVE may have any weight. -/
theorem weightLegal_idle (h : l.state = .idle ∨ l.state = .tailing ∨ l.state = .cutting) : weightLegal e l = true := by
  rcases h with h | h | h <;> simp [weightLegal, h]

/-- Outside CROSS and DIP_IN no lane is INCOMING or OUTGOING. -/
theorem weightLegal_resting (h : weightLegal e l = true)
    (he : ∀ tr, e.transition = some tr → tr.phase = .prepare ∨ tr.phase = .dipOut) :
    l.state = .live ∧ l.weight = Config.weightUnity ∨ l.state = .idle ∨ l.state = .tailing ∨ l.state = .cutting := by
  cases hst : l.state <;> simp only [reduceCtorEq, true_and, false_and, or_true, or_false]
  case live => simpa [weightLegal, hst] using h
  case incoming | outgoing =>
    cases htr : e.transition
    case none => simp [weightLegal, hst, htr] at h
    case some tr => rcases he tr htr with hp | hp <;> simp [weightLegal, hst, htr, hp] at h

theorem weightLegal_of_resting (e : Engine)
    (h : l.state = .live ∧ l.weight = Config.weightUnity ∨ l.state = .idle ∨ l.state = .tailing ∨ l.state = .cutting) :
    weightLegal e l = true := by
  rcases h with ⟨hst, hw⟩ | h
  · exact (weightLegal_live hst).mpr hw
  · exact weightLegal_idle h

theorem WeightsHeld.of_view {t : State} (h : WeightsHeld s) (hv : transView t = transView s) : WeightsHeld t := by
  simp only [transView, Prod.mk.injEq] at hv
  obtain ⟨hstate, hweight, -, htr⟩ := hv
  refine ⟨fun x => ?_, by rw [htr]; exact h.transition⟩
  rw [weightLegal_congr htr (congrFun hstate x) (congrFun hweight x)]
  exact h.lane x

/-- The lanes of a state whose transition, if it has one, is in PREPARE or DIP_OUT. -/
def Resting (s : State) : Prop :=
  ∀ x, (s.lanes.get x).state = .live ∧ (s.lanes.get x).weight = Config.weightUnity ∨ (s.lanes.get x).state = .idle ∨
    (s.lanes.get x).state = .tailing ∨ (s.lanes.get x).state = .cutting

theorem WeightsHeld.resting (h : WeightsHeld s)
    (he : ∀ tr, s.engine.transition = some tr → tr.phase = .prepare ∨ tr.phase = .dipOut) : Resting s :=
  fun x => weightLegal_resting (h.lane x) he

theorem Resting.withTransition (h : Resting s) (htr : tr.InRange) :
    WeightsHeld (s.withEngine { s.engine with transition := some tr }) := by
  refine ⟨fun x => weightLegal_of_resting _ (h x), ?_⟩
  rintro tr' ⟨⟩
  exact htr

theorem Resting.setLane {x : LaneId} (h : Resting s) (hl : l.state = .idle ∨ l.state = .cutting) : Resting (s.setLane x l) := by
  intro y
  rw [State.setLane_lanes, PerLane.get_set]
  split
  · rcases hl with hl | hl <;> simp [hl]
  · exact h y

theorem Transition.InRange.loaded (h : tr.InRange) (old : Option Scene) : (tr.loaded old).InRange :=
  ⟨tr.loaded_legal h.legal old, h.fadeLo, h.fadeHi, Nat.zero_le _⟩

theorem crossWeight_zero (f : Nat) : crossWeight 0 f = 0 := by simp [crossWeight]

theorem crossWeight_self {f : Nat} (h : 0 < f) : crossWeight f f = Config.weightUnity := by
  rw [crossWeight, Nat.mul_div_cancel _ h]

/-- The load step of a FADE starts from resting lanes: the target at weight 0, the lane that was LIVE at unity (R61). -/
theorem weightsHeld_loadStep {x : LaneId} (h : Resting s) (htr : tr.InRange) (hkind : tr.kind = .fade)
    (htarget : tr.target = some x) : WeightsHeld (loadStep tr s) := by
  obtain ⟨sc, hsc⟩ := loadStep_scene tr s
  have hload := fadeLoaded_loadStep hkind htarget s
  have hloaded := loadStep_transition tr s
  have hphase : (tr.loaded s.engine.scene).phase = .cross := by simp [Transition.loaded, hkind]
  have hzero : crossWeight (tr.loaded s.engine.scene).j (tr.loaded s.engine.scene).fade = 0 := crossWeight_zero _
  refine ⟨fun y => ?_, fun tr' htr' => ?_⟩
  · by_cases hy : y = x
    · obtain ⟨hst, hw⟩ := fadeLoaded_self hload hsc
      rw [hy, weightLegal_incoming hst hloaded, hw, hzero]
      exact ⟨.inl hphase, rfl⟩
    · rw [hload.2 y hy]
      split
      · next hlive =>
        rw [weightLegal_outgoing rfl hloaded, hzero]
        refine ⟨hphase, ?_⟩
        rcases h y with hrest | hrest
        · exact hrest.2
        · simp [hlive] at hrest
      · exact weightLegal_of_resting _ (h y)
  · rw [hloaded] at htr'
    cases htr'
    exact htr.loaded _

theorem weightsHeld_dipOutEnd (htr : tr.InRange) (hkind : tr.kind = .dip) : WeightsHeld (dipOutEnd tr s) := by
  obtain ⟨sc, hsc⟩ := loadStep_scene tr (s.withLanes (s.lanes.map Lane.toIdle))
  obtain ⟨⟨ha, hwa⟩, hb⟩ := dipLoaded_states (dipLoaded_dipOutEnd hkind s) hsc
  have hloaded : (dipOutEnd tr s).engine.transition = some (tr.loaded s.engine.scene) := loadStep_transition _ _
  have hphase : (tr.loaded s.engine.scene).phase = .dipIn := by simp [Transition.loaded, hkind]
  have hzero : crossWeight (tr.loaded s.engine.scene).j (tr.loaded s.engine.scene).fade = 0 := crossWeight_zero _
  refine ⟨fun y => ?_, fun tr' htr' => ?_⟩
  · cases y
    · exact (weightLegal_incoming ha hloaded).mpr ⟨.inr hphase, by rw [hzero, hwa]⟩
    · rcases hb with hb | ⟨hb, hwb⟩
      · exact weightLegal_idle (.inl hb)
      · exact (weightLegal_incoming hb hloaded).mpr ⟨.inr hphase, by rw [hzero, hwb]⟩
  · rw [hloaded] at htr'
    cases htr'
    exact htr.loaded _

theorem weightsHeld_enterDipOut (h : Resting s) (htr : tr.InRange) (hkind : tr.kind = .dip) :
    WeightsHeld (enterDipOut tr s) := by
  have hcut (b : Bool) : ({ tr with tailCut := b } : Transition).InRange :=
    ⟨Transition.legal_of_same htr.legal rfl rfl rfl, htr.fadeLo, htr.fadeHi, htr.j⟩
  unfold enterDipOut
  dsimp only
  split
  · exact weightsHeld_dipOutEnd (hcut _) hkind
  · exact h.withTransition (hcut _)

theorem weightsHeld_enterPrepare {x : LaneId} (h : Resting s) (htr : tr.InRange) (hkind : tr.kind = .fade)
    (htarget : tr.target = some x) : WeightsHeld (enterPrepare tr x s) := by
  unfold enterPrepare
  split
  · exact weightsHeld_loadStep h htr hkind htarget
  · exact (h.setLane (.inr rfl)).withTransition
      ⟨Transition.legal_of_same htr.legal rfl rfl rfl, htr.fadeLo, htr.fadeHi, htr.j⟩
  · exact h.withTransition htr

theorem weightsHeld_beginTransition {o : Link} {i : Nat} {p : Preset} (h : WeightsHeld s)
    (hnone : s.engine.transition = none) (hp : p.Legal) : WeightsHeld (beginTransition o i p s) := by
  have hrest : Resting (raiseNotice .scene s) := h.resting (fun tr htr => by simp [hnone] at htr)
  unfold beginTransition
  dsimp only
  split
  · next hdip => exact weightsHeld_enterDipOut hrest ⟨rfl, hp.fadeLo, hp.fadeHi, Nat.zero_le _⟩ rfl
  · next hfade => exact weightsHeld_enterPrepare hrest ⟨rfl, hp.fadeLo, hp.fadeHi, Nat.zero_le _⟩ rfl rfl

/-- A lane that is cut, or that becomes IDLE, has no weight to keep. -/
theorem WeightsHeld.setLane {x : LaneId} (h : WeightsHeld s) (hl : l.state = .idle ∨ l.state = .cutting) :
    WeightsHeld (s.setLane x l) := by
  refine ⟨fun y => ?_, h.transition⟩
  rw [State.setLane_lanes, PerLane.get_set]
  split
  · refine weightLegal_idle ?_
    rcases hl with hl | hl <;> simp [hl]
  · exact h.lane y

theorem weightsHeld_laneIdle {x : LaneId} (h : WeightsHeld s) : WeightsHeld (laneIdle x s) := by
  have hidle : WeightsHeld (s.setLane x (s.lanes.get x).toIdle) := h.setLane (.inl rfl)
  unfold laneIdle
  dsimp only
  split
  · next tr htr =>
    split
    · next hphase =>
      have hrange := h.transition tr htr
      refine weightsHeld_loadStep (hidle.resting fun tr' htr' => ?_) hrange (tr.kind_of_prepare hrange.legal hphase.1) hphase.2
      have heq : some tr' = some tr := htr'.symm.trans htr
      cases heq
      exact .inl hphase.1
    · exact hidle
  · exact hidle

/-- At the end of the ramp the incoming lanes have unity; the outgoing lane of a FADE keeps no weight law (R63, R68). -/
theorem weightLegal_arrive (h : weightLegal e l = true) (htr : e.transition = some tr) (hrange : tr.InRange)
    (hend : tr.fade ≤ tr.j) (hout : l.state ≠ .outgoing) : weightLegal e' l.arrive = true := by
  by_cases hin : l.state = .incoming
  · rw [Lane.arrive_of_incoming hin]
    rw [weightLegal_incoming hin htr] at h
    rw [weightLegal_live rfl]
    have hj : tr.j = tr.fade := le_antisymm hrange.j hend
    have hpos : 0 < tr.fade := lt_of_lt_of_le (by decide) hrange.fadeLo
    exact h.2.trans (by rw [hj, crossWeight_self hpos])
  · rw [Lane.arrive_of_ne hin]
    cases hst : l.state <;> simp_all [weightLegal]

theorem weightsHeld_fadeCompleted (h : WeightsHeld s) (htr : s.engine.transition = some tr) (hend : tr.fade ≤ tr.j) :
    WeightsHeld (completed tr (s.withLanes (s.lanes.map (fun l => (l.endFade tr.tailHold).arrive)))) := by
  refine ⟨fun x => ?_, fun tr' htr' => absurd htr' (by simp [completed])⟩
  rw [completed, State.withEngine_lanes, State.withLanes_lanes, PerLane.get_map]
  by_cases hout : (s.lanes.get x).state = .outgoing
  · have hend' := Lane.endFade_of_outgoing tr.tailHold hout
    rw [Lane.arrive_of_ne (by rcases hend' with h' | h' <;> simp [h'])]
    exact weightLegal_idle (.inr hend')
  · rw [Lane.endFade_of_ne hout]
    exact weightLegal_arrive (h.lane x) htr (h.transition tr htr) hend hout

theorem weightsHeld_dipCompleted (h : WeightsHeld s) (htr : s.engine.transition = some tr) (hphase : tr.phase = .dipIn)
    (hend : tr.fade ≤ tr.j) : WeightsHeld (completed tr (s.withLanes (s.lanes.map Lane.arrive))) := by
  refine ⟨fun x => ?_, fun tr' htr' => absurd htr' (by simp [completed])⟩
  rw [completed, State.withEngine_lanes, State.withLanes_lanes, PerLane.get_map]
  refine weightLegal_arrive (h.lane x) htr (h.transition tr htr) hend fun hout => ?_
  have hx := h.lane x
  rw [weightLegal_outgoing hout htr, hphase] at hx
  exact absurd hx.1 (by simp)

theorem weightLegal_writeWeight (h : weightLegal e l = true) (htr : e.transition = some tr) {tr' : Transition}
    (htr' : e'.transition = some tr') (hphase : tr'.phase = tr.phase) :
    weightLegal e' (l.writeWeight (crossWeight tr'.j tr'.fade)) = true := by
  by_cases hin : l.state = .incoming
  · rw [weightLegal_incoming (by rw [Lane.writeWeight_state, hin]) htr', Lane.writeWeight_incoming hin, hphase]
    exact ⟨((weightLegal_incoming hin htr).mp h).1, rfl⟩
  · by_cases hout : l.state = .outgoing
    · rw [weightLegal_outgoing (by rw [Lane.writeWeight_state, hout]) htr', Lane.writeWeight_outgoing hout, hphase]
      exact ⟨((weightLegal_outgoing hout htr).mp h).1, rfl⟩
    · rw [Lane.writeWeight_other hin hout]
      cases hst : l.state <;> simp_all [weightLegal]

theorem weightsHeld_engineFrame (h : WeightsHeld s) : WeightsHeld (engineFrame s) := by
  unfold engineFrame
  split
  · next tr htr =>
    split
    · next hramp =>
      refine ⟨fun x => ?_, ?_⟩
      · rw [State.withEngine_lanes, State.withLanes_lanes, PerLane.get_map]
        exact weightLegal_writeWeight (tr' := { tr with j := tr.j + 1 }) (h.lane x) htr rfl rfl
      · rintro tr' ⟨⟩
        have hrange := h.transition tr htr
        exact ⟨Transition.legal_of_same hrange.legal rfl rfl rfl, hrange.fadeLo, hrange.fadeHi, hramp.2⟩
    · exact h
  · exact h

theorem weightsHeld_inputFrame (x : Int) (h : WeightsHeld s) : WeightsHeld (inputFrame x s) :=
  (weightsHeld_engineFrame (h.of_view (transView_framed x s))).of_view (transView_inputFrame x s)

theorem weightsHeld_initial (hlanes : s.lanes = ⟨.initial, .initial⟩) (hengine : s.engine = .initial) : WeightsHeld s := by
  constructor
  · intro x
    rw [hlanes, hengine]
    cases x <;> decide
  · rw [hengine]
    rintro tr ⟨⟩

end

theorem reads_weightsHeld : Reads [.lanes, .engine] WeightsHeld := by
  intro s t hb h
  have he : t.engine = s.engine := hb .engine (by decide)
  exact h.of_view (transView_of_same (hb .lanes (by decide)) (by rw [he]) (by rw [he]))

/-- The weights are kept where the presets are legal. -/
theorem weightsHeld_ownersKeep : OwnersKeep (fun s => presetLaw s = true ∧ WeightsHeld s) := by
  have hL := presetLaw_ownersKeep
  have hW := reads_weightsHeld
  have hR : Reads [.stores, .lanes, .engine] (fun s => presetLaw s = true ∧ WeightsHeld s) :=
    .and (reads_presetLaw.mono (by decide)) (hW.mono (by decide))
  exact {
    reads := hR.mono (by decide)
    begins := fun h htr hp hready => ⟨hL.begins h.1 htr hp hready,
      weightsHeld_beginTransition h.2 htr (((presetLaw_iff _).mp h.1).1.valid hp)⟩
    powerOn := fun h => ⟨hL.powerOn h.1, weightsHeld_initial rfl rfl⟩
    softReset := fun h => ⟨hL.softReset h.1, weightsHeld_initial rfl rfl⟩
    inputFrame := fun h => ⟨hL.inputFrame h.1, weightsHeld_inputFrame _ h.2⟩
    laneBoundary := fun h => ⟨hL.laneBoundary h.1, h.2.of_view (transView_laneBoundary _ _)⟩
    cut := fun h hx => ⟨hL.cut h.1 hx, h.2.setLane (.inr rfl)⟩
    laneIdle := fun h hx => ⟨hL.laneIdle h.1 hx, weightsHeld_laneIdle h.2⟩
    dipOutEnd := fun h htr hphase => ⟨hL.dipOutEnd h.1 htr hphase,
      weightsHeld_dipOutEnd (h.2.transition _ htr) (Transition.kind_of_dipOut (h.2.transition _ htr).legal hphase)⟩
    fadeCompleted := fun h htr hphase hend => ⟨hL.fadeCompleted h.1 htr hphase hend, weightsHeld_fadeCompleted h.2 htr hend⟩
    dipCompleted := fun h htr hphase hend => ⟨hL.dipCompleted h.1 htr hphase hend,
      weightsHeld_dipCompleted h.2 htr hphase hend⟩
    deliver := fun h ht => ⟨hL.deliver h.1 ht, h.2.of_view (transView_deliver _ _ _ _)⟩ }

end Sys2Proof.Machine

/-! The arbiter at rest (R84): a look leaves no slot that could be granted. -/

namespace Sys2Proof.Machine

/-- A transition is in flight, or no slot can be granted. -/
def AtRest (s : State) : Prop := s.engine.transition.isSome = true ∨ ∀ k, s.arbiter.grantable k = false

theorem restLaw_iff (s : State) : restLaw s = true ↔ AtRest s := by
  simp only [restLaw, AtRest, Bool.or_eq_true, List.all_eq_true, forall_mem_links, Arbiter.grantable, Bool.and_eq_false_iff,
    Bool.not_eq_false', Option.isNone_iff_eq_none, Option.isSome_eq_false_iff]

/-- A tenure bars by its owner alone. -/
theorem barred_congr {a b : Arbiter} (h : b.tenure.map Tenure.owner = a.tenure.map Tenure.owner) (k : Link) :
    b.barred k = a.barred k := by
  unfold Arbiter.barred
  cases ha : a.tenure <;> cases hb : b.tenure <;> simp_all

theorem AtRest.of_same {s t : State} (h : AtRest s) (htr : t.engine.transition.isSome = s.engine.transition.isSome)
    (hslots : t.arbiter.slots = s.arbiter.slots)
    (howner : t.arbiter.tenure.map Tenure.owner = s.arbiter.tenure.map Tenure.owner) : AtRest t := by
  rw [AtRest, htr]
  refine h.imp_right fun hk k => ?_
  rw [Arbiter.grantable, hslots, barred_congr howner]
  exact hk k

theorem AtRest.of_arbiter {s t : State} (h : AtRest s) (htr : t.engine.transition.isSome = s.engine.transition.isSome)
    (ha : t.arbiter = s.arbiter) : AtRest t :=
  h.of_same htr (by rw [ha]) (by rw [ha])

theorem reads_atRest : Reads [.engine, .arbiter] AtRest := fun _ _ hb h =>
  h.of_arbiter (by rw [hb .engine (by decide)]) (hb .arbiter (by decide))

/-! ### A look of the arbiter (R84, R85) -/

/-- How many recalls wait. -/
def Arbiter.waiting (a : Arbiter) : Nat :=
  a.slots.player.isSome.toNat + a.slots.crew.isSome.toNat + a.slots.showControl.isSome.toNat

theorem waiting_le_three (a : Arbiter) : a.waiting ≤ 3 := by
  have h := Bool.toNat_le
  unfold Arbiter.waiting
  have := h a.slots.player.isSome
  have := h a.slots.crew.isSome
  have := h a.slots.showControl.isSome
  omega

theorem waiting_set_none {a b : Arbiter} {l : Link} (h : (a.slots.get l).isSome = true)
    (hb : b.slots = a.slots.set l none) : b.waiting + 1 = a.waiting := by
  unfold Arbiter.waiting
  have hfull := congrArg Bool.toNat h
  have hempty : (none : Option Waiting).isSome.toNat = 0 := rfl
  rw [hb]
  cases l
  all_goals
    simp only [PerLink.get, Bool.toNat_true] at hfull
    dsimp only [PerLink.set]
    omega

theorem grantable_of_waiting_zero {a : Arbiter} (h : a.waiting = 0) (k : Link) : a.grantable k = false := by
  unfold Arbiter.waiting at h
  cases k <;> simp only [Arbiter.grantable, PerLink.get, Bool.and_eq_false_iff] <;> left <;> by_contra hsome <;>
    simp only [Bool.not_eq_false] at hsome <;> simp [hsome] at h

/-- The arbiter after a grant: the slot is empty, and a transition that begins has its grant record (R85, R86). -/
theorem grantRecall_arbiter (l : Link) (w : Waiting) (s : State) :
    (grantRecall l w s).arbiter =
      match (engineGrant l w.index (grantAsked l s)).1 with
      | some _ => { s.arbiter with slots := s.arbiter.slots.set l none }
      | none => { s.arbiter with slots := s.arbiter.slots.set l none, grant := some ⟨l, w.tag, w.place.isNone, true⟩ } := by
  have hasked : (grantAsked l s).arbiter = { s.arbiter with slots := s.arbiter.slots.set l none } := by
    unfold grantAsked
    dsimp only
    split
    · rw [changesOnly_tunerOff.same .arbiter (by decide)]
      rfl
    · rfl
  have hengine : (engineGrant l w.index (grantAsked l s)).2.arbiter = (grantAsked l s).arbiter :=
    changesOnly_engineGrant.same .arbiter (by decide)
  rw [hasked] at hengine
  rw [grantRecall_eq]
  rcases hgrant : engineGrant l w.index (grantAsked l s) with ⟨_ | r, t⟩
  all_goals rw [hgrant] at hengine
  · exact congrArg (fun a : Arbiter => { a with grant := some ⟨l, w.tag, w.place.isNone, true⟩ }) hengine
  · exact hengine

theorem grantRecall_slots (l : Link) (w : Waiting) (s : State) :
    (grantRecall l w s).arbiter.slots = s.arbiter.slots.set l none := by
  rw [grantRecall_arbiter]
  split <;> rfl

/-- Each grant empties a slot: as many looks as recalls wait leave the arbiter at rest. -/
theorem atRest_look (n : Nat) {s : State} (hn : s.arbiter.waiting ≤ n) : AtRest (look n s) := by
  induction n generalizing s with
  | zero => exact .inr (grantable_of_waiting_zero (Nat.le_zero.mp hn))
  | succ n ih =>
    unfold look
    split
    · next htr => exact .inl htr
    · split
      · next hnone => exact .inr (Arbiter.choice_eq_none.mp hnone)
      · next l hl =>
        have hg := Arbiter.choice_grantable hl
        simp only [Arbiter.grantable, Bool.and_eq_true] at hg
        split
        · next hempty => simp [hempty] at hg
        · next w _ =>
          refine ih ?_
          have := waiting_set_none hg.1 (grantRecall_slots l w s)
          omega

theorem atRest_arbiterLook (s : State) : AtRest (arbiterLook s) := atRest_look 3 (waiting_le_three _)

/-! ### The rows -/

theorem atRest_drop (l : Link) {s t : State} (h : AtRest s) (htr : t.engine = s.engine)
    (ha : t.arbiter = s.arbiter.drop l) : AtRest t := by
  rw [AtRest, htr]
  refine h.imp_right fun hk k => ?_
  rw [Arbiter.grantable, ha, Arbiter.drop, PerLink.get_set]
  split
  · rfl
  · exact hk k

theorem atRest_softReset (s : State) : AtRest (softReset s) := .inr fun k => by cases k <;> rfl

theorem atRest_linkDrop (l : Link) {s : State} (h : AtRest s) : AtRest (linkDrop l s) := by
  rw [linkDrop_eq]
  split
  · exact atRest_softReset _
  · exact atRest_drop l h rfl rfl

theorem atRest_laneIdle (x : LaneId) {s : State} (h : AtRest s) : AtRest (laneIdle x s) := by
  unfold laneIdle
  dsimp only
  split
  · split
    · exact .inl (by rw [loadStep_transition]; rfl)
    · exact h
  · exact h

theorem atRest_onTransition {f : Transition → State → State} {s : State} (hf : ∀ tr, AtRest (f tr s)) (h : AtRest s) :
    AtRest (onTransition f s) := by
  unfold onTransition
  split
  · exact hf _
  · exact h

theorem atRest_completeTransition (tr : Transition) (s : State) : AtRest (completeTransition tr s) := atRest_arbiterLook _

theorem atRest_effect {e : Event} {s : State} (h : AtRest s) : AtRest (effect e s) := by
  cases e
  case dcWindowEnd => exact reads_atRest.keep changesOnly_dcWindowEnd (by decide) h
  case flagLatch => exact reads_atRest.keep changesOnly_flagLatch (by decide) h
  case decimatedSample => exact reads_atRest.keep changesOnly_decimatedSample (by decide) h
  case tunerStale => exact reads_atRest.keep changesOnly_tunerStale (by decide) h
  case tailTimerExpiry => exact reads_atRest.keep changesOnly_setLane (by decide) h
  case tailFloorEnd x => exact atRest_laneIdle x h
  case cutEnd x => exact atRest_laneIdle x h
  case dipOutEnd =>
    refine atRest_onTransition (fun tr => .inl ?_) h
    rw [dipOutEnd, loadStep_transition]
    rfl
  case fadeComplete => exact atRest_onTransition (fun tr => atRest_completeTransition _ _) h
  case dipComplete => exact atRest_onTransition (fun tr => atRest_completeTransition _ _) h
  case gapTimeout => exact reads_atRest.keep (changesOnly_discard _ _ _) (by decide) h
  case linkDrop l => exact atRest_linkDrop l h
  case safetyTimerExpiry => exact reads_atRest.keep changesOnly_safetyExpiry (by decide) h
  case tenureExpiry => exact atRest_arbiterLook _
  case softReset => exact atRest_softReset s

theorem atRest_setting {t : Setting} {v : Nat} {s : State} (h : AtRest s) : AtRest (setting t v s).2 := by
  rcases setting_state t v s with hs | hs <;> rw [hs]
  · exact h
  · cases t
    case tenure => exact h.of_same rfl rfl rfl
    all_goals exact reads_atRest.keep changesOnly_putSetting_blocks (by decide) h

theorem atRest_deliver {t : ReqType} {l : Link} {body : List Byte} {s : State} (h : AtRest s) :
    AtRest (deliver t l body s).2 := by
  have htr : (deliver t l body s).2.engine.transition.isSome = s.engine.transition.isSome :=
    congrArg (fun v => v.2.2.2.isSome) (transView_deliver t l body s)
  cases t
  case windowSet =>
    refine h.of_same htr ?_ ?_
    all_goals
      simp only [deliver, windowSet]
      split
      · rfl
      · split_ifs <;> rfl
  case setting =>
    simp only [deliver]
    split
    · exact atRest_setting h
    · exact h
  all_goals exact h.of_arbiter htr (changesOnly_deliver.same .arbiter (by decide))

theorem atRest_takeRecall {l : Link} {tag : Byte} {body : List Byte} {s : State} (h : AtRest s) :
    AtRest (takeRecall l tag body s) := by
  unfold takeRecall
  dsimp only
  split
  · exact reads_atRest.keep changesOnly_refuseRecall (by decide) h
  · split
    · exact h
    · exact atRest_arbiterLook _

theorem atRest_takeRecallIndex {l : Link} {tag : Byte} {body : List Byte} {s : State} (h : AtRest s) :
    AtRest (takeRecallIndex l tag body s) := by
  unfold takeRecallIndex
  dsimp only
  split
  · exact reads_atRest.keep changesOnly_refuseRecall (by decide) h
  · split
    · exact atRest_arbiterLook _
    · exact reads_atRest.keep changesOnly_refuseRecall (by decide) h

theorem atRest_checkRequest {t : ReqType} {l : Link} {tag : Byte} {body : List Byte} {s : State} (h : AtRest s) :
    AtRest (checkRequest t l tag body s) := by
  unfold checkRequest
  split
  · exact h
  · split
    · exact h
    · unfold carryOut
      split
      · exact atRest_takeRecall h
      · exact atRest_takeRecallIndex h
      · exact h
      · exact atRest_deliver h

theorem atRest_rowsKeep : RowsKeep AtRest AtRest where
  rest := id
  pump h := h
  powerOn _ := .inr fun k => by cases k <;> rfl
  effect h _ := atRest_effect h
  inputFrame {x s} h := by
    have htr : (inputFrame x s).engine.transition.isSome = s.engine.transition.isSome := by
      rw [inputFrame_engine]
      unfold engineFrame
      split
      · next tr htr =>
        have htr' : s.engine.transition = some tr := htr
        split <;> simp [htr']
      · rfl
    exact h.of_arbiter htr (changesOnly_inputFrame.same .arbiter (by decide))
  frontEndBoundary h := reads_atRest.keep changesOnly_frontEndBoundary (by decide) h
  laneBoundary h := reads_atRest.keep changesOnly_laneBoundary (by decide) h
  controlMillisecond {s} h := h.of_same rfl rfl (by
    simp only [controlMillisecond, State.withMixer_arbiter, State.withArbiter_arbiter, Option.map_map]
    rfl)
  breakBegins h := reads_atRest.keep changesOnly_breakBegins (by decide) h
  breakEnd h := reads_atRest.keep changesOnly_breakEnd (by decide) h
  messageEnds h := reads_atRest.keep changesOnly_messageEnds (by decide) h
  setReceiver h := h
  discard h := reads_atRest.keep (changesOnly_discard _ _ _) (by decide) h
  request h _ := atRest_checkRequest (s := reserveSlot _ _) h
  answer h _ := h
  setting h _ := atRest_setting (s := reserveSlot _ _) h

end Sys2Proof.Machine

namespace Sys2Proof.Laws

open Sys2Proof.Machine

/-- Settles O6: the weights together with the legal presets that transitions are made from; the working scene by what each
owner does; the arbiter at rest by its looks. -/
theorem stepKeepsSceneLaws : Obligations.StepKeepsSceneLaws := by
  refine ⟨fun s t hweight hpreset hstep => ?_, fun s t h hstep => ?_, fun s t h hstep => ?_⟩
  · exact (weightLaw_iff t).mpr (weightsHeld_ownersKeep.step ⟨hpreset, (weightLaw_iff s).mp hweight⟩ hstep).2
  · exact (sceneLaw_iff t).mpr (sceneHeld_ownersKeep.step ((sceneLaw_iff s).mp h) hstep)
  · exact (restLaw_iff t).mpr (atRest_rowsKeep.step (fun hu => hu) ((restLaw_iff s).mp h) hstep)

end Sys2Proof.Laws

/-! The law of the Model Stores (R36): whatever is named where it is in use is READY. -/

namespace Sys2Proof.Machine

/-! ### The records that chains and pending sets name -/

/-- The curve and impulse indexes of a chain. -/
def Chain.refs (c : Chain) : Nat × Nat × Option Nat := (c.drive.curve, c.power.curve, c.cab)

/-- The curve and impulse indexes that a pending set would write. -/
def PendingSet.refs (p : PendingSet) : Option Nat × Option Nat × Option (Option Nat) := (p.driveCurve, p.powerCurve, p.cab)

theorem chainReady_congr {st : Stores} {c d : Chain} (h : d.refs = c.refs) : st.chainReady d = st.chainReady c := by
  simp only [Chain.refs, Prod.mk.injEq] at h
  obtain ⟨hdrive, hpower, hcab⟩ := h
  rw [Stores.chainReady, Stores.chainReady, hdrive, hpower, hcab]

theorem pendingBacked_congr {st : Stores} {p q : PendingSet} (h : q.refs = p.refs) :
    pendingBacked st q = pendingBacked st p := by
  simp only [PendingSet.refs, Prod.mk.injEq] at h
  obtain ⟨hdrive, hpower, hcab⟩ := h
  rw [pendingBacked, pendingBacked, hdrive, hpower, hcab]

theorem chainReady_iff {st : Stores} {c : Chain} :
    st.chainReady c = true ↔
      (st.curve c.drive.curve).state = .ready ∧ (st.curve c.power.curve).state = .ready ∧
        ∀ i, c.cab = some i → (st.impulse i).state = .ready := by
  unfold Stores.chainReady
  cases c.cab <;> simp [and_assoc]

theorem pendingBacked_iff {st : Stores} {p : PendingSet} :
    pendingBacked st p = true ↔
      (∀ i, p.driveCurve = some i → (st.curve i).state = .ready) ∧
        (∀ i, p.powerCurve = some i → (st.curve i).state = .ready) ∧
        ∀ i, p.cab = some (some i) → (st.impulse i).state = .ready := by
  simp only [pendingBacked, Bool.and_eq_true, Option.all_eq_true, beq_iff_eq, and_assoc]
  refine and_congr_right fun _ => and_congr_right fun _ => ⟨fun h i hi => h _ hi i rfl, ?_⟩
  rintro h c hc i rfl
  exact h i hc

@[simp] theorem pendingBacked_empty (st : Stores) : pendingBacked st .empty = true := rfl

/-- Both chains of a preset that is READY are READY. -/
theorem presetReady_iff {st : Stores} {p : Preset} :
    st.presetReady p = true ↔ st.chainReady p.chainA = true ∧ ∀ c, p.chainB = some c → st.chainReady c = true := by
  unfold Stores.presetReady Preset.anyChain
  cases p.chainB <;> simp

theorem presetReady_chain {st : Stores} {p : Preset} (h : st.presetReady p = true) (c : ChainId) :
    st.chainReady (p.chain c) = true := by
  obtain ⟨ha, hb⟩ := presetReady_iff.mp h
  cases c
  case a => exact ha
  case b =>
    unfold Preset.chain
    cases hc : p.chainB
    case none => exact ha
    case some x => exact hb x hc

theorem presetReady_setChain {st : Stores} {p : Preset} {c : ChainId} {v : Chain} (h : st.presetReady p = true)
    (hv : st.chainReady v = true) : st.presetReady (p.setChain c v) = true := by
  obtain ⟨ha, hb⟩ := presetReady_iff.mp h
  rw [presetReady_iff]
  cases c
  case a => exact ⟨hv, hb⟩
  case b =>
    refine ⟨ha, fun x hx => ?_⟩
    obtain ⟨_, -, rfl⟩ := Option.map_eq_some_iff.mp hx
    exact hv

/-- A group whose curve or impulse is READY leaves a READY preset READY (R70). -/
theorem presetReady_putGroup {st : Stores} {p : Preset} {c : ChainId} {g : Group} (h : st.presetReady p = true)
    (hg : st.groupReady g = true) : st.presetReady (p.putGroup c g) = true := by
  have hc := presetReady_chain h c
  obtain ⟨hdrive, hpower, hcab⟩ := chainReady_iff.mp hc
  cases g
  case header | levels | expression | tempo => exact h
  case gate | tone1 | tone2 | tone3 | delay | lane => exact presetReady_setChain h ((chainReady_congr (by rfl)).trans hc)
  case drive v => exact presetReady_setChain h (chainReady_iff.mpr ⟨by simpa [Stores.groupReady] using hg, hpower, hcab⟩)
  case power v => exact presetReady_setChain h (chainReady_iff.mpr ⟨hdrive, by simpa [Stores.groupReady] using hg, hcab⟩)
  case cab v =>
    refine presetReady_setChain h (chainReady_iff.mpr ⟨hdrive, hpower, ?_⟩)
    rintro i rfl
    simpa [Stores.groupReady] using hg

/-! ### Targets of assignments name no record (R98) -/

theorem setTarget_refs (p : Params) (t : Target) (v : Nat) : (p.setTarget t v).chain.refs = p.chain.refs := by
  cases t <;> rfl

theorem pendingSetTarget_refs (p : PendingSet) (t : Target) (v : Nat) : (p.setTarget t v).refs = p.refs := by
  cases t <;> rfl

theorem pendBase_refs (xs : List Assign) (c : ChainId) (t : Target) (v : Nat) (p : PendingSet) :
    (pendBase xs c t v p).refs = p.refs := by
  unfold pendBase
  split
  · rfl
  · exact pendingSetTarget_refs _ _ _

/-- The chain that a load takes names what the preset's chain names. -/
theorem params_refs (sc : Scene) (c : ChainId) : (sc.params c).chain.refs = (sc.preset.chain c).refs := by
  have hfold : ∀ (xs : List (Assign × Nat)) (p : Params),
      (xs.foldl (fun p xv => p.setTarget xv.1.target xv.2) p).chain.refs = p.chain.refs := by
    intro xs
    induction xs with
    | nil => exact fun _ => rfl
    | cons x xs ih => exact fun p => (ih _).trans (setTarget_refs _ _ _)
  exact hfold _ _

/-- A fold of steps that each keep what a pending set names keeps it. -/
theorem foldl_refs {α : Type} {f : PendingSet → α → PendingSet} (hf : ∀ p x, (f p x).refs = p.refs) (xs : List α)
    (p : PendingSet) : (xs.foldl f p).refs = p.refs := by
  induction xs generalizing p with
  | nil => rfl
  | cons x xs ih => exact (ih _).trans (hf p x)

/-- An EDIT whose curve or impulse is READY writes READY names (R70, R71). -/
theorem pendingBacked_editWrite {st : Stores} {period : Nat} {xs : List Assign} {named c : ChainId} {g : Group}
    {p : PendingSet} (hg : st.groupReady g = true) (h : pendingBacked st p = true) :
    pendingBacked st (editWrite period xs named g c p) = true := by
  obtain ⟨hdrive, hpower, hcab⟩ := pendingBacked_iff.mp h
  cases g
  case header | expression | tempo => exact h
  case levels => exact (pendingBacked_congr (by simp only [editWrite, pendBase_refs])).trans h
  case lane =>
    refine (pendingBacked_congr ?_).trans h
    simp only [editWrite]
    split
    · exact pendBase_refs _ _ _ _ _
    · rfl
  case gate | tone1 | tone2 | tone3 =>
    simp only [editWrite]
    split <;> exact h
  case delay =>
    simp only [editWrite]
    split
    · exact (pendingBacked_congr (by simp only [pendBase_refs]; rfl)).trans h
    · exact h
  case drive v =>
    simp only [editWrite]
    split
    · rw [pendingBacked_congr (p := { p with driveCurve := some v.curve }) (by simp only [pendBase_refs]), pendingBacked_iff]
      refine ⟨?_, hpower, hcab⟩
      rintro i ⟨⟩
      simpa [Stores.groupReady] using hg
    · exact h
  case power v =>
    simp only [editWrite]
    split
    · rw [pendingBacked_congr (p := { p with powerCurve := some v.curve }) (by simp only [pendBase_refs]), pendingBacked_iff]
      refine ⟨hdrive, ?_, hcab⟩
      rintro i ⟨⟩
      simpa [Stores.groupReady] using hg
    · exact h
  case cab v =>
    simp only [editWrite]
    split
    · refine pendingBacked_iff.mpr ⟨hdrive, hpower, ?_⟩
      rintro i ⟨⟩
      simpa [Stores.groupReady] using hg
    · exact h

/-! ### A lane whose names are READY -/

/-- A lane that is not IDLE names READY records alone, in its parameters and in what is pending. -/
def Lane.Backed (st : Stores) (l : Lane) : Prop :=
  l.state ≠ .idle → st.chainReady l.params.chain = true ∧ pendingBacked st l.pendingSet = true

/-- What moves neither a lane's parameters nor its names, but may empty its pending set, and wakes no IDLE lane. -/
theorem Lane.Backed.of_same {st : Stores} {l m : Lane} (h : l.Backed st) (hidle : l.state = .idle → m.state = .idle)
    (hparams : m.params = l.params) (hpending : m.pendingSet = l.pendingSet ∨ m.pendingSet = .empty) : m.Backed st := by
  intro hm
  obtain ⟨hchain, hset⟩ := h (mt hidle hm)
  rw [hparams]
  rcases hpending with he | he <;> rw [he]
  · exact ⟨hchain, hset⟩
  · exact ⟨hchain, pendingBacked_empty st⟩

section

variable {st : Stores} {l : Lane}

theorem backed_of_idle (h : l.state = .idle) : l.Backed st := fun hne => absurd h hne

theorem backed_freeze (h : l.Backed st) : l.freeze.Backed st := by
  by_cases hl : l.state = .live
  · rw [Lane.freeze_of_live hl]
    exact h.of_same (fun hi => by simp [hi] at hl) rfl (.inr rfl)
  · rwa [Lane.freeze_of_ne hl]

theorem backed_arrive (h : l.Backed st) : l.arrive.Backed st := by
  by_cases hl : l.state = .incoming
  · rw [Lane.arrive_of_incoming hl]
    exact h.of_same (fun hi => by simp [hi] at hl) rfl (.inl rfl)
  · rwa [Lane.arrive_of_ne hl]

theorem backed_endFade {hold : Option Nat} (h : l.Backed st) : (l.endFade hold).Backed st := by
  unfold Lane.endFade
  split
  · next hl => split <;> exact h.of_same (fun hi => by simp [hi] at hl) rfl (.inl rfl)
  · exact h

theorem backed_writeWeight {w : Nat} (h : l.Backed st) : (l.writeWeight w).Backed st := by
  unfold Lane.writeWeight
  split <;> exact h

theorem backed_load {sc : Scene} {c : ChainId} {role : Role} {s : State} (h : st.presetReady sc.preset = true) :
    (loadLane s sc c role l).Backed st :=
  fun _ => ⟨(chainReady_congr (params_refs sc c)).trans (presetReady_chain h c), rfl⟩

/-- A block boundary takes READY names in (R24). -/
theorem backed_latch (h : l.Backed st) : l.latch.Backed st := by
  intro hl
  obtain ⟨hchain, hset⟩ := h hl
  obtain ⟨hdrive, hpower, hcab⟩ := chainReady_iff.mp hchain
  obtain ⟨pdrive, ppower, pcab⟩ := pendingBacked_iff.mp hset
  refine ⟨chainReady_iff.mpr ⟨?_, ?_, ?_⟩, rfl⟩
  · simp only [Lane.latch, Params.latch, Shaper.take]
    cases hd : l.pendingSet.driveCurve
    · exact hdrive
    · exact pdrive _ hd
  · simp only [Lane.latch, Params.latch, Shaper.take]
    cases hp : l.pendingSet.powerCurve
    · exact hpower
    · exact ppower _ hp
  · simp only [Lane.latch, Params.latch]
    intro i hi
    cases hc : l.pendingSet.cab with
    | none => exact hcab i (by simpa [hc] using hi)
    | some o => exact pcab i (by simpa [hc] using hi)

theorem backed_frame {d : Bool} {x : Int} {ram : Stores} (h : l.Backed st) : (l.frame ram d x).1.Backed st := by
  by_cases hl : l.state = .idle
  · rwa [Lane.frame_of_idle hl]
  · rw [Lane.frame_of_ne_idle hl]
    have hboundary : (if l.boundaryFalls then l.latch else l).Backed st := by
      split
      · exact backed_latch h
      · exact h
    obtain ⟨hstate, -, -, hparams, hpending⟩ := compute_keeps ram d x (if l.boundaryFalls then l.latch else l)
    exact hboundary.of_same (fun hi => hstate.trans hi) hparams (.inl hpending)

theorem backed_pend {f : ChainId → PendingSet → PendingSet}
    (hf : ∀ c p, pendingBacked st p = true → pendingBacked st (f c p) = true) (h : l.Backed st) : (l.pend f).Backed st := by
  intro hl
  rw [Lane.pend_state] at hl
  obtain ⟨hchain, hset⟩ := h hl
  unfold Lane.pend
  split
  · exact ⟨hchain, hf _ _ hset⟩
  · exact ⟨hchain, hset⟩

end

/-! ### The law against a fixed store -/

/-- Every lane, the working scene and the transition in flight name READY records of a store. -/
structure ReadyAt (st : Stores) (s : State) : Prop where
  lanes : bothLanes (Lane.Backed st) s
  presets : s.engine.PresetsHold (fun p => st.presetReady p = true)

theorem readyLaw_iff (s : State) : readyLaw s = true ↔ ReadyAt s.stores s := by
  have hlane : ∀ l : Lane, (l.state == .idle || (s.stores.chainReady l.params.chain && pendingBacked s.stores l.pendingSet)) =
      true ↔ l.Backed s.stores := by
    intro l
    rw [Bool.or_eq_true, Bool.and_eq_true, beq_iff_eq, Lane.Backed, or_iff_not_imp_left]
  simp only [readyLaw, Bool.and_eq_true, List.all_cons, List.all_nil, Bool.and_true, hlane, Option.all_eq_true]
  constructor
  · rintro ⟨⟨⟨ha, hb⟩, hscene⟩, htr⟩
    exact ⟨fun x => by cases x <;> assumption, hscene, htr⟩
  · rintro ⟨hl, hscene, htr⟩
    exact ⟨⟨⟨hl .a, hl .b⟩, hscene⟩, htr⟩

section

variable {st : Stores} {s : State}

theorem readyAt_keep {bs : List Block} {t : State} (hc : changesOnly bs s t) (hl : Block.lanes ∉ bs) (he : Block.engine ∉ bs)
    (h : ReadyAt st s) : ReadyAt st t where
  lanes := bothLanes_keep hc hl h.lanes
  presets := by
    rw [hc.same .engine he]
    exact h.presets

theorem readyAt_loadLanes {tr : Transition} {sc : Scene} (h : ReadyAt st s) (hsc : st.presetReady sc.preset = true) :
    ReadyAt st (loadLanes tr sc s) := by
  unfold loadLanes
  split
  · split
    · exact ⟨bothLanes_setLane (backed_load hsc) h.lanes, h.presets⟩
    · exact h
  · exact ⟨bothLanes_setLane (backed_load hsc) h.lanes, h.presets⟩
  · exact ⟨bothLanes_withLanes (backed_load hsc) (backed_load hsc), h.presets⟩

/-- The load step of a preset that is READY (R60). -/
theorem readyAt_loadStep {tr : Transition} (h : bothLanes (Lane.Backed st) s) (htr : st.presetReady tr.copied = true) :
    ReadyAt st (loadStep tr s) := by
  have hfrozen := bothLanes_keep (changesOnly_applyPresetTempo (t := tr.copied.tempo)) (by decide)
    (bothLanes_map (p := Lane.Backed st) backed_freeze h)
  refine readyAt_loadLanes ⟨bothLanes_keep changesOnly_withEngine (by decide) hfrozen, ?_, ?_⟩ htr
  · rintro sc ⟨⟩
    exact htr
  · rintro tr' ⟨⟩
    exact htr

theorem readyAt_dipOutEnd {tr : Transition} (h : bothLanes (Lane.Backed st) s) (htr : st.presetReady tr.copied = true) :
    ReadyAt st (dipOutEnd tr s) := readyAt_loadStep (bothLanes_map (p := Lane.Backed st) (fun _ => backed_of_idle rfl) h) htr

theorem readyAt_transition {tr : Transition} (h : ReadyAt st s) (htr : st.presetReady tr.copied = true) :
    ReadyAt st (s.withEngine { s.engine with transition := some tr }) :=
  ⟨h.lanes, presetsHold_transition h.presets htr⟩

theorem readyAt_setScene {sc : Scene} (h : ReadyAt st s) (hsc : st.presetReady sc.preset = true) :
    ReadyAt st (setScene sc s) :=
  ⟨h.lanes, presetsHold_scene h.presets hsc⟩

theorem readyAt_cut {x : LaneId} (h : ReadyAt st s) (htail : (s.lanes.get x).state = .tailing) :
    ReadyAt st (s.setLane x (s.lanes.get x).cut) :=
  ⟨bothLanes_setLane ((h.lanes x).of_same (fun hi => by simp [hi] at htail) rfl (.inl rfl)) h.lanes, h.presets⟩

theorem readyAt_beginTransition {l : Link} {i : Nat} {p : Preset} (h : ReadyAt st s) (hp : st.presetReady p = true) :
    ReadyAt st (beginTransition l i p s) := by
  have hraised : ReadyAt st (raiseNotice .scene s) := readyAt_keep changesOnly_raiseNotice (by decide) (by decide) h
  unfold beginTransition
  dsimp only
  split
  · unfold enterDipOut
    dsimp only
    split
    · exact readyAt_dipOutEnd hraised.lanes hp
    · exact readyAt_transition hraised hp
  · unfold enterPrepare
    split
    · exact readyAt_loadStep hraised.lanes hp
    · next htail => exact readyAt_transition (readyAt_cut hraised htail) hp
    · exact readyAt_transition hraised hp

theorem readyAt_laneIdle {x : LaneId} (h : ReadyAt st s) : ReadyAt st (laneIdle x s) := by
  have hidle : ReadyAt st (s.setLane x (s.lanes.get x).toIdle) :=
    ⟨bothLanes_setLane (backed_of_idle rfl) h.lanes, h.presets⟩
  unfold laneIdle
  dsimp only
  split
  · next tr htr =>
    split
    · exact readyAt_loadStep hidle.lanes (h.presets.2 tr htr)
    · exact hidle
  · exact hidle

theorem readyAt_inputFrame {x : Int} (h : ReadyAt st s) : ReadyAt st (inputFrame x s) where
  lanes := by
    refine bothLanes_keep changesOnly_withTuner (by decide) (bothLanes_keep changesOnly_protectionFrame (by decide)
      (bothLanes_keep changesOnly_withMixer (by decide) ?_))
    unfold engineFrame
    split
    · split
      · exact bothLanes_map (p := Lane.Backed st) backed_writeWeight (bothLanes_withLanes (backed_frame (h.lanes .a)) (backed_frame (h.lanes .b)))
      · exact bothLanes_withLanes (backed_frame (h.lanes .a)) (backed_frame (h.lanes .b))
    · exact bothLanes_withLanes (backed_frame (h.lanes .a)) (backed_frame (h.lanes .b))
  presets := presetsHold_inputFrame h.presets

theorem readyAt_laneBoundary {x : LaneId} (h : ReadyAt st s) : ReadyAt st (laneBoundary x s) := by
  unfold laneBoundary
  dsimp only
  split
  · have hlatched : Lane.Backed st { (s.lanes.get x).latch with boundaryTaken := true } :=
      (backed_latch (h.lanes x)).of_same id rfl (.inl rfl)
    exact ⟨bothLanes_setLane hlatched h.lanes, h.presets⟩
  · exact h

theorem readyAt_completed {tr : Transition} {f : Lane → Lane} (hf : ∀ {l : Lane}, l.Backed st → (f l).Backed st)
    (h : ReadyAt st s) : ReadyAt st (completed tr (s.withLanes (s.lanes.map f))) :=
  ⟨bothLanes_keep changesOnly_withEngine (by decide) (bothLanes_map (p := Lane.Backed st) hf h.lanes),
    presetsHold_completed (s := s.withLanes (s.lanes.map f)) h.presets⟩

/-! ### Writes toward the pending sets -/

theorem readyAt_pendLanes {f : ChainId → PendingSet → PendingSet}
    (hf : ∀ c p, pendingBacked st p = true → pendingBacked st (f c p) = true) (h : ReadyAt st s) :
    ReadyAt st (pendLanes f s) :=
  ⟨bothLanes_map (p := Lane.Backed st) (backed_pend hf) h.lanes, h.presets⟩

theorem readyAt_pendLanes_refs {f : ChainId → PendingSet → PendingSet} (hf : ∀ c p, (f c p).refs = p.refs)
    (h : ReadyAt st s) : ReadyAt st (pendLanes f s) :=
  readyAt_pendLanes (fun c p hp => (pendingBacked_congr (hf c p)).trans hp) h

theorem readyAt_writeTempo (ctl : Control) (h : ReadyAt st s) : ReadyAt st (writeTempo ctl s) := by
  have hraised : ReadyAt st (raiseNotice .tempo (s.withControl ctl)) :=
    readyAt_keep changesOnly_raiseNotice (by decide) (by decide) (readyAt_keep changesOnly_withControl (by decide) (by decide) h)
  unfold writeTempo pendLengths
  split
  · exact hraised
  · exact readyAt_pendLanes_refs (fun _ _ => rfl) hraised

theorem readyAt_pedal (body : List Byte) (h : ReadyAt st s) : ReadyAt st (pedal body s).2 := by
  unfold pedal
  split
  · exact h
  · have hctl := fun ctl => readyAt_keep (s := s) (changesOnly_withControl (x := ctl)) (by decide) (by decide) h
    dsimp only
    split
    · exact hctl _
    · next sc hsc =>
      exact readyAt_pendLanes_refs (fun c p => foldl_refs (fun p x => pendingSetTarget_refs _ _ _) _ p)
        (readyAt_setScene (hctl _) (h.presets.1 sc hsc))

theorem readyAt_carryEdit {sc : Scene} {c : ChainId} {g : Group} (h : ReadyAt st s) (hsc : st.presetReady sc.preset = true)
    (hg : st.groupReady g = true) : ReadyAt st (carryEdit sc c g s) := by
  have hnew := presetReady_putGroup (c := c) hsc hg
  unfold carryEdit
  dsimp only
  split
  · refine readyAt_pendLanes_refs (fun c p => foldl_refs (fun p t => ?_) _ p) (readyAt_setScene h hnew)
    split
    · exact pendingSetTarget_refs _ _ _
    · split
      · exact pendingSetTarget_refs _ _ _
      · rfl
  · exact readyAt_pendLanes (fun _ _ hp => pendingBacked_editWrite hg hp) (readyAt_setScene h hnew)

theorem readyAt_edit (body : List Byte) (h : ReadyAt s.stores s) : ReadyAt s.stores (edit body s).2 := by
  unfold edit
  dsimp only
  split
  · split
    · exact h
    · next sc hsc =>
      split_ifs with hfits hready
      · exact h
      · exact h
      · exact readyAt_carryEdit h (h.presets.1 sc hsc) (by simpa using hready)
  · exact h

/-! ### Writes to the stores -/

theorem chainReady_iff_named {c : Chain} : st.chainReady c = true ↔
    (∀ i, c.namesCurve i = true → (st.curve i).state = .ready) ∧
      ∀ i, c.namesImpulse i = true → (st.impulse i).state = .ready := by
  rw [chainReady_iff]
  simp only [Chain.namesCurve, Chain.namesImpulse, Bool.or_eq_true, beq_iff_eq]
  exact ⟨fun ⟨hdrive, hpower, hcab⟩ => ⟨fun i hi => by rcases hi with rfl | rfl <;> assumption, hcab⟩,
    fun ⟨hcurve, hcab⟩ => ⟨hcurve _ (.inl rfl), hcurve _ (.inr rfl), hcab⟩⟩

theorem backed_iff_named {l : Lane} : l.Backed st ↔
    (∀ i, l.namesCurve i = true → (st.curve i).state = .ready) ∧
      ∀ i, l.namesImpulse i = true → (st.impulse i).state = .ready := by
  simp only [Lane.Backed, chainReady_iff_named, pendingBacked_iff, Lane.namesCurve, Lane.namesImpulse, Bool.and_eq_true,
    Bool.or_eq_true, bne_iff_ne, beq_iff_eq]
  grind

theorem presetReady_iff_named {p : Preset} : st.presetReady p = true ↔
    (∀ i, p.anyChain (fun c => c.namesCurve i) = true → (st.curve i).state = .ready) ∧
      ∀ i, p.anyChain (fun c => c.namesImpulse i) = true → (st.impulse i).state = .ready := by
  simp only [presetReady_iff, chainReady_iff_named, Preset.anyChain, Bool.or_eq_true]
  cases p.chainB with
  | none => simp
  | some c => grind

/-- The law in the words of the in-use rule (R36). -/
theorem readyAt_iff : ReadyAt st s ↔
    (∀ i, curveInUse s i = true → (st.curve i).state = .ready) ∧
      ∀ i, impulseInUse s i = true → (st.impulse i).state = .ready := by
  have hsplit : ReadyAt st s ↔ ((s.lanes.a.Backed st ∧ s.lanes.b.Backed st) ∧
      (∀ sc, s.engine.scene = some sc → st.presetReady sc.preset = true) ∧
        ∀ tr, s.engine.transition = some tr → st.presetReady tr.copied = true) :=
    ⟨fun h => ⟨⟨h.lanes .a, h.lanes .b⟩, h.presets⟩, fun h => ⟨fun x => by cases x; exacts [h.1.1, h.1.2], h.2⟩⟩
  rw [hsplit]
  simp only [backed_iff_named, presetReady_iff_named, curveInUse, impulseInUse, Engine.anyChain, Bool.or_eq_true, or_imp,
    forall_and]
  cases s.engine.scene <;> cases s.engine.transition <;> simp <;> tauto

/-- A write that leaves the records in use alone keeps the law. -/
theorem ReadyAt.of_stores {st' : Stores} {t : State} (h : ReadyAt st s) (hlanes : t.lanes = s.lanes)
    (hengine : t.engine = s.engine) (hcurve : ∀ i, curveInUse s i = true → st'.curve i = st.curve i)
    (himpulse : ∀ i, impulseInUse s i = true → st'.impulse i = st.impulse i) : ReadyAt st' t := by
  obtain ⟨hc, hi⟩ := readyAt_iff.mp h
  refine readyAt_iff.mpr ⟨fun i hu => ?_, fun i hu => ?_⟩
  all_goals
    simp only [curveInUse, impulseInUse, hlanes, hengine] at hu
  · rw [hcurve i hu]
    exact hc i hu
  · rw [himpulse i hu]
    exact hi i hu

theorem readyAt_putCurve {i : Nat} {r : WaveRec} (hcanon : s.stores.Canonical) (hfree : curveInUse s i = false)
    (h : ReadyAt s.stores s) : ReadyAt (putCurve i r s).stores (putCurve i r s) := by
  refine h.of_stores rfl rfl (fun j hj => ?_) (fun _ _ => rfl)
  exact tableGet_put_other i j r hcanon.curves (by rintro rfl; simp [hj] at hfree)

theorem readyAt_putImpulse {i : Nat} {r : WaveRec} (hcanon : s.stores.Canonical) (hfree : impulseInUse s i = false)
    (h : ReadyAt s.stores s) : ReadyAt (putImpulse i r s).stores (putImpulse i r s) := by
  refine h.of_stores rfl rfl (fun _ _ => rfl) (fun j hj => ?_)
  exact tableGet_put_other i j r hcanon.impulses (by rintro rfl; simp [hj] at hfree)

theorem readyAt_libraryWrite {i : Nat} {r : PresetRec} (h : ReadyAt s.stores s) :
    ReadyAt (markDirty i (putPreset i r s)).stores (markDirty i (putPreset i r s)) := by
  rw [markDirty_stores]
  have hput : ReadyAt (putPreset i r s).stores (putPreset i r s) := h.of_stores rfl rfl (fun _ _ => rfl) (fun _ _ => rfl)
  exact ⟨bothLanes_keep changesOnly_markDirty (by decide) hput.lanes, presetsHold_markDirty hput.presets⟩

theorem readyAt_deliver {t : ReqType} {l : Link} {body : List Byte} (hcanon : s.stores.Canonical) (h : ReadyAt s.stores s) :
    ReadyAt (deliver t l body s).2.stores (deliver t l body s).2 := by
  cases t
  case edit =>
    rw [changesOnly_deliver.same .stores (by decide)]
    exact readyAt_edit body h
  case pedal =>
    rw [changesOnly_deliver.same .stores (by decide)]
    exact readyAt_pedal body h
  case tap =>
    rw [changesOnly_deliver.same .stores (by decide)]
    simp only [deliver, tap]
    split
    · exact h
    · split
      · exact readyAt_keep changesOnly_withControl (by decide) (by decide) h
      · split
        · exact readyAt_keep changesOnly_withControl (by decide) (by decide) h
        · exact readyAt_writeTempo _ h
  case tempo =>
    rw [changesOnly_deliver.same .stores (by decide)]
    simp only [deliver, tempo]
    split
    · exact h
    · exact readyAt_writeTempo _ h
  case curveBegin =>
    simp only [deliver, curveBegin]
    split_ifs with hi huse
    exacts [h, h, readyAt_putCurve hcanon (by simpa using huse) h]
  case impulseBegin =>
    simp only [deliver, impulseBegin]
    split_ifs with hi huse
    exacts [h, h, readyAt_putImpulse hcanon (by simpa using huse) h]
  case curvePut =>
    simp only [deliver, curvePut]
    split_ifs with hi huse hstate
    exacts [h, h, h, readyAt_putCurve hcanon (by simpa using huse) h]
  case impulsePut =>
    simp only [deliver, impulsePut]
    split_ifs with hi huse hstate
    exacts [h, h, h, readyAt_putImpulse hcanon (by simpa using huse) h]
  case presetBegin =>
    simp only [deliver, presetBegin]
    split
    · split_ifs
      exacts [readyAt_libraryWrite h, h]
    · exact h
  case presetPut =>
    simp only [deliver, presetPut]
    split_ifs
    · exact h
    · split
      · split_ifs
        exacts [readyAt_libraryWrite h, h]
      · exact h
  case presetEnd =>
    simp only [deliver, presetEnd]
    split_ifs
    · exact h
    · split
      exacts [readyAt_libraryWrite h, h]
  case presetErase =>
    simp only [deliver, presetErase]
    split_ifs
    exacts [h, readyAt_libraryWrite h]
  case store =>
    simp only [deliver, store]
    split_ifs
    · exact h
    · split
      · exact h
      · next sc hsc =>
        exact readyAt_setScene (h.of_stores rfl rfl (fun _ _ => rfl) (fun _ _ => rfl)) (h.presets.1 sc hsc)
  case mapSet =>
    simp only [deliver, mapSet]
    split_ifs <;> exact h.of_stores rfl rfl (fun _ _ => rfl) (fun _ _ => rfl)
  case instrumentSelect =>
    simp only [deliver, instrumentSelect]
    split_ifs <;> exact h.of_stores rfl rfl (fun _ _ => rfl) (fun _ _ => rfl)
  case profilePut =>
    simp only [deliver, profilePut]
    split_ifs <;> exact h.of_stores rfl rfl (fun _ _ => rfl) (fun _ _ => rfl)
  all_goals
    rw [changesOnly_deliver.same .stores (by decide)]
    exact readyAt_keep changesOnly_deliver (by decide) (by decide) h

end

/-- The canonical stores and the law of the Model Stores, together. -/
def ReadyStores (s : State) : Prop := s.stores.Canonical ∧ ReadyAt s.stores s

theorem reads_readyStores : Reads [.lanes, .stores, .engine] ReadyStores := by
  intro s t hb h
  have hlanes : t.lanes = s.lanes := hb .lanes (by decide)
  have hstores : t.stores = s.stores := hb .stores (by decide)
  have hengine : t.engine = s.engine := hb .engine (by decide)
  obtain ⟨hcanon, hl, hp⟩ := h
  refine ⟨by rwa [hstores], ?_, by rwa [hstores, hengine]⟩
  rw [hstores]
  intro x
  rw [hlanes]
  exact hl x

/-- What leaves the stores alone keeps the law if it keeps it against the store as it stands. -/
theorem ReadyStores.of_stores {s t : State} (h : ReadyStores s) (hs : t.stores = s.stores)
    (ht : ReadyAt s.stores s → ReadyAt s.stores t) : ReadyStores t := by
  rw [ReadyStores, hs]
  exact ⟨h.1, ht h.2⟩

theorem readyStores_reset {st : Stores} {s : State} (hcanon : st.Canonical) (hs : s.stores = st)
    (hlanes : s.lanes = ⟨.initial, .initial⟩) (hscene : s.engine.scene = none) (htr : s.engine.transition = none) :
    ReadyStores s := by
  refine ⟨hs ▸ hcanon, fun x => backed_of_idle ?_, fun sc h => absurd h (by simp [hscene]), fun tr h => absurd h (by simp [htr])⟩
  rw [hlanes]
  cases x <;> rfl

theorem readyStores_ownersKeep : OwnersKeep ReadyStores := by
  have hR := reads_readyStores
  exact {
    reads := hR.mono (by decide)
    begins := fun h _ hp hready => h.of_stores (changesOnly_beginTransition.same .stores (by decide))
      fun ha => readyAt_beginTransition ha hready
    powerOn := fun _ => readyStores_reset storesCanonical_initial rfl rfl rfl rfl
    softReset := fun h => readyStores_reset h.1 rfl rfl rfl rfl
    inputFrame := fun h => h.of_stores (changesOnly_inputFrame.same .stores (by decide)) readyAt_inputFrame
    laneBoundary := fun h => h.of_stores (changesOnly_laneBoundary.same .stores (by decide)) readyAt_laneBoundary
    cut := fun h htail => h.of_stores rfl fun ha => readyAt_cut ha htail
    laneIdle := fun h _ => h.of_stores (changesOnly_laneIdle.same .stores (by decide)) readyAt_laneIdle
    dipOutEnd := fun h htr _ => h.of_stores (changesOnly_dipOutEnd.same .stores (by decide))
      fun ha => readyAt_dipOutEnd ha.lanes (ha.presets.2 _ htr)
    fadeCompleted := fun h _ _ _ => h.of_stores rfl (readyAt_completed fun hl => backed_arrive (backed_endFade hl))
    dipCompleted := fun h _ _ _ => h.of_stores rfl (readyAt_completed backed_arrive)
    deliver := fun h _ => ⟨deliver_canonical h.1, readyAt_deliver h.1 h.2⟩ }

end Sys2Proof.Machine

namespace Sys2Proof.Laws

open Sys2Proof.Machine

/-- Settles O7: every owner of a preset keeps it legal; and with canonical tables a store write leaves every record in use as
it was, while every other owner names records that were READY before. -/
theorem stepKeepsStoreLaws : Obligations.StepKeepsStoreLaws := by
  refine ⟨fun s t => presetLaw_ownersKeep.step, fun s t hcanon hready hstep => ?_⟩
  have h : ReadyStores s := ⟨((tablesCanonical_iff s).mp hcanon).1, (readyLaw_iff s).mp hready⟩
  exact (readyLaw_iff t).mpr (readyStores_ownersKeep.step h hstep).2

end Sys2Proof.Laws

/-! What each owner does to the links: it raises notice classes on all of them, and changes nothing else of any. -/

namespace Sys2Proof.Machine

/-- From s to t the classes `R` are raised on every link, and nothing else of any link changes. -/
structure RaisesOnly (R : NoticeClass → Bool) (s t : State) : Prop where
  core : coreKept s t
  raised : raises (fun _ => R) s t

/-- No class is raised, on any link. -/
def noNotice : NoticeClass → Bool := fun _ => false

namespace RaisesOnly

variable {R R' : NoticeClass → Bool} {s t u : State}

theorem of_links (h : t.links = s.links) : RaisesOnly noNotice s t := by
  have hlink : ∀ k, t.link k = s.link k := fun k => by rw [State.link, State.link, h]
  exact ⟨fun k => by rw [hlink], fun k => ⟨by rw [hlink], fun c => by simp [hlink, noNotice]⟩⟩

theorem refl (s : State) : RaisesOnly noNotice s s := of_links rfl

theorem of_changesOnly {bs : List Block} (h : changesOnly bs s t) (hb : Block.links ∉ bs) : RaisesOnly noNotice s t :=
  of_links (h.same .links hb)

theorem congr (h : RaisesOnly R s t) (hR : ∀ n, R' n = R n) : RaisesOnly R' s t :=
  (funext hR : R' = R) ▸ h

theorem mask (h : RaisesOnly R s t) (k : Link) : (t.link k).mask = (s.link k).mask := by
  change (t.link k).core.mask = (s.link k).core.mask
  rw [h.core k]

/-- What is raised in two steps is what either raises. -/
theorem trans (h : RaisesOnly R s t) (h' : RaisesOnly R' t u) : RaisesOnly (fun n => R n || R' n) s u where
  core k := (h'.core k).trans (h.core k)
  raised k := by
    refine ⟨(h'.raised k).1.trans (h.raised k).1, fun c => ?_⟩
    rw [(h'.raised k).2, (h.raised k).2, h.mask, Bool.or_assoc, Bool.and_or_distrib_right]

/-- A further step that raises nothing. -/
theorem rest (h : RaisesOnly R s t) (h' : RaisesOnly noNotice t u) : RaisesOnly R s u :=
  (h.trans h').congr fun n => by simp [noNotice]

/-- A first step that raises nothing. -/
theorem after (h : RaisesOnly noNotice s t) (h' : RaisesOnly R t u) : RaisesOnly R s u :=
  (h.trans h').congr fun n => by simp [noNotice]

/-- A change that leaves the links alone. -/
theorem silent {bs : List Block} (hc : changesOnly bs s t) (hb : Block.links ∉ bs) (hR : ∀ n, R n = false) :
    RaisesOnly R s t :=
  (of_changesOnly hc hb).congr hR

/-- The transmitters choose after what was raised. -/
theorem pumped (h : RaisesOnly R s t) : linksKept s (pump t) ∧ announces (fun _ => R) s (pump t) :=
  ⟨fun k => (pump_link_core t k).trans (h.core k), announces_pump h.raised⟩

end RaisesOnly

/-- The owner of an accepted request changed the listed blocks and raised the classes. -/
theorem RaisesOnly.carriedOut {R : NoticeClass → Bool} {t : ReqType} {l : Link} {tag : Byte} {r : Result} {bs : List Block}
    {s u : State} (h : RaisesOnly R (accepted l s) u) (hframe : changesOnly (.links :: bs) (accepted l s) u) :
    carriedOut t l tag r bs (fun _ => R) s (pump (respond l t tag r u)) :=
  carriedOut_respond hframe h.core h.raised

section

variable {s : State}

/-! ### Notices and faults -/

theorem raisesOnly_raiseNotice (c : NoticeClass) (s : State) : RaisesOnly (· == c) s (raiseNotice c s) :=
  ⟨fun k => by simp, raises_raiseNotice c s⟩

/-- A change that leaves the links alone, and then one class raised. -/
theorem raisesOnly_raised {R : NoticeClass → Bool} {bs : List Block} {c : NoticeClass} {t : State} (hc : changesOnly bs s t)
    (hb : Block.links ∉ bs) (hR : ∀ n, R n = (n == c)) : RaisesOnly R s (raiseNotice c t) :=
  ((RaisesOnly.of_changesOnly hc hb).after (raisesOnly_raiseNotice c t)).congr hR

theorem raisesOnly_writeFault (r : FaultRec) (s : State) :
    RaisesOnly (fun n => captureTakes s.capture r && n == .fault) s (writeFault r s) := by
  unfold writeFault
  split
  · next h =>
    exact raisesOnly_raised changesOnly_withCapture (by decide) fun n => by simp [h]
  · next h => exact (RaisesOnly.refl s).congr fun n => by simp [h, noNotice]

/-! ### Tuner and mixer (R132, R147, R149) -/

theorem raisesOnly_handTunerMute (s : State) :
    RaisesOnly (fun n => s.tuner.muteActive != s.mixer.tunerMute && n == .mute) s (handTunerMute s) := by
  unfold handTunerMute
  dsimp only
  split
  · next h => exact .silent changesOnly_withMixer (by decide) fun n => by simp [h]
  · next h => exact raisesOnly_raised changesOnly_withMixer (by decide) fun n => by simp [h]

/-- The tuner replaced, TUNER raised, and the tuner mute handed to the mixer. -/
theorem raisesOnly_tunerMoved (t : Tuner) (s : State) :
    RaisesOnly (fun n => n == .tuner || (t.muteActive != s.mixer.tunerMute && n == .mute)) s
      (handTunerMute (raiseNotice .tuner (s.withTuner t))) :=
  RaisesOnly.trans (R := (· == .tuner)) (raisesOnly_raised changesOnly_withTuner (by decide) fun _ => rfl)
    (raisesOnly_handTunerMute (raiseNotice .tuner (s.withTuner t)))

theorem raisesOnly_tunerOff (s : State) :
    RaisesOnly (fun n => s.tuner.engaged && (n == .tuner || (n == .mute && s.mixer.tunerMute))) s (tunerOff s) := by
  cases h : s.tuner.engaged
  · rw [tunerOff_of_off h]
    exact (RaisesOnly.refl s).congr fun n => by simp [noNotice]
  · rw [tunerOff_of_engaged h]
    refine (raisesOnly_tunerMoved _ s).congr fun n => ?_
    rw [muteActive_of_off rfl]
    cases s.mixer.tunerMute <;> simp

theorem raisesOnly_safetyExpiry (s : State) : RaisesOnly (· == .mute) s (safetyExpiry s) :=
  raisesOnly_raised changesOnly_withMixer (by decide) fun _ => rfl

/-- Whether a new safety timer setting starts, restarts or stops the timer (R147). -/
def Mixer.timerMoves (m : Mixer) (v : Nat) : Bool := !m.mask.isEmpty && (v != 0 || m.timer.isSome)

theorem raisesOnly_setSafetyTimer (v : Nat) (s : State) :
    RaisesOnly (fun n => s.mixer.timerMoves v && n == .mute) s (setSafetyTimer v s) := by
  have silent {x : Mixer} (h : s.mixer.timerMoves v = false) :
      RaisesOnly (fun n => s.mixer.timerMoves v && n == .mute) s (s.withMixer x) :=
    .silent changesOnly_withMixer (by decide) fun n => by simp [h]
  have loud {x : Mixer} (h : s.mixer.timerMoves v = true) :
      RaisesOnly (fun n => s.mixer.timerMoves v && n == .mute) s (raiseNotice .mute (s.withMixer x)) :=
    raisesOnly_raised changesOnly_withMixer (by decide) fun n => by simp [h]
  unfold setSafetyTimer
  dsimp only
  split_ifs with hmask hv htimer
  · exact silent (by simp [Mixer.timerMoves, hmask])
  · exact silent (by simp_all [Mixer.timerMoves])
  · exact loud (by simp_all [Mixer.timerMoves, Option.isSome_iff_ne_none])
  · exact loud (by simp_all [Mixer.timerMoves])

theorem raisesOnly_tunerStale (s : State) : RaisesOnly (· == .tuner) s (tunerStale s) :=
  raisesOnly_raised changesOnly_withTuner (by decide) fun _ => rfl

theorem raisesOnly_decimatedSample (s : State) :
    RaisesOnly (fun n => (s.tuner.handle s.frontEnd.presence).2.isSome && n == .tuner) s (decimatedSample s) := by
  unfold decimatedSample
  rcases s.tuner.handle s.frontEnd.presence with ⟨t, _ | sum⟩
  · exact .silent changesOnly_withTuner (by decide) fun n => by simp
  · exact raisesOnly_raised changesOnly_withTuner (by decide) fun n => by simp

/-! ### Bus Protection -/

theorem raisesOnly_movePairs (f : ProtClass → Bool) (cond : Bus → ProtClass → Bool) (s : State) :
    RaisesOnly (fun n => s.protection.stepRaises f cond && n == .guard) s (movePairs f cond s) := by
  refine RaisesOnly.rest ?_ (.of_changesOnly changesOnly_formRequest (by decide))
  split
  · next h => exact raisesOnly_raised changesOnly_withProtection (by decide) fun n => by simp [h]
  · next h => exact .silent changesOnly_withProtection (by decide) fun n => by simp [h]

/-- Bus Protection with its envelopes, sums and phase moved by a frame (R157, R158). -/
def Protection.watched (p : Protection) (finished : PerBus Int) : Protection :=
  { p with env := PerBus.build (fun b => peakEnvelope 10 (p.env.get b) (finished.get b))
           sum := PerBus.build (fun b => p.sum.get b + finished.get b)
           phase := p.phase + 1 }

/-- The classes whose pairs a frame moves: all of them, but DC on the frame that ends a window (R158). -/
def Protection.frameMoves (p : Protection) (c : ProtClass) : Bool := c != .dc || !decide (Config.dcWindow ≤ p.phase)

theorem protectionFrame_eq (finished : PerBus Int) (s : State) :
    protectionFrame finished s =
      movePairs (s.protection.watched finished).frameMoves
        ((s.protection.watched finished).conditions s.frontEnd.presence s.engine.scene.isSome s.mixer.muted)
        (s.withProtection (s.protection.watched finished)) := rfl

theorem raisesOnly_protectionFrame (finished : PerBus Int) (s : State) :
    RaisesOnly (fun n => (s.protection.watched finished).stepRaises (s.protection.watched finished).frameMoves
        ((s.protection.watched finished).conditions s.frontEnd.presence s.engine.scene.isSome s.mixer.muted) && n == .guard)
      s (protectionFrame finished s) := by
  rw [protectionFrame_eq]
  exact RaisesOnly.after (.of_changesOnly changesOnly_withProtection (by decide))
    (raisesOnly_movePairs _ _ (s.withProtection (s.protection.watched finished)))

/-- Bus Protection at the end of a DC window, before its pairs move (R158). -/
def Protection.windowEnded (p : Protection) : Protection :=
  { p with mean := p.sum.map (fun v => v / 4096), sum := ⟨0, 0, 0, 0⟩, phase := 0 }

theorem dcWindowEnd_eq (s : State) :
    dcWindowEnd s = movePairs (· == .dc) (fun b _ => dcHolds (s.protection.windowEnded.mean.get b) s.protection.dcThreshold)
      (s.withProtection s.protection.windowEnded) := rfl

theorem raisesOnly_dcWindowEnd (s : State) :
    RaisesOnly (fun n => s.protection.windowEnded.stepRaises (· == .dc)
        (fun b _ => dcHolds (s.protection.windowEnded.mean.get b) s.protection.dcThreshold) && n == .guard)
      s (dcWindowEnd s) := by
  rw [dcWindowEnd_eq]
  exact RaisesOnly.after (.of_changesOnly changesOnly_withProtection (by decide))
    (raisesOnly_movePairs _ _ (s.withProtection s.protection.windowEnded))

theorem raisesOnly_flagLatch (b : Bus) (c : ProtClass) (s : State) : RaisesOnly (· == .guard) s (flagLatch b c s) :=
  RaisesOnly.rest (raisesOnly_raised changesOnly_withProtection (by decide) fun _ => rfl)
    (.of_changesOnly changesOnly_formRequest (by decide))

/-- Bus Protection replaced, the request formed again, and GUARD raised (R164, R166). -/
theorem raisesOnly_guarded (p : Protection) (s : State) :
    RaisesOnly (· == .guard) s (raiseNotice .guard (formRequest (s.withProtection p))) :=
  raisesOnly_raised (changesOnly_withProtection.comp changesOnly_formRequest (ds := [.mixer, .protection]) (by decide) (by decide))
    (by decide) fun _ => rfl

theorem raisesOnly_setTimer (c : ProtClass) (v : Nat) (s : State) : RaisesOnly noNotice s (setTimer c v s) :=
  .after (.of_changesOnly changesOnly_withProtection (by decide)) (.of_changesOnly changesOnly_formRequest (by decide))

/-- A frame's mixer and its finished samples, after the lanes and the engine (R140 to R143). -/
def frameMixed (x : Int) (s : State) : State × PerBus Int :=
  let lane (l : Lane) : Lane × Contribution := l.frame s.stores s.engine.dipping (s.frontEnd.frame x).2
  mixerFrame ⟨(lane s.lanes.a).1.role, (lane s.lanes.b).1.role⟩ ⟨(lane s.lanes.a).2, (lane s.lanes.b).2⟩
    (engineFrame (framed x s))

/-- An input frame in its order: front end and lanes, engine, mixer, Bus Protection, decimator (R3). -/
theorem inputFrame_eq (x : Int) (s : State) :
    inputFrame x s = (protectionFrame (frameMixed x s).2 (frameMixed x s).1).withTuner
      (s.tuner.takeSample (s.frontEnd.frame x).2) :=
  (congrArg (State.withTuner _) (inputFrame_tuner x s).symm).symm

theorem raisesOnly_frameMixed (x : Int) (s : State) : RaisesOnly noNotice s (frameMixed x s).1 :=
  .of_links (changesOnly_engineFrame.same (s := framed x s) .links (by decide))

theorem raisesOnly_inputFrame (x : Int) (s : State) : ∃ R, RaisesOnly R s (inputFrame x s) := by
  rw [inputFrame_eq]
  exact ⟨_, .rest (.after (raisesOnly_frameMixed x s) (raisesOnly_protectionFrame _ _))
    (.of_changesOnly changesOnly_withTuner (by decide))⟩

/-! ### Transitions -/

theorem raisesOnly_applyPresetTempo (b : Option Nat) (s : State) :
    RaisesOnly (fun n => n == .tempo && b.isSome && !s.control.locked) s (applyPresetTempo b s) := by
  unfold applyPresetTempo
  split
  · exact (RaisesOnly.refl s).congr fun n => by simp [noNotice]
  · split
    · next hlock => exact (RaisesOnly.refl s).congr fun n => by simp [noNotice, hlock]
    · next hlock =>
      exact raisesOnly_raised changesOnly_withControl (by decide) fun n => by simp [hlock]

/-- A load step raises TEMPO where it applies the preset's tempo (R108). -/
theorem raisesOnly_loadStep (tr : Transition) (s : State) : RaisesOnly (loadRaises tr.copied s) s (loadStep tr s) := by
  refine RaisesOnly.rest ?_ (.of_changesOnly changesOnly_loadLanes (by decide))
  refine RaisesOnly.rest ?_ (.of_changesOnly changesOnly_withEngine (by decide))
  exact .after (.of_changesOnly changesOnly_withLanes (by decide))
    (raisesOnly_applyPresetTempo _ (s.withLanes (s.lanes.map Lane.freeze)))

theorem raisesOnly_dipOutEnd (tr : Transition) (s : State) : RaisesOnly (loadRaises tr.copied s) s (dipOutEnd tr s) :=
  .after (.of_changesOnly changesOnly_withLanes (by decide)) (raisesOnly_loadStep tr (s.withLanes (s.lanes.map Lane.toIdle)))

theorem raisesOnly_enterDipOut (tr : Transition) (s : State) :
    RaisesOnly (fun n => dipOutOver s.lanes && loadRaises tr.copied s n) s (enterDipOut tr s) := by
  unfold enterDipOut
  dsimp only
  split
  · next h => exact (raisesOnly_dipOutEnd _ s).congr fun n => by simp [h]
  · next h => exact .silent changesOnly_withEngine (by decide) fun n => by simp [h]

theorem raisesOnly_enterPrepare (tr : Transition) (x : LaneId) (s : State) :
    RaisesOnly (fun n => (s.lanes.get x).state == .idle && loadRaises tr.copied s n) s (enterPrepare tr x s) := by
  unfold enterPrepare
  split
  · next h => exact (raisesOnly_loadStep tr s).congr fun n => by simp [h]
  · next h =>
    exact .silent (changesOnly_setLane.comp changesOnly_withEngine (ds := [.lanes, .engine]) (by decide) (by decide)) (by decide)
      fun n => by simp [h]
  · next hidle _ => exact .silent changesOnly_withEngine (by decide) fun n => by simp [show (s.lanes.get x).state ≠ .idle from hidle]

/-- A transition begins with its record, a DIP where the scene or the preset is DUAL, else a FADE (R58). -/
theorem beginTransition_eq (l : Link) (i : Nat) (p : Preset) (s : State) :
    beginTransition l i p s =
      if s.engine.dual || p.kind == .dual then enterDipOut (grantedRecord l i p .dip none) (raiseNotice .scene s)
      else enterPrepare (grantedRecord l i p .fade (some (fadeTarget s.lanes))) (fadeTarget s.lanes) (raiseNotice .scene s) := by
  unfold beginTransition
  cases s.engine.dual || p.kind == .dual <;> rfl

theorem raisesOnly_beginDip (tr : Transition) (s : State) :
    RaisesOnly (fun n => n == .scene || (dipOutOver s.lanes && loadRaises tr.copied s n)) s
      (enterDipOut tr (raiseNotice .scene s)) :=
  (raisesOnly_raiseNotice .scene s).trans (raisesOnly_enterDipOut tr (raiseNotice .scene s))

theorem raisesOnly_beginFade (tr : Transition) (x : LaneId) (s : State) :
    RaisesOnly (fun n => n == .scene || ((s.lanes.get x).state == .idle && loadRaises tr.copied s n)) s
      (enterPrepare tr x (raiseNotice .scene s)) :=
  (raisesOnly_raiseNotice .scene s).trans (raisesOnly_enterPrepare tr x (raiseNotice .scene s))

/-- A begun transition raises SCENE, whatever else it raises (R58). -/
theorem raisesOnly_beginTransition (l : Link) (i : Nat) (p : Preset) (s : State) :
    ∃ R : NoticeClass → Bool, RaisesOnly (fun n => n == .scene || R n) s (beginTransition l i p s) := by
  rw [beginTransition_eq]
  split
  · exact ⟨_, raisesOnly_beginDip _ s⟩
  · exact ⟨_, raisesOnly_beginFade _ _ s⟩

theorem raisesOnly_engineGrant (l : Link) (i : Nat) (s : State) : ∃ R, RaisesOnly R s (engineGrant l i s).2 := by
  unfold engineGrant
  split
  · next p _ =>
    split
    · exact ⟨_, raisesOnly_writeFault _ s⟩
    · split
      · exact ⟨_, .refl s⟩
      · obtain ⟨R, h⟩ := raisesOnly_beginTransition l i p s
        exact ⟨_, h⟩
  · exact ⟨_, raisesOnly_writeFault _ s⟩

theorem raisesOnly_grantAsked (l : Link) (s : State) : RaisesOnly (grantRaises l s) s (grantAsked l s) := by
  have hslot : RaisesOnly noNotice s (s.withArbiter { s.arbiter with slots := s.arbiter.slots.set l none }) :=
    .of_changesOnly changesOnly_withArbiter (by decide)
  unfold grantAsked
  dsimp only
  split
  · next h => exact (hslot.after (raisesOnly_tunerOff _)).congr fun n => by simp [grantRaises, h]
  · next h => exact hslot.congr fun n => by simp [grantRaises, h, noNotice]

theorem raisesOnly_laneIdle (x : LaneId) (s : State) :
    ∃ R, RaisesOnly R s (laneIdle x s) := by
  have hidle : RaisesOnly noNotice s (s.setLane x (s.lanes.get x).toIdle) := .of_changesOnly changesOnly_setLane (by decide)
  unfold laneIdle
  dsimp only
  split
  · split
    · exact ⟨_, hidle.after (raisesOnly_loadStep _ _)⟩
    · exact ⟨_, hidle⟩
  · exact ⟨_, hidle⟩

/-! ### Requests -/

theorem raisesOnly_writeTempo (ctl : Control) (s : State) : RaisesOnly (· == .tempo) s (writeTempo ctl s) :=
  ⟨fun k => by simp, raises_writeTempo ctl s⟩

theorem raisesOnly_putSetting (x : Setting) (v : Nat) (s : State) : ∃ R, RaisesOnly R s (putSetting x v s) := by
  cases x
  case presenceFloor => exact ⟨_, .of_changesOnly changesOnly_withFrontEnd (by decide)⟩
  case tenure => exact ⟨_, .of_changesOnly changesOnly_withArbiter (by decide)⟩
  case referencePitch | hysteresis | wIn | wNear => exact ⟨_, .of_changesOnly changesOnly_withTuner (by decide)⟩
  case tunerMuteSet =>
    exact ⟨_, .after (.of_changesOnly changesOnly_withTuner (by decide)) (raisesOnly_handTunerMute (s.withTuner _))⟩
  case safetyTimer => exact ⟨_, raisesOnly_setSafetyTimer v s⟩
  case attenuation => exact ⟨_, .of_changesOnly changesOnly_withMixer (by decide)⟩
  case overThreshold | dcThreshold | lossFloor => exact ⟨_, .of_changesOnly changesOnly_withProtection (by decide)⟩
  case tOver | tDc | tLoss => exact ⟨_, raisesOnly_setTimer _ v s⟩

theorem raisesOnly_setting (x : Setting) (v : Nat) (s : State) : ∃ R, RaisesOnly R s (setting x v s).2 := by
  rcases setting_state x v s with h | h <;> rw [h]
  · exact ⟨_, .refl s⟩
  · exact raisesOnly_putSetting _ _ _

/-- The requests to the links themselves aside, an owner raises classes and changes nothing else of the links. -/
theorem raisesOnly_deliver (t : ReqType) (l : Link) (body : List Byte) (s : State) (hsub : t ≠ .subscribe) (hreset : t ≠ .reset) :
    ∃ R, RaisesOnly R s (deliver t l body s).2 := by
  cases t
  case subscribe => exact absurd rfl hsub
  case reset => exact absurd rfl hreset
  case tap =>
    simp only [deliver, tap]
    split
    · exact ⟨_, .refl s⟩
    · split
      · exact ⟨_, .of_changesOnly changesOnly_withControl (by decide)⟩
      · split
        · exact ⟨_, .of_changesOnly changesOnly_withControl (by decide)⟩
        · exact ⟨_, raisesOnly_writeTempo _ s⟩
  case tempo =>
    simp only [deliver, tempo]
    split
    · exact ⟨_, .refl s⟩
    · exact ⟨_, raisesOnly_writeTempo _ s⟩
  case tunerEngage =>
    simp only [deliver, tunerEngage]
    split
    · exact ⟨_, raisesOnly_tunerMoved _ s⟩
    · exact ⟨_, .refl s⟩
  case tunerRelease => exact ⟨_, raisesOnly_tunerOff s⟩
  case mute =>
    simp only [deliver, mute]
    split
    · exact ⟨_, .refl s⟩
    · exact ⟨_, raisesOnly_raised changesOnly_withMixer (by decide) fun _ => rfl⟩
  case ack =>
    simp only [deliver, ack]
    split
    · exact ⟨_, raisesOnly_guarded _ s⟩
    · exact ⟨_, .refl s⟩
  case force =>
    simp only [deliver, force]
    split
    · exact ⟨_, raisesOnly_guarded _ s⟩
    · exact ⟨_, .refl s⟩
  case setting =>
    simp only [deliver]
    split
    · exact raisesOnly_setting _ _ s
    · exact ⟨_, .refl s⟩
  all_goals exact ⟨_, .of_changesOnly changesOnly_deliver (by decide)⟩

end

end Sys2Proof.Machine

/-! The laws of the links: served transmitters and response slots. -/

namespace Sys2Proof.Machine

/-! ### Served transmitters (R182) -/

/-- No free transmitter has anything that it may send. -/
def Served (s : State) : Prop :=
  ∀ k, (s.link k).tx ≠ .free ∨ ((s.link k).queue = [] ∧ ((s.link k).flags = .none ∨ (s.link k).held s = true)) ∨
    (k = .crew ∧ s.resetDue = true)

theorem transmittersServed_iff (s : State) : transmittersServed s = true ↔ Served s := by
  simp only [transmittersServed, Served, List.all_eq_true, forall_mem_links, Bool.or_eq_true, Bool.and_eq_true, bne_iff_ne,
    List.isEmpty_iff, beq_iff_eq, or_assoc]

/-- A link that has chosen is held as it was before. -/
theorem LinkIf.choose_held (s t : State) (x : LinkIf) (ht : t.protection = s.protection) :
    (x.choose s).held t = x.held s := by
  have hcore : (x.choose s).dropDue = x.dropDue := by
    change (x.choose s).core.dropDue = x.core.dropDue
    rw [LinkIf.choose_core]
  rw [LinkIf.held, LinkIf.held, hcore, ht]

/-- Once the transmitters have chosen they are served (log 9). -/
theorem served_pump (s : State) : Served (pump s) := by
  intro k
  rw [pump_link]
  split
  · next h => exact .inr (.inr h)
  · rcases (s.link k).choose_cases s with ⟨hrest, heq⟩ | ⟨-, m, rest, -, heq⟩ | ⟨-, -, -, c, -, heq⟩
    · rcases hrest with htx | ⟨hqueue, hflags⟩
      · exact .inl (by rwa [heq])
      · refine .inr (.inl ⟨by rwa [heq], ?_⟩)
        rw [LinkIf.choose_held s (pump s) _ rfl, heq]
        exact hflags.imp_left NoticeSet.first_eq_none.mp
    · exact .inl (by rw [heq]; simp)
    · exact .inl (by rw [heq]; simp)

theorem served_setReceiver {l : Link} {r : Receiver} {s : State} (h : Served s) : Served (setReceiver l r s) := by
  intro k
  rw [setReceiver, State.link_setLink]
  split
  · next hk => exact hk ▸ h l
  · exact h k

theorem served_rowsKeep : RowsKeep Served (fun _ => True) where
  rest _ := trivial
  pump _ := served_pump _
  powerOn _ := fun k => .inr (.inl (by cases k <;> exact ⟨rfl, .inl rfl⟩))
  effect _ _ := trivial
  inputFrame _ := trivial
  frontEndBoundary _ := trivial
  laneBoundary _ := trivial
  controlMillisecond _ := trivial
  breakBegins _ := trivial
  breakEnd _ := trivial
  messageEnds _ := trivial
  setReceiver := served_setReceiver
  discard _ := trivial
  request _ _ := trivial
  answer _ _ := trivial
  setting _ _ := trivial

/-! ### Response slots (R192) -/

/-- Each link has reserved the slots of the responses it owes, and no more than eight are reserved or queued. -/
def SlotsHold (owed : Link → Nat) (s : State) : Prop :=
  ∀ k, (s.link k).reserved = owed k ∧ (s.link k).occupied ≤ Config.responseSlots

/-- A grant record stands only while a transition is in flight. -/
def GrantHeld (s : State) : Prop := s.arbiter.grant = none ∨ s.engine.transition.isSome = true

/-- The slot law. -/
def SlotLaw (s : State) : Prop := SlotsHold (owedBy s.arbiter) s ∧ GrantHeld s

theorem slotLaw_iff (s : State) : slotLaw s = true ↔ SlotLaw s := by
  simp only [slotLaw, SlotLaw, SlotsHold, GrantHeld, Bool.and_eq_true, List.all_eq_true, forall_mem_links, beq_iff_eq,
    decide_eq_true_eq, Bool.or_eq_true, Option.isNone_iff_eq_none]

/-- A link's owed responses hang on its slot and on the grant record. -/
theorem owedBy_congr {a b : Arbiter} (hslots : b.slots = a.slots) (hgrant : b.grant = a.grant) : owedBy b = owedBy a := by
  funext k
  rw [owedBy, owedBy, hslots, hgrant]

theorem occupied_core (x : LinkIf) : x.core.occupied = x.occupied := rfl

section

variable {owed : Link → Nat} {s t : State}

theorem SlotsHold.of_core (h : SlotsHold owed s) (hc : coreKept s t) : SlotsHold owed t := by
  intro k
  obtain ⟨hreserved, hfull⟩ := h k
  rw [← occupied_core, hc k, occupied_core]
  refine ⟨?_, hfull⟩
  rw [← hreserved]
  change (t.link k).core.reserved = (s.link k).core.reserved
  rw [hc k]

theorem SlotsHold.of_links (h : SlotsHold owed s) (hl : t.links = s.links) : SlotsHold owed t :=
  h.of_core (RaisesOnly.of_links hl).core

/-- One link replaced by a link with as many slots reserved and no more queued. -/
theorem SlotsHold.setLink (h : SlotsHold owed s) {l : Link} {x : LinkIf} (hr : x.reserved = (s.link l).reserved)
    (hq : x.queue.length ≤ (s.link l).queue.length) : SlotsHold owed (s.setLink l x) := by
  intro k
  rw [State.link_setLink]
  split
  · next hk =>
    obtain ⟨hreserved, hfull⟩ := h l
    rw [LinkIf.occupied] at hfull ⊢
    exact ⟨by rw [hr, hreserved, hk], by omega⟩
  · exact h k

theorem SlotsHold.congr {owed' : Link → Nat} (h : SlotsHold owed s) (ho : ∀ k, owed' k = owed k) : SlotsHold owed' s :=
  fun k => ⟨(h k).1.trans (ho k).symm, (h k).2⟩

/-- A response that is owed is queued (R192). -/
theorem SlotsHold.answered {l : Link} {m : Message} (h : SlotsHold owed s) (howed : 0 < owed l) :
    SlotsHold (Function.update owed l (owed l - 1)) (queueMessage l m s) := by
  intro k
  rw [queueMessage, State.link_setLink]
  split
  · next hk =>
    subst hk
    obtain ⟨hreserved, hfull⟩ := h k
    simp only [LinkIf.occupied, Function.update_self, List.length_append, List.length_singleton] at hfull ⊢
    omega
  · next hk =>
    rw [Function.update_of_ne hk]
    exact h k

/-- A slot is reserved for a request (R192). -/
theorem SlotsHold.reserved {l : Link} (h : SlotsHold owed s) (hfree : (s.link l).occupied < 8) :
    SlotsHold (Function.update owed l (owed l + 1)) (reserveSlot l s) := by
  intro k
  rw [reserveSlot, State.link_setLink]
  split
  · next hk =>
    subst hk
    obtain ⟨hreserved, -⟩ := h k
    simp only [LinkIf.occupied, Config.responseSlots, Function.update_self] at hfree ⊢
    omega
  · next hk =>
    rw [Function.update_of_ne hk]
    exact h k

end

section

variable {s t : State}

theorem SlotLaw.of_core (h : SlotLaw s) (hc : coreKept s t) (hslots : t.arbiter.slots = s.arbiter.slots)
    (hgrant : t.arbiter.grant = s.arbiter.grant)
    (htr : s.engine.transition.isSome = true → t.engine.transition.isSome = true) : SlotLaw t := by
  refine ⟨?_, h.2.imp (fun hn => hgrant.trans hn) htr⟩
  rw [owedBy_congr hslots hgrant]
  exact h.1.of_core hc

theorem SlotLaw.of_raises {R : NoticeClass → Bool} (h : SlotLaw s) (hr : RaisesOnly R s t) (ha : t.arbiter = s.arbiter)
    (htr : s.engine.transition.isSome = true → t.engine.transition.isSome = true) : SlotLaw t :=
  h.of_core hr.core (by rw [ha]) (by rw [ha]) htr

/-- A change elsewhere, which may raise notices. -/
theorem SlotLaw.keep {R : NoticeClass → Bool} {bs : List Block} (h : SlotLaw s) (hr : RaisesOnly R s t)
    (hc : changesOnly bs s t) (ha : Block.arbiter ∉ bs) (he : Block.engine ∉ bs) : SlotLaw t :=
  h.of_raises hr (hc.same .arbiter ha) (by rw [hc.same .engine he]; exact id)

theorem SlotLaw.setLink (h : SlotLaw s) {l : Link} {x : LinkIf} (hr : x.reserved = (s.link l).reserved)
    (hq : x.queue.length ≤ (s.link l).queue.length) : SlotLaw (s.setLink l x) :=
  ⟨h.1.setLink hr hq, h.2⟩

/-! ### The arbiter -/

/-- What a link owes once its slot is emptied. -/
theorem owedBy_emptied {a : Arbiter} {l : Link} (h : (a.slots.get l).isSome = true) :
    owedBy { a with slots := a.slots.set l none } = Function.update (owedBy a) l (owedBy a l - 1) := by
  funext k
  by_cases hk : k = l
  · subst hk
    simp [owedBy, h]
  · simp [owedBy, PerLink.get_set_other _ _ hk, hk]

/-- What a link owes once a recall waits in its empty slot. -/
theorem owedBy_filled {a : Arbiter} {l : Link} {w : Waiting} (h : a.slots.get l = none) :
    owedBy { a with slots := a.slots.set l (some w) } = Function.update (owedBy a) l (owedBy a l + 1) := by
  funext k
  by_cases hk : k = l
  · subst hk
    simp [owedBy, h]
    omega
  · simp [owedBy, PerLink.get_set_other _ _ hk, hk]

/-- A recall that supersedes another leaves what is owed as it was. -/
theorem owedBy_superseded {a : Arbiter} {l : Link} {w : Waiting} (h : (a.slots.get l).isSome = true) :
    owedBy { a with slots := a.slots.set l (some w) } = owedBy a := by
  funext k
  by_cases hk : k = l
  · subst hk
    simp [owedBy, h]
  · simp [owedBy, PerLink.get_set_other _ _ hk]

/-- The response of a recall that waited is owed by the grant record instead. -/
theorem owedBy_granted {a : Arbiter} {l : Link} {tag : Byte} {byIndex : Bool} (h : (a.slots.get l).isSome = true)
    (hgrant : a.grant = none) :
    owedBy { a with slots := a.slots.set l none, grant := some ⟨l, tag, byIndex, true⟩ } = owedBy a := by
  funext k
  by_cases hk : k = l
  · subst hk
    simp [owedBy, h, hgrant]
  · simp [owedBy, PerLink.get_set_other _ _ hk, hgrant, Ne.symm hk]

theorem enterDipOut_transition (tr : Transition) (s : State) : (enterDipOut tr s).engine.transition.isSome = true := by
  unfold enterDipOut
  dsimp only
  split
  · rw [dipOutEnd, loadStep_transition]
    rfl
  · rfl

theorem enterPrepare_transition (tr : Transition) (x : LaneId) (s : State) :
    (enterPrepare tr x s).engine.transition.isSome = true := by
  unfold enterPrepare
  split
  · rw [loadStep_transition]
    rfl
  · rfl
  · rfl

theorem beginTransition_transition (l : Link) (i : Nat) (p : Preset) (s : State) :
    (beginTransition l i p s).engine.transition.isSome = true := by
  rw [beginTransition_eq]
  split
  · exact enterDipOut_transition _ _
  · exact enterPrepare_transition _ _ _

/-- A grant that gives no result at once has begun a transition (R58). -/
theorem engineGrant_transition {l : Link} {i : Nat} (h : (engineGrant l i s).1 = none) :
    (engineGrant l i s).2.engine.transition.isSome = true := by
  unfold engineGrant at h ⊢
  split
  · next p hp =>
    simp only [hp] at h
    split_ifs at h ⊢
    exact beginTransition_transition _ _ _ _
  · next hne =>
    split at h
    · next p hp => exact absurd hp (hne p)
    · simp at h

/-- A recall granted at a look: its slot is answered, or its response is owed by the grant (R85). -/
theorem slotLaw_grantRecall {l : Link} {w : Waiting} (h : SlotLaw s) (htr : s.engine.transition = none)
    (hslot : (s.arbiter.slots.get l).isSome = true) : SlotLaw (grantRecall l w s) := by
  obtain ⟨hslots, hheld⟩ := h
  have hgrant : s.arbiter.grant = none := hheld.resolve_right (by simp [htr])
  have harbiter := grantRecall_arbiter l w s
  obtain ⟨R, hraise⟩ := raisesOnly_engineGrant l w.index (grantAsked l s)
  have hasked : SlotsHold (owedBy s.arbiter) (engineGrant l w.index (grantAsked l s)).2 :=
    (hslots.of_core (raisesOnly_grantAsked l s).core).of_core hraise.core
  have hbegun := engineGrant_transition (l := l) (i := w.index) (s := grantAsked l s)
  rw [SlotLaw, GrantHeld, harbiter, grantRecall_eq]
  rcases hengine : engineGrant l w.index (grantAsked l s) with ⟨_ | r, t⟩
  all_goals
    rw [hengine] at hasked hbegun
    dsimp only
  · rw [owedBy_granted hslot hgrant]
    exact ⟨hasked, .inr (hbegun rfl)⟩
  · rw [owedBy_emptied hslot]
    refine ⟨hasked.answered ?_, .inl hgrant⟩
    simp [owedBy, hslot]

theorem slotLaw_look (n : Nat) (h : SlotLaw s) : SlotLaw (look n s) := by
  induction n generalizing s with
  | zero => exact h
  | succ n ih =>
    unfold look
    split
    · exact h
    · next htr =>
      split
      · exact h
      · next l hl =>
        have hg := Arbiter.choice_grantable hl
        simp only [Arbiter.grantable, Bool.and_eq_true] at hg
        split
        · exact h
        · exact ih (slotLaw_grantRecall h (by simpa using htr) hg.1)

theorem slotLaw_arbiterLook (h : SlotLaw s) : SlotLaw (arbiterLook s) := slotLaw_look 3 h

/-- A slot is reserved on a link for a request whose response is not given yet. -/
def SlotReserved (l : Link) (s : State) : Prop :=
  SlotsHold (Function.update (owedBy s.arbiter) l (owedBy s.arbiter l + 1)) s ∧ GrantHeld s

theorem slotReserved_reserveSlot {l : Link} (h : SlotLaw s) (hfree : (s.link l).occupied < 8) :
    SlotReserved l (reserveSlot l s) :=
  ⟨h.1.reserved hfree, h.2⟩

/-- The response of a request uses its slot. -/
theorem SlotReserved.answered {l : Link} {m : Message} (h : SlotReserved l s) : SlotLaw (queueMessage l m s) := by
  refine ⟨(h.1.answered (m := m) (by simp)).congr fun k => ?_, h.2⟩
  by_cases hk : k = l
  · subst hk
    simp
  · simp [hk]

theorem SlotReserved.of_core {l : Link} (h : SlotReserved l s) (hc : coreKept s t)
    (hslots : t.arbiter.slots = s.arbiter.slots) (hgrant : t.arbiter.grant = s.arbiter.grant)
    (htr : s.engine.transition.isSome = true → t.engine.transition.isSome = true) : SlotReserved l t := by
  refine ⟨?_, h.2.imp (fun hn => hgrant.trans hn) htr⟩
  rw [owedBy_congr hslots hgrant]
  exact h.1.of_core hc

/-- A recall enters its link's slot: it waits with its response owed, and one it supersedes is answered (R82). -/
theorem slotLaw_enterSlot {l : Link} {w : Waiting} (h : SlotReserved l s) : SlotLaw (enterSlot l w s) := by
  unfold enterSlot
  dsimp only
  apply slotLaw_arbiterLook
  cases hslot : s.arbiter.slots.get l with
  | none =>
    refine ⟨?_, h.2⟩
    have hfilled := owedBy_filled (w := w) hslot
    exact h.1.congr fun k => congrFun hfilled k
  | some old =>
    have hanswered : SlotLaw (respond l (recallType old.place.isNone) old.tag .superseded s) := h.answered
    refine ⟨?_, h.2⟩
    have hkept := owedBy_superseded (a := s.arbiter) (l := l) (w := w) (by simp [hslot])
    exact hanswered.1.congr fun k => congrFun hkept k

theorem slotLaw_refuseRecall {l : Link} {byIndex : Bool} {tag : Byte} {r : Result} {f : Option FaultRec}
    (h : SlotReserved l s) : SlotLaw (refuseRecall l byIndex tag r f s) := by
  unfold refuseRecall
  split
  · next rec =>
    have hc := changesOnly_writeFault rec s
    exact (h.of_core (raisesOnly_writeFault rec s).core (by rw [hc.same .arbiter (by decide)])
      (by rw [hc.same .arbiter (by decide)]) (by rw [hc.same .engine (by decide)]; exact id)).answered
  · exact h.answered

theorem slotLaw_takeRecall {l : Link} {tag : Byte} {body : List Byte} (h : SlotReserved l s) :
    SlotLaw (takeRecall l tag body s) := by
  unfold takeRecall
  dsimp only
  split
  · exact slotLaw_refuseRecall h
  · split
    · exact h.answered
    · exact slotLaw_enterSlot h

theorem slotLaw_takeRecallIndex {l : Link} {tag : Byte} {body : List Byte} (h : SlotReserved l s) :
    SlotLaw (takeRecallIndex l tag body s) := by
  unfold takeRecallIndex
  dsimp only
  split
  · exact slotLaw_refuseRecall h
  · split
    · exact slotLaw_enterSlot h
    · exact slotLaw_refuseRecall h

/-! ### Requests -/

theorem setting_slots (x : Setting) (v : Nat) (s : State) :
    (setting x v s).2.arbiter.slots = s.arbiter.slots ∧ (setting x v s).2.arbiter.grant = s.arbiter.grant ∧
      (setting x v s).2.engine = s.engine := by
  refine ⟨?_, ?_, changesOnly_setting.same .engine (by decide)⟩
  all_goals
    rcases setting_state x v s with h | h <;> rw [h]
    cases x
    case tenure => rfl
    all_goals rw [changesOnly_putSetting_blocks.same .arbiter (by decide)]

theorem SlotReserved.setting {l : Link} (h : SlotReserved l s) (x : Setting) (v : Nat) :
    SlotReserved l (setting x v s).2 := by
  obtain ⟨R, hr⟩ := raisesOnly_setting x v s
  obtain ⟨hslots, hgrant, hengine⟩ := setting_slots x v s
  exact h.of_core hr.core hslots hgrant (by rw [hengine]; exact id)

/-- No request but a recall moves a slot of the arbiter or its grant record. -/
theorem deliver_slots (t : ReqType) (l : Link) (body : List Byte) (s : State) :
    (deliver t l body s).2.arbiter.slots = s.arbiter.slots ∧ (deliver t l body s).2.arbiter.grant = s.arbiter.grant := by
  cases t
  case windowSet =>
    simp only [deliver, windowSet]
    split
    · exact ⟨rfl, rfl⟩
    · split_ifs <;> exact ⟨rfl, rfl⟩
  case setting =>
    simp only [deliver]
    split
    · exact ⟨(setting_slots _ _ s).1, (setting_slots _ _ s).2.1⟩
    · exact ⟨rfl, rfl⟩
  all_goals constructor <;> rw [changesOnly_deliver.same .arbiter (by decide)]

theorem SlotReserved.setLink {l k : Link} {x : LinkIf} (h : SlotReserved l s) (hr : x.reserved = (s.link k).reserved)
    (hq : x.queue = (s.link k).queue) : SlotReserved l (s.setLink k x) :=
  ⟨h.1.setLink hr (by rw [hq]), h.2⟩

theorem SlotReserved.deliver {l : Link} (h : SlotReserved l s) (t : ReqType) (body : List Byte) :
    SlotReserved l (deliver t l body s).2 := by
  by_cases hsub : t = .subscribe
  · subst hsub
    simp only [Machine.deliver, subscribe]
    split
    · exact h
    · exact h.setLink rfl rfl
  · by_cases hreset : t = .reset
    · subst hreset
      exact h.setLink rfl rfl
    · obtain ⟨R, hr⟩ := raisesOnly_deliver t l body s hsub hreset
      obtain ⟨hslots, hgrant⟩ := deliver_slots t l body s
      have htr : (Machine.deliver t l body s).2.engine.transition = s.engine.transition :=
        congrArg (fun v => v.2.2.2) (transView_deliver t l body s)
      exact h.of_core hr.core hslots hgrant (by rw [htr]; exact id)

theorem slotLaw_checkRequest {t : ReqType} {l : Link} {tag : Byte} {body : List Byte} (h : SlotReserved l s) :
    SlotLaw (checkRequest t l tag body s) := by
  unfold checkRequest
  split
  · exact h.answered
  · split
    · exact h.answered
    · unfold carryOut
      split
      · exact slotLaw_takeRecall h
      · exact slotLaw_takeRecallIndex h
      · exact h.answered
      · exact (h.deliver t body).answered

/-! ### Completion, drop, resets -/

/-- The recall that a completed transition came of is answered DONE if its response is owed (R86). -/
def grantDone (s : State) : State :=
  match s.arbiter.grant with
  | some g => if g.owed then respond g.origin (recallType g.byIndex) g.tag .done s else s
  | none => s

theorem changesOnly_grantDone {s : State} : changesOnly [.links] s (grantDone s) := by
  unfold grantDone
  split
  · split
    · exact changesOnly_respond
    · exact .refl _ _
  · exact .refl _ _

theorem arbiterCompletion_eq (origin : Link) (s : State) :
    arbiterCompletion origin s =
      arbiterLook ((grantDone s).withArbiter { s.arbiter with tenure := s.arbiter.tenureAfter origin, grant := none }) := by
  have harbiter : (grantDone s).arbiter = s.arbiter := changesOnly_grantDone.same .arbiter (by decide)
  change arbiterLook ((grantDone s).withArbiter
    { (grantDone s).arbiter with tenure := (grantDone s).arbiter.tenureAfter origin, grant := none }) = _
  rw [harbiter]

/-- What is owed once a grant record's response is given. -/
theorem slotsHold_grantDone (h : SlotsHold (owedBy s.arbiter) s) :
    SlotsHold (owedBy { s.arbiter with grant := none }) (grantDone s) := by
  unfold grantDone
  split
  · next g hgrant =>
    split
    · next howed =>
      refine (h.answered ?_).congr fun k => ?_
      · simp [owedBy, hgrant, howed]
      · by_cases hk : k = g.origin
        · subst hk
          simp [owedBy, hgrant, howed]
        · simp [owedBy, hgrant, howed, hk, Ne.symm hk]
    · next howed => exact h.congr fun k => by simp [owedBy, hgrant, howed]
  · next hgrant => exact h.congr fun k => by simp [owedBy, hgrant]

theorem slotLaw_arbiterCompletion {origin : Link} (h : SlotsHold (owedBy s.arbiter) s) :
    SlotLaw (arbiterCompletion origin s) := by
  rw [arbiterCompletion_eq]
  exact slotLaw_arbiterLook ⟨slotsHold_grantDone h, .inl rfl⟩

theorem slotLaw_completeTransition {tr : Transition} (h : SlotsHold (owedBy s.arbiter) s) :
    SlotLaw (completeTransition tr s) :=
  slotLaw_arbiterCompletion (h.of_core (t := raiseNotice .scene (completed tr s)) (raisesOnly_raiseNotice .scene _).core)

theorem slotLaw_softReset (s : State) : SlotLaw (softReset s) :=
  ⟨fun k => by cases k <;> exact ⟨rfl, Nat.zero_le _⟩, .inl rfl⟩

/-- After a drop a link owes nothing (R93, R203). -/
theorem owedBy_drop (a : Arbiter) (l : Link) : owedBy (a.drop l) = Function.update (owedBy a) l 0 := by
  funext k
  by_cases hk : k = l
  · subst hk
    cases hg : a.grant with
    | none => simp [owedBy, Arbiter.drop, hg]
    | some g => by_cases ho : g.origin = k <;> simp [owedBy, Arbiter.drop, hg, ho]
  · cases hg : a.grant with
    | none => simp [owedBy, Arbiter.drop, hg, PerLink.get_set_other _ _ hk, hk]
    | some g =>
      by_cases ho : g.origin = l
      · simp [owedBy, Arbiter.drop, hg, PerLink.get_set_other _ _ hk, hk, ho, Ne.symm hk]
      · simp [owedBy, Arbiter.drop, hg, PerLink.get_set_other _ _ hk, hk, ho]

theorem LinkIf.keptQueue_length (x : LinkIf) : x.keptQueue.length ≤ x.queue.length := by
  unfold LinkIf.keptQueue
  split
  · simp
  · simp

theorem slotLaw_linkDrop (l : Link) (h : SlotLaw s) : SlotLaw (linkDrop l s) := by
  rw [linkDrop_eq]
  split
  · exact slotLaw_softReset _
  · refine ⟨fun k => ?_, h.2.imp_left fun hn => ?_⟩
    · rw [State.link_withArbiter, State.link_setLink]
      change _ = owedBy (s.arbiter.drop l) k ∧ _
      rw [owedBy_drop]
      split
      · next hk =>
        subst hk
        have hfull := (h.1 k).2
        have hkept := (s.link k).keptQueue_length
        simp only [LinkIf.occupied, LinkIf.dropped, Function.update_self, true_and] at hfull ⊢
        omega
      · next hk =>
        rw [Function.update_of_ne hk]
        exact h.1 k
    · simp [Arbiter.drop, hn]

theorem slotLaw_discard {l : Link} {c : DiscardCause} (h : SlotLaw s) : SlotLaw (discard l c s) := by
  have hc := changesOnly_discard l c s
  have hcleared : SlotLaw (s.setLink l { s.link l with rx := .hunt, gap := 0, cause := some c }) := h.setLink rfl le_rfl
  have hraised : SlotLaw (raiseLinkNotice l (s.setLink l { s.link l with rx := .hunt, gap := 0, cause := some c })) := by
    refine hcleared.setLink ?_ ?_
    all_goals
      unfold LinkIf.raised
      split <;> simp
  exact hraised.of_raises (raisesOnly_writeFault _ _) (by simp [discard]) (by simp [discard])

theorem slotLaw_onTransition {f : Transition → State → State} (hf : ∀ tr, SlotLaw (f tr s)) (h : SlotLaw s) :
    SlotLaw (onTransition f s) := by
  unfold onTransition
  split
  · exact hf _
  · exact h

theorem slotLaw_laneIdle (x : LaneId) (h : SlotLaw s) : SlotLaw (laneIdle x s) := by
  obtain ⟨R, hr⟩ := raisesOnly_laneIdle x s
  refine h.of_raises hr (changesOnly_laneIdle.same .arbiter (by decide)) fun htr => ?_
  unfold laneIdle
  dsimp only
  split
  · split
    · rw [loadStep_transition]
      rfl
    · exact htr
  · exact htr

theorem slotLaw_effect {e : Event} (h : SlotLaw s) : SlotLaw (effect e s) := by
  cases e
  case dcWindowEnd => exact h.keep (raisesOnly_dcWindowEnd s) changesOnly_dcWindowEnd (by decide) (by decide)
  case flagLatch b c => exact h.keep (raisesOnly_flagLatch b c s) changesOnly_flagLatch (by decide) (by decide)
  case decimatedSample => exact h.keep (raisesOnly_decimatedSample s) changesOnly_decimatedSample (by decide) (by decide)
  case tunerStale => exact h.keep (raisesOnly_tunerStale s) changesOnly_tunerStale (by decide) (by decide)
  case tailTimerExpiry x => exact h
  case tailFloorEnd x => exact slotLaw_laneIdle x h
  case cutEnd x => exact slotLaw_laneIdle x h
  case dipOutEnd =>
    refine slotLaw_onTransition (fun tr => ?_) h
    refine h.of_raises (raisesOnly_dipOutEnd tr s) (changesOnly_dipOutEnd.same .arbiter (by decide)) fun _ => ?_
    rw [dipOutEnd, loadStep_transition]
    rfl
  case fadeComplete => exact slotLaw_onTransition (fun tr => slotLaw_completeTransition (h.1.of_links rfl)) h
  case dipComplete => exact slotLaw_onTransition (fun tr => slotLaw_completeTransition (h.1.of_links rfl)) h
  case gapTimeout l => exact slotLaw_discard h
  case linkDrop l => exact slotLaw_linkDrop l h
  case safetyTimerExpiry => exact h.keep (raisesOnly_safetyExpiry s) changesOnly_safetyExpiry (by decide) (by decide)
  case tenureExpiry => exact slotLaw_arbiterLook h
  case softReset => exact slotLaw_softReset s

theorem LinkIf.millisecond_slots (x : LinkIf) :
    x.millisecond.reserved = x.reserved ∧ x.millisecond.queue = x.queue := by
  unfold LinkIf.millisecond
  split_ifs <;> exact ⟨rfl, rfl⟩

theorem slotLaw_controlMillisecond (h : SlotLaw s) : SlotLaw (controlMillisecond s) := by
  refine ⟨fun k => ?_, h.2⟩
  obtain ⟨hreserved, hqueue⟩ := (s.link k).millisecond_slots
  have hlink : (controlMillisecond s).link k = (s.link k).millisecond := by cases k <;> rfl
  rw [hlink, LinkIf.occupied, hreserved, hqueue]
  exact h.1 k

theorem slotLaw_messageEnds {l : Link} (h : SlotLaw s) : SlotLaw (messageEnds l s) := by
  unfold messageEnds
  dsimp only
  split
  · exact h
  · exact h.setLink rfl le_rfl
  · have hsent : SlotLaw (s.setLink l { s.link l with tx := .free, queue := (s.link l).queue.drop 1 }) :=
      h.setLink rfl (by simp)
    split <;> exact hsent

theorem slotLaw_breakEnd {l : Link} (h : SlotLaw s) : SlotLaw (breakEnd l s) := by
  unfold breakEnd
  split
  · have hup : SlotLaw (s.setLink l { s.link l with
        lineLow := false, breakPartial := false, breakCount := 0, breakJudged := false }) := h.setLink rfl le_rfl
    dsimp only
    split
    · exact slotLaw_discard hup
    · exact hup
  · exact h

theorem slotLaw_inputFrame {x : Int} (h : SlotLaw s) : SlotLaw (inputFrame x s) := by
  obtain ⟨R, hr⟩ := raisesOnly_inputFrame x s
  refine h.of_raises hr (changesOnly_inputFrame.same .arbiter (by decide)) fun htr => ?_
  rw [inputFrame_engine]
  unfold engineFrame
  split
  · split
    · rfl
    · exact htr
  · exact htr

theorem slotLaw_rowsKeep : RowsKeep SlotLaw SlotLaw where
  rest := id
  pump {s} h := h.of_core (fun k => pump_link_core s k) rfl rfl id
  powerOn _ := ⟨fun k => by cases k <;> exact ⟨rfl, Nat.zero_le _⟩, .inl rfl⟩
  effect h _ := slotLaw_effect h
  inputFrame := slotLaw_inputFrame
  frontEndBoundary h := h.keep (.of_changesOnly changesOnly_frontEndBoundary (by decide)) changesOnly_frontEndBoundary
    (by decide) (by decide)
  laneBoundary h := h.keep (.of_changesOnly changesOnly_laneBoundary (by decide)) changesOnly_laneBoundary
    (by decide) (by decide)
  controlMillisecond := slotLaw_controlMillisecond
  breakBegins {l s} h := by
    unfold breakBegins
    split
    · exact h
    · exact h.setLink rfl le_rfl
  breakEnd := slotLaw_breakEnd
  messageEnds := slotLaw_messageEnds
  setReceiver h := h.setLink rfl le_rfl
  discard := slotLaw_discard
  request h hfree := slotLaw_checkRequest (slotReserved_reserveSlot h hfree)
  answer h hfree := (slotReserved_reserveSlot h hfree).answered
  setting h hfree := ((slotReserved_reserveSlot h hfree).setting _ _).answered

end

end Sys2Proof.Machine

namespace Sys2Proof.Laws

open Sys2Proof.Machine

/-- Settles O5: every row ends with the transmitters' choice, which serves them; and every row answers what it takes a slot
for, or leaves it owed. -/
theorem stepKeepsLinkLaws : Obligations.StepKeepsLinkLaws := by
  refine ⟨fun s t h hstep => ?_, fun s t h hstep => ?_⟩
  · exact (transmittersServed_iff t).mpr (served_rowsKeep.step (fun hu => hu) ((transmittersServed_iff s).mp h) hstep)
  · exact (slotLaw_iff t).mpr (slotLaw_rowsKeep.step (fun hu => hu) ((slotLaw_iff s).mp h) hstep)

end Sys2Proof.Laws

/-! Arithmetic: rounding, curve lookups, and the delay half as a ring of past samples. -/

namespace Sys2Proof.Machine

/-- A number between two consecutive multiples of a step is floored to the lower one. -/
theorem floor_eq_of_mem {m q b : Int} (hb : 0 < b) (hlo : b * q ≤ m) (hhi : m < b * (q + 1)) : m / b = q := by
  refine le_antisymm (Int.lt_add_one_iff.mp ?_) ?_
  · rw [Int.ediv_lt_iff_lt_mul hb, Int.mul_comm]
    exact hhi
  · rw [Int.le_ediv_iff_mul_le hb, Int.mul_comm]
    exact hlo

/-- Saturation spelled out. -/
theorem saturate_eq (q : Int) : saturate q = if q < -8388608 then -8388608 else if 8388607 < q then 8388607 else q := by
  unfold saturate Config.sampleMin Config.sampleMax
  split_ifs <;> omega

/-- RHS rounding floors the product with half a step added, and saturates (R2). -/
theorem rhs_eq_saturate {p q : Int} {s : Nat} (hlo : 2 ^ s * q ≤ p + 2 ^ (s - 1)) (hhi : p + 2 ^ (s - 1) < 2 ^ s * (q + 1)) :
    rhs p s = saturate q := by
  rw [rhs, floor_eq_of_mem (by positivity) hlo hhi]

/-- A product by unity gives the other factor back. -/
theorem rhs_mul_unity {x : Int} {s : Nat} (hs : 1 ≤ s) (hlo : -8388608 ≤ x) (hhi : x ≤ 8388607) : rhs (x * 2 ^ s) s = x := by
  have hhalf : (0 : Int) < 2 ^ (s - 1) := by positivity
  have hstep : (2 : Int) ^ s = 2 * 2 ^ (s - 1) := by
    rw [← pow_succ']
    congr 1
    omega
  rw [rhs_eq_saturate (q := x) (by linarith [mul_comm x ((2 : Int) ^ s)]) (by linarith [mul_comm x ((2 : Int) ^ s)])]
  exact saturate_of_mem hlo hhi

/-! ### Curve lookups (R13) -/

/-- A lookup in segment k at position f. -/
theorem curveLookup_eq (y : Nat → Int) {u : Int} {k f : Nat} (hf : f < 262144) (hu : u + 8388608 = 262144 * (k : Int) + f) :
    curveLookup y u = y k + ((y (k + 1) - y k) * f + 131072) / 262144 := by
  have hv : (u + 8388608).toNat = 262144 * k + f := by omega
  have hk : (262144 * k + f) / 262144 = k := by omega
  have hr : (262144 * k + f) % 262144 = f := by omega
  simp only [curveLookup, hv, hk, hr]

/-- An interpolated step lies between 0 and the whole step. -/
theorem interpolated_mem (d : Int) {f : Nat} (hf : f < 262144) :
    min 0 d ≤ (d * f + 131072) / 262144 ∧ (d * f + 131072) / 262144 ≤ max 0 d := by
  have hf' : (f : Int) < 262144 := by exact_mod_cast hf
  rcases le_total 0 d with hd | hd
  · have hlo : 0 ≤ d * (f : Int) := mul_nonneg hd (by positivity)
    have hhi : d * (f : Int) ≤ d * 262144 := mul_le_mul_of_nonneg_left hf'.le hd
    omega
  · have hlo : d * 262144 ≤ d * (f : Int) := mul_le_mul_of_nonpos_left hf'.le hd
    have hhi : d * (f : Int) ≤ 0 := mul_nonpos_of_nonpos_of_nonneg hd (by positivity)
    omega

/-! ### The delay half (R18, R19) -/

/-- After n writes to a half that started empty: the position and the fill count, and at every length no more than has been
written the sample written so many frames earlier. -/
structure DelayHolds (l : Lane) (vs : List Int) : Prop where
  canonical : tableWf 0 l.delayHalf = true
  writePos : l.writePos = vs.length % 96000
  fill : l.fill = min vs.length 96000
  holds : ∀ d, 1 ≤ d → d ≤ 96000 → d ≤ vs.length →
    tableGet 0 l.delayHalf ((l.writePos + 96000 - d) % 96000) = vs.getD (vs.length - d) 0

/-- One more write: it is read at length 1, and every other length has moved on by one. -/
theorem DelayHolds.write {l : Lane} {vs : List Int} (h : DelayHolds l vs) (v : Int) : DelayHolds (l.delayWrite v) (vs ++ [v]) := by
  obtain ⟨hcanon, hpos, hfill, hholds⟩ := h
  have hlength : (vs ++ [v]).length = vs.length + 1 := by simp
  refine ⟨tablePut_wf _ _ hcanon, ?_, ?_, fun d hd hcap hlen => ?_⟩
  · rw [hlength]
    simp only [Lane.delayWrite, Config.delayEntries, hpos]
    omega
  · rw [hlength]
    simp only [Lane.delayWrite, Config.delayEntries, hfill]
    split_ifs <;> omega
  · rw [hlength] at hlen ⊢
    simp only [Lane.delayWrite, Config.delayEntries]
    rcases Nat.lt_or_eq_of_le hd with hd | rfl
    · have hindex : ((l.writePos + 1) % 96000 + 96000 - d) % 96000 = (l.writePos + 96000 - (d - 1)) % 96000 := by omega
      rw [hindex, tableGet_put_other _ _ _ hcanon (by omega), hholds (d - 1) (by omega) (by omega) (by omega),
        List.getD_append _ _ _ _ (by omega)]
      congr 1
      omega
    · have hindex : ((l.writePos + 1) % 96000 + 96000 - 1) % 96000 = l.writePos := by omega
      rw [hindex, tableGet_put_self _ _ hcanon]
      simp

theorem delayHolds_foldl (l : Lane) (vs : List Int) (hcanon : tableWf 0 l.delayHalf = true) (hpos : l.writePos = 0)
    (hfill : l.fill = 0) : DelayHolds (vs.foldl Lane.delayWrite l) vs := by
  induction vs using List.reverseRecOn with
  | nil => exact ⟨hcanon, hpos, hfill, fun d hd _ hlen => absurd hlen (by simp; omega)⟩
  | append_singleton vs v ih =>
    rw [List.foldl_append]
    exact ih.write v

/-- Writes move neither the parameters nor the length. -/
theorem foldl_delayWrite_keeps (l : Lane) (vs : List Int) :
    (vs.foldl Lane.delayWrite l).params = l.params ∧ (vs.foldl Lane.delayWrite l).delayLength = l.delayLength := by
  induction vs generalizing l with
  | nil => exact ⟨rfl, rfl⟩
  | cons v vs ih => exact ih (l.delayWrite v)

end Sys2Proof.Machine

namespace Sys2Proof.InputFrontEnd

open Sys2Proof.Machine

/-- Settles O10: the floor by its two bounds, then saturation; a product by unity lies at its own step. -/
theorem rhsRoundsHalfUp : Obligations.RhsRoundsHalfUp :=
  ⟨fun _ q _ _ hlo hhi => (rhs_eq_saturate hlo hhi).trans (saturate_eq q), fun _ _ => rhs_mul_unity⟩

/-- Settles O12: the segment's equation; an interpolated step is no more than the segment's; the ends are its two special
cases. -/
theorem curveLookup : Obligations.CurveLookup := by
  refine ⟨fun y u k f hf hu => ?_, fun y => ?_⟩
  · have heq := curveLookup_eq y hf hu
    obtain ⟨hlo, hhi⟩ := interpolated_mem (y (k + 1) - y k) hf
    rw [heq]
    exact ⟨rfl, by omega, by omega⟩
  · have hlow := curveLookup_eq y (u := -8388608) (k := 0) (f := 0) (by decide) (by norm_num)
    have hhigh := curveLookup_eq y (u := 8388607) (k := 63) (f := 262143) (by decide) (by norm_num)
    rw [hlow, hhigh]
    norm_num
    omega

/-- Settles O13: every write moves each length on by one, so a half holds its past samples at their lengths. -/
theorem delayReadsBack : Obligations.DelayReadsBack := by
  intro l vs hcanon hpos hfill hmode hlo hhi
  obtain ⟨-, -, hfilled, hholds⟩ := delayHolds_foldl l vs hcanon hpos hfill
  obtain ⟨hparams, hlength⟩ := foldl_delayWrite_keeps l vs
  rw [Lane.delayRead, hparams, hlength, if_neg hmode, hfilled]
  by_cases hlen : l.delayLength ≤ vs.length
  · rw [if_pos (by omega), if_pos hlen]
    exact hholds _ (by omega) hhi hlen
  · rw [if_neg (by omega), if_neg hlen]

end Sys2Proof.InputFrontEnd

/-! One frame of a lane, stage by stage (R9 to R23). -/

namespace Sys2Proof.Machine

/-! ### The gate (R10, R11) -/

theorem gateNext_opened_iff (g : Gate) (st : GateState) (e : Nat) :
    gateNext g st e = .opened ↔
      (g.openAt = 0 ∨ (st = .closed ∧ g.openAt ≤ e) ∨ (st = .opened ∧ g.closeAt ≤ e)) := by
  unfold gateNext
  by_cases ho : g.openAt = 0
  · simp [ho]
  · cases st <;> simp [ho]

theorem gateRampNext_eq {st : GateState} {j : Nat} (hj : j ≤ 64) :
    gateRampNext st j = if st = .opened then min 64 (j + 1) else j - 1 := by
  cases st
  case opened => exact rampUp_eq_min hj
  case closed => rfl

theorem gateGain_eq (g : Gate) (j : Nat) : ((gateGain g j : Nat) : Int) = if g.openAt = 0 then 4096 else 64 * (j : Int) := by
  unfold gateGain
  split <;> simp [Config.levelUnity]

/-! ### The cab (R16) -/

/-- The sum of taps times past samples, as a sum over the indexed history. -/
theorem firSum_eq_sum (h : Nat → Int) (i : Nat) (ps : List Int) :
    firSum h i ps = ((ps.zipIdx i).map (fun e => h e.2 * e.1)).sum := by
  induction ps generalizing i with
  | nil => rfl
  | cons p ps ih => simp [firSum, ih]

/-! ### The delay (R18, R19) -/

theorem delayRead_eq (l : Lane) :
    l.delayRead = if l.params.chain.delay.mode = .off ∨ l.fill < l.delayLength then 0
      else tableGet 0 l.delayHalf ((l.writePos + 96000 - l.delayLength) % 96000) := by
  unfold Lane.delayRead
  by_cases hmode : l.params.chain.delay.mode = .off
  · rw [if_pos hmode, if_pos (.inl hmode)]
  · rw [if_neg hmode]
    by_cases hfill : l.delayLength ≤ l.fill
    · rw [if_pos hfill, if_neg (by simp [hmode, hfill])]
      rfl
    · rw [if_neg hfill, if_pos (.inr (by omega))]

theorem delayFill_eq {n : Nat} (h : n ≤ 96000) : (if n < Config.delayEntries then n + 1 else n) = min 96000 (n + 1) := by
  unfold Config.delayEntries
  split <;> omega

/-! ### Output ramp and tail (R21, R23) -/

theorem stepOutRamp_record (l : Lane) (dipping : Bool) :
    l.stepOutRamp dipping = { l with
      outRamp := if l.state = .cutting ∨ (dipping = true ∧ (l.state = .live ∨ l.state = .tailing)) then l.outRamp - 1
        else l.outRamp } := by
  rcases l with ⟨state⟩
  cases state <;> cases dipping <;> simp [Lane.stepOutRamp, rampDown]

theorem tailFrame_record (l : Lane) (lp : Int) :
    l.tailFrame lp = { l with
      tailEnv := peakEnvelope 10 l.tailEnv lp
      floorCount := if l.state = .tailing then
          (if peakEnvelope 10 l.tailEnv lp < 839 then min 4800 (l.floorCount + 1) else 0)
        else l.floorCount
      tailTimer := if l.state = .tailing then l.tailTimer - 1 else l.tailTimer } := by
  unfold Lane.tailFrame Config.tailFloorLevel Config.tailFloorEnd
  dsimp only
  split <;> simp [min_comm]

/-! ### The signals of a frame, stage by stage (R10 to R22) -/

section

variable (st : Stores) (l : Lane) (x : Int)

/-- After the gate and the drive. -/
def Lane.driven : Int := shape st l.params.chain.drive (l.gateFrame x).2
/-- After the first tone section, with its history. -/
def Lane.toned1 : Int × BiquadHist := biquad l.params.chain.tone1 l.hist1 (l.driven st x)
/-- After the second. -/
def Lane.toned2 : Int × BiquadHist := biquad l.params.chain.tone2 l.hist2 (l.toned1 st x).1
/-- After the third. -/
def Lane.toned3 : Int × BiquadHist := biquad l.params.chain.tone3 l.hist3 (l.toned2 st x).1
/-- The pre-cab signal. -/
def Lane.preCab : Int := shape st l.params.chain.power (l.toned3 st x).1
/-- The cab stage, with its history. -/
def Lane.cabbed : Lane × Int := l.cabFrame st (l.preCab st x)
/-- The weighted cab signal. -/
def Lane.weighted : Int := rhs ((l.cabbed st x).2 * l.weight) 15
/-- The pre-level signal after the lane level. -/
def Lane.levelled : Int := rhs (l.mix (l.weighted st x) l.delayRead * l.params.chain.level) 12
/-- The output ramp after the frame. -/
def Lane.rampAfter (dipping : Bool) : Nat :=
  if l.state = .cutting ∨ (dipping = true ∧ (l.state = .live ∨ l.state = .tailing)) then l.outRamp - 1 else l.outRamp

/-- The lane after its chain. -/
def Lane.computed (dipping : Bool) : Lane :=
  { l with
    gateEnv := (l.gateFrame x).1.gateEnv, gateState := (l.gateFrame x).1.gateState, gateRamp := (l.gateFrame x).1.gateRamp
    hist1 := (l.toned1 st x).2, hist2 := (l.toned2 st x).2, hist3 := (l.toned3 st x).2, fir := (l.cabbed st x).1.fir
    delayHalf := tablePut 0 l.delayHalf l.writePos (l.delayFeed (l.weighted st x) l.delayRead)
    writePos := (l.writePos + 1) % Config.delayEntries
    fill := if l.fill < Config.delayEntries then l.fill + 1 else l.fill
    outRamp := l.rampAfter dipping
    tailEnv := peakEnvelope 10 l.tailEnv (l.levelled st x)
    floorCount := if l.state = .tailing then
        (if peakEnvelope 10 l.tailEnv (l.levelled st x) < 839 then min 4800 (l.floorCount + 1) else 0)
      else l.floorCount
    tailTimer := if l.state = .tailing then l.tailTimer - 1 else l.tailTimer }

/-- A lane's chain, its stages by name. -/
theorem compute_stages (dipping : Bool) :
    l.compute st dipping x =
      (l.computed st x dipping,
        { l with outRamp := l.rampAfter dipping }.contribution (l.levelled st x) (rhs (l.preCab st x * l.weight) 15)) := by
  simp only [Lane.compute, stepOutRamp_record, tailFrame_record]
  rfl

/-- A frame of a lane that is not IDLE and not at a block boundary. -/
theorem frame_stages {dipping : Bool} (hidle : l.state ≠ .idle) (hb : l.boundaryFalls = false) :
    l.frame st dipping x =
      ({ l.computed st x dipping with phase := (l.phase + 1) % 16, boundaryTaken := false },
        { l with outRamp := l.rampAfter dipping }.contribution (l.levelled st x) (rhs (l.preCab st x * l.weight) 15)) := by
  rw [Lane.frame_of_ne_idle hidle, hb, if_neg Bool.false_ne_true, compute_stages]
  rfl

/-- The cab stage with the FIR sum written over the indexed history. -/
theorem cabFrame_impulse {p : Int} {i : Nat} (h : l.params.chain.cab = some i) :
    (l.cabFrame st p).2 =
      rhs (((l.cabFrame st p).1.fir.zipIdx.map (fun e => tableGet 0 (st.impulse i).values e.2 * e.1)).sum) 23 := by
  rw [← firSum_eq_sum]
  simp only [Lane.cabFrame, h]

theorem cabFrame_none {p : Int} (h : l.params.chain.cab = none) : (l.cabFrame st p).2 = p := by
  simp only [Lane.cabFrame, h]

end

end Sys2Proof.Machine

namespace Sys2Proof.InputFrontEnd

open Sys2Proof.Machine

/-- Settles O14: the stages of the frame are the lines of the claim; the gate, the FIR sum, the delay read and the ramps by
their equations. -/
theorem laneComputesItsChain : Obligations.LaneComputesItsChain := by
  intro st dipping l x hidle hb hramp hfill
  have hgain : (l.gateFrame x).2 = rhs (x * (if l.params.chain.gate.openAt = 0 then 4096
      else 64 * ((l.gateFrame x).1.gateRamp : Int))) 12 := by
    rw [← gateGain_eq]
    rfl
  rw [frame_stages st l x hidle hb]
  refine ⟨(l.gateFrame x).2, l.driven st x, (l.toned1 st x).1, (l.toned2 st x).1, (l.toned3 st x).1, l.preCab st x,
    (l.cabbed st x).2, l.weighted st x, rhs (l.preCab st x * l.weight) 15, l.delayRead, l.mix (l.weighted st x) l.delayRead,
    l.levelled st x, rhs (l.levelled st x * rampGain (l.rampAfter dipping)) 15, ?_⟩
  refine ⟨rfl, gateNext_opened_iff _ _ _, gateRampNext_eq hramp, hgain, rfl, rfl, rfl, rfl, rfl, rfl, rfl, rfl, rfl,
    cabFrame_none st l, fun i => cabFrame_impulse st l, rfl, rfl, delayRead_eq l, rfl, rfl, delayFill_eq hfill, rfl, rfl, rfl,
    rfl, rfl, rfl, rfl, rfl, rfl, rfl, rfl, rfl, rfl, rfl, rfl, rfl, rfl, rfl⟩

end Sys2Proof.InputFrontEnd

/-! An input frame, block by block: front end, lanes and engine, mixer, Bus Protection. -/

namespace Sys2Proof.Machine

/-! ### The audio ports (1.3 of 00_scope.md) -/

/-- A channel word carries its sample in the upper 24 bits. -/
theorem slotSample_eq (w : Slot) : slotSample w = w.toInt / 256 := by
  have hw := w.isLt
  simp only [slotSample, BitVec.toInt_eq_toNat_cond, BitVec.extractLsb'_toNat, Nat.shiftRight_eq_div_pow]
  split_ifs <;> omega

/-- A sample is sent with zeros below it. -/
theorem sampleSlot_toInt {v : Int} (hlo : -8388608 ≤ v) (hhi : v ≤ 8388607) : (sampleSlot v).toInt = 256 * v := by
  have happend : (sampleSlot v).toNat = (BitVec.ofInt 24 v).toNat * 256 := by
    change (BitVec.ofInt 24 v ++ 0#8 : BitVec (24 + 8)).toNat = _
    rw [BitVec.toNat_append]
    simp [Nat.shiftLeft_eq]
  have hofInt : ((BitVec.ofInt 24 v).toNat : Int) = v % 16777216 := by
    simp only [BitVec.toNat_ofInt]
    omega
  rw [BitVec.toInt_eq_toNat_cond, happend]
  split_ifs <;> push_cast <;> omega

theorem slotSample_sampleSlot {v : Int} (hlo : -8388608 ≤ v) (hhi : v ≤ 8388607) : slotSample (sampleSlot v) = v := by
  rw [slotSample_eq, sampleSlot_toInt hlo hhi]
  omega

/-! ### What is not due where nothing is -/

theorem mem_events (e : Event) : e ∈ events := by
  cases e
  case flagLatch b c => cases b <;> cases c <;> decide
  case tailTimerExpiry x | tailFloorEnd x | cutEnd x => cases x <;> decide
  case gapTimeout l | linkDrop l => cases l <;> decide
  all_goals decide

theorem not_due_of_quiet {s : State} (h : quiet s = true) (e : Event) : due e s = false := by
  simpa using (List.all_eq_true.mp h) e (mem_events e)

/-- A state in which the same events are due is as quiet. -/
theorem quiet_congr {s t : State} (h : ∀ e, due e t = due e s) : quiet t = quiet s := by simp only [quiet, h]

/-- A transition that moves the weights has not come to its end where nothing is due. -/
theorem not_ended_of_quiet {s : State} {tr : Transition} (h : quiet s = true) (htr : s.engine.transition = some tr)
    (hphase : tr.phase = .cross ∨ tr.phase = .dipIn) : tr.j < tr.fade := by
  rcases hphase with hp | hp
  · simpa [due, Engine.transitionIs, htr, hp] using not_due_of_quiet h .fadeComplete
  · simpa [due, Engine.transitionIs, htr, hp] using not_due_of_quiet h .dipComplete

/-! ### The front end (R3, R5, R6) -/

theorem frontEnd_frame (f : FrontEnd) (v : Int) :
    let boundary := f.phase = 15 ∧ f.boundaryTaken = false
    let trim := if boundary then f.pendingTrim.getD f.trim else f.trim
    let floor := if boundary then f.pendingFloor.getD f.floor else f.floor
    let x := rhs (v * trim) 12
    f.frame v =
      ({ frameCount := f.frameCount + 1, trim := trim, pendingTrim := if boundary then none else f.pendingTrim
         meter := peakEnvelope 10 f.meter x, floor := floor
         pendingFloor := if boundary then none else f.pendingFloor
         phase := (f.phase + 1) % 16, boundaryTaken := false
         presence := decide (floor ≤ peakEnvelope 10 f.meter x) }, x) := by
  have hfalls : f.boundaryFalls = decide (f.phase = 15 ∧ f.boundaryTaken = false) := by
    rw [Bool.eq_iff_iff]
    simp [FrontEnd.boundaryFalls]
  by_cases hb : f.phase = 15 ∧ f.boundaryTaken = false
  · simp only [FrontEnd.frame, hfalls, if_pos hb, decide_eq_true hb, if_true]
    rfl
  · simp only [FrontEnd.frame, hfalls, if_neg hb, decide_eq_false hb, if_false, Bool.false_eq_true]
    rfl

theorem inputFrame_frontEnd (x : Int) (s : State) : (inputFrame x s).frontEnd = (s.frontEnd.frame x).1 := by
  rw [inputFrame_eq, State.withTuner_frontEnd, changesOnly_protectionFrame.same .frontEnd (by decide)]
  exact changesOnly_engineFrame.same (s := framed x s) .frontEnd (by decide)

/-! ### The engine (R62, R67) -/

/-- In CROSS and DIP_IN the ramp position rises and the weights are written. -/
theorem engineFrame_of_moving {s : State} {tr : Transition} (htr : s.engine.transition = some tr)
    (hphase : tr.phase = .cross ∨ tr.phase = .dipIn) (hj : tr.j < tr.fade) :
    engineFrame s =
      (s.withLanes (s.lanes.map (Lane.writeWeight (32768 * (tr.j + 1) / tr.fade)))).withEngine
        { s.engine with transition := some { tr with j := tr.j + 1 } } := by
  unfold engineFrame
  rw [htr]
  exact if_pos ⟨hphase, hj⟩

theorem engineFrame_of_still {s : State}
    (h : ¬∃ tr, s.engine.transition = some tr ∧ (tr.phase = .cross ∨ tr.phase = .dipIn)) : engineFrame s = s := by
  unfold engineFrame
  split
  · next tr htr => exact if_neg fun hmove => h ⟨tr, htr, hmove.1⟩
  · rfl

/-- The weight written to a lane is all that changes of it. -/
theorem writeWeight_of_incoming {w : Nat} {l : Lane} (h : l.state = .incoming) : l.writeWeight w = { l with weight := w } := by
  unfold Lane.writeWeight
  split
  · rfl
  · next ho => simp [h] at ho
  · next hi _ => exact absurd h hi

theorem writeWeight_of_outgoing {w : Nat} {l : Lane} (h : l.state = .outgoing) :
    l.writeWeight w = { l with weight := 32768 - w } := by
  unfold Lane.writeWeight
  split
  · next hi => simp [h] at hi
  · rfl
  · next ho => exact absurd h ho

/-! ### The mixer (R140 to R143) -/

/-- What a lane of a role adds to FOH (R140): a SINGLE lane to both sides, a lane of a DUAL to its own. -/
theorem onBus_foh (c : Contribution) (role : Role) :
    c.onBus role .fohL = (if role = .single ∨ role = .dualA then c.foh else 0) ∧
      c.onBus role .fohR = (if role = .single ∨ role = .dualB then c.foh else 0) := by
  cases role <;> exact ⟨rfl, rfl⟩

/-- What a lane of a role adds to MON and AMP (R140). -/
theorem onBus_mon_amp (c : Contribution) (role : Role) :
    c.onBus role .mon = (if role = .single then c.mon else c.mon / 2) ∧
      c.onBus role .amp = (if role = .single then c.amp else c.amp / 2) := by
  cases role <;> exact ⟨rfl, rfl⟩

/-- A lane's role does not change in a frame. -/
theorem Lane.frame_role (st : Stores) (d : Bool) (x : Int) (l : Lane) : (l.frame st d x).1.role = l.role := by
  by_cases h : l.state = .idle
  · rw [Lane.frame_of_idle h]
  · rw [Lane.frame_of_ne_idle h]
    refine (compute_keeps st d x _).2.2.1.trans ?_
    split <;> rfl

/-- The bus sums of an input frame. -/
def laneSum (x : Int) (s : State) : Bus → Int :=
  busSum ⟨s.lanes.a.role, s.lanes.b.role⟩
    ⟨(s.lanes.a.frame s.stores s.engine.dipping (s.frontEnd.frame x).2).2,
     (s.lanes.b.frame s.stores s.engine.dipping (s.frontEnd.frame x).2).2⟩

/-- The finished samples of an input frame. -/
theorem frameMixed_finished (x : Int) (s : State) (b : Bus) :
    (frameMixed x s).2.get b = s.mixer.stepRamps.finished b (laneSum x s b) := by
  simp only [frameMixed, mixerFrame, PerBus.get_build, engineFrame_mixer, Lane.frame_role]
  rfl

theorem frameMixed_mixer (x : Int) (s : State) :
    (frameMixed x s).1.mixer = { s.mixer.stepRamps with output := (frameMixed x s).2.map sampleSlot } := by
  simp only [frameMixed, mixerFrame, State.withMixer_mixer, engineFrame_mixer]
  rfl

theorem finished_mem (m : Mixer) (b : Bus) (v : Int) : -8388608 ≤ m.finished b v ∧ m.finished b v ≤ 8388607 := by
  cases b <;> exact rhs_mem _ _

theorem inputFrame_output (x : Int) (s : State) (b : Bus) :
    (inputFrame x s).mixer.output.get b = sampleSlot (s.mixer.stepRamps.finished b (laneSum x s b)) := by
  rw [inputFrame_eq, State.withTuner_mixer, protectionFrame_eq, movePairs_mixer, State.withProtection_mixer,
    frameMixed_mixer]
  simp only [PerBus.get_map, frameMixed_finished]

/-- The mixer after an input frame: its ramps have stepped, its settings and requests but the MON request are as they were. -/
theorem inputFrame_mixer_kept (x : Int) (s : State) :
    let m := (inputFrame x s).mixer
    m.ramps = s.mixer.stepRamps.ramps ∧ m.monRamp = s.mixer.stepRamps.monRamp ∧ m.mask = s.mixer.mask ∧
      m.timer = s.mixer.timer ∧ m.expired = s.mixer.expired ∧ m.safetySetting = s.mixer.safetySetting ∧
      m.attenuation = s.mixer.attenuation ∧ m.tunerMute = s.mixer.tunerMute ∧ m.tunerSet = s.mixer.tunerSet := by
  intro m
  have hm : m = _ := inputFrame_mixer x s
  refine ⟨?_, ?_, ?_, ?_, ?_, ?_, ?_, ?_, ?_⟩ <;> rw [hm] <;> rfl

/-! ### Bus Protection (R156 to R162) -/

theorem pair_build (p : Protection) (f : Bus → PerClass Pair) (b : Bus) (c : ProtClass) :
    ({ p with pairs := PerBus.build f } : Protection).pair b c = (f b).get c := by
  simp [Protection.pair]

/-- The pairs of the classes chosen move by their conditions, the others stand still. -/
theorem pair_stepPairs (p : Protection) (f : ProtClass → Bool) (cond : Bus → ProtClass → Bool) (b : Bus) (c : ProtClass) :
    (p.stepPairs f cond).pair b c = if f c then (p.pair b c).step (p.timers.get c) (cond b c) else p.pair b c := by
  rw [Protection.stepPairs, pair_build]
  cases c <;> rfl

theorem Pair.step_of_zero (x : Pair) (cond : Bool) : x.step 0 cond = ⟨cond, 0, cond, false⟩ := rfl

/-- With a timer above 0 the count rises to its limit while the condition holds, and a full count makes the latch due. -/
theorem Pair.step_of_pos (x : Pair) {t : Nat} (ht : 0 < t) (cond : Bool) :
    x.step t cond =
      { cond := cond, count := if cond = true then min (48 * t) (x.count + 1) else 0, flag := x.flag
        latchDue := cond && (if cond = true then min (48 * t) (x.count + 1) else 0) == 48 * t && !x.flag } := by
  rw [Pair.step, if_neg (Nat.pos_iff_ne_zero.mp ht)]
  cases cond
  case false => rfl
  case true =>
    by_cases hfull : x.count < 48 * t
    · simp [Config.framesPerMs, hfull]
    · simp only [Config.framesPerMs, hfull, if_false, if_true, show min (48 * t) (x.count + 1) = 48 * t by omega]

@[simp] theorem Pair.step_cond (x : Pair) (t : Nat) (cond : Bool) : (x.step t cond).cond = cond := by
  unfold Pair.step
  split <;> rfl

/-- The conditions that an input frame judges (R157 to R159). -/
def frameConditions (x : Int) (s : State) : Bus → ProtClass → Bool :=
  (s.protection.watched (frameMixed x s).2).conditions (s.frontEnd.frame x).1.presence s.engine.scene.isSome
    s.mixer.stepRamps.muted

theorem engineFrame_scene (s : State) : (engineFrame s).engine.scene = s.engine.scene := by
  unfold engineFrame
  split
  · split <;> rfl
  · rfl

/-- Bus Protection in an input frame: what is watched, and then the pairs. -/
theorem protectionFrame_frameMixed (x : Int) (s : State) :
    protectionFrame (frameMixed x s).2 (frameMixed x s).1 =
      movePairs (s.protection.watched (frameMixed x s).2).frameMoves (frameConditions x s)
        ((frameMixed x s).1.withProtection (s.protection.watched (frameMixed x s).2)) := by
  have hprot : (frameMixed x s).1.protection = s.protection :=
    changesOnly_engineFrame.same (s := framed x s) .protection (by decide)
  have hfront : (frameMixed x s).1.frontEnd = (s.frontEnd.frame x).1 :=
    changesOnly_engineFrame.same (s := framed x s) .frontEnd (by decide)
  have hscene : (frameMixed x s).1.engine.scene = s.engine.scene := engineFrame_scene (framed x s)
  have hmuted : (frameMixed x s).1.mixer.muted = s.mixer.stepRamps.muted := by
    rw [frameMixed_mixer]
    rfl
  rw [protectionFrame_eq, hprot, hfront, hscene, hmuted]
  rfl

theorem inputFrame_protection (x : Int) (s : State) :
    (inputFrame x s).protection =
      { (s.protection.watched (frameMixed x s).2).stepPairs (s.protection.watched (frameMixed x s).2).frameMoves
          (frameConditions x s) with
        request := ((s.protection.watched (frameMixed x s).2).stepPairs
          (s.protection.watched (frameMixed x s).2).frameMoves (frameConditions x s)).wanted } := by
  rw [inputFrame_eq, protectionFrame_frameMixed, State.withTuner_protection, movePairs_protection]
  rfl

theorem inputFrame_monRequest (x : Int) (s : State) :
    (inputFrame x s).mixer.monRequest = (inputFrame x s).protection.request := by
  rw [inputFrame_protection, inputFrame_eq, protectionFrame_frameMixed, State.withTuner_mixer, movePairs_mixer]
  rfl

/-- A pair after an input frame: moved by its condition, or standing still at a window's end (R158, R160, R161). -/
theorem inputFrame_pair (x : Int) (s : State) (b : Bus) (c : ProtClass) :
    (inputFrame x s).protection.pair b c =
      if (s.protection.watched (frameMixed x s).2).frameMoves c then
        (s.protection.pair b c).step (s.protection.timers.get c) (frameConditions x s b c)
      else s.protection.pair b c := by
  rw [inputFrame_protection]
  exact pair_stepPairs _ _ _ _ _

theorem inputFrame_scene (x : Int) (s : State) : (inputFrame x s).engine.scene = s.engine.scene := by
  rw [inputFrame_engine]
  exact engineFrame_scene (framed x s)

/-- GUARD is raised by an input frame on which a following flag changes (R161). -/
theorem raisesOnly_inputFrame_guard (x : Int) (s : State) :
    RaisesOnly (fun n => (s.protection.watched (frameMixed x s).2).stepRaises
      (s.protection.watched (frameMixed x s).2).frameMoves (frameConditions x s) && n == .guard) s (inputFrame x s) := by
  rw [inputFrame_eq, protectionFrame_frameMixed]
  refine .rest (.after (raisesOnly_frameMixed x s) (.after (.of_changesOnly changesOnly_withProtection (by decide))
    (raisesOnly_movePairs _ _ ((frameMixed x s).1.withProtection (s.protection.watched (frameMixed x s).2)))))
    (.of_changesOnly changesOnly_withTuner (by decide))

end Sys2Proof.Machine

namespace Sys2Proof.InputFrontEnd

open Sys2Proof.Machine

theorem exec_inputFrame_of_quiet {s : State} (h : quiet s = true) (ch0 ch1 : Slot) :
    exec (.inputFrame ch0 ch1) s = .next (pump (inputFrame (ch0.toInt / 256) s)) := by
  change Host.Outcome.next (beside none (inputFrame (slotSample ch0)) s) = _
  rw [beside_of_quiet h, slotSample_eq]

/-- Settles O15: the front end's record by its two cases at a boundary; the links by what the frame raises. -/
theorem inputFrameFrontEnd : Obligations.InputFrameFrontEnd := by
  intro s ch0 ch1 hquiet
  obtain ⟨R, hraise⟩ := raisesOnly_inputFrame (ch0.toInt / 256) s
  refine ⟨_, exec_inputFrame_of_quiet hquiet ch0 ch1, exec_inputFrame_of_quiet hquiet ch0 0, ⟨?front, ?tuner⟩,
    (changesOnly_pump changesOnly_inputFrame).mono (by decide), hraise.pumped.1⟩
  case front =>
    rw [pump_frontEnd, inputFrame_frontEnd, frontEnd_frame]
  case tuner =>
    rw [pump_tuner, inputFrame_tuner, frontEnd_frame]
    cases hstate : s.tuner.state <;> simp [Tuner.takeSample, Tuner.engaged, hstate]

/-- Settles O16: the lanes' frames, and then the engine's two cases. -/
theorem inputFrameMovesLanes : Obligations.InputFrameMovesLanes := by
  intro s ch0 ch1 hquiet
  refine ⟨_, exec_inputFrame_of_quiet hquiet ch0 ch1, ?_⟩
  have hdipping : s.engine.transition.any (fun tr => tr.phase == .dipOut) = s.engine.dipping := by
    unfold Engine.dipping
    cases s.engine.transition <;> rfl
  have hlanes := inputFrame_lanes (ch0.toInt / 256) s
  have hengine := inputFrame_engine (ch0.toInt / 256) s
  have hframed := framed_lane (ch0.toInt / 256) s
  have hstate : ∀ i, ((framed (ch0.toInt / 256) s).lanes.get i).state = (s.lanes.get i).state := fun i => by
    rw [hframed, Lane.frame_state]
  change (inputFrame (ch0.toInt / 256) s).engine = (engineFrame (framed (ch0.toInt / 256) s)).engine at hengine
  rw [hdipping, pump_engine, pump_lanes, hlanes, hengine]
  by_cases hmove : ∃ tr, s.engine.transition = some tr ∧ (tr.phase = .cross ∨ tr.phase = .dipIn)
  · obtain ⟨tr, htr, hphase⟩ := hmove
    have heq := engineFrame_of_moving (s := framed (ch0.toInt / 256) s) htr hphase (not_ended_of_quiet hquiet htr hphase)
    rw [heq]
    refine ⟨rfl, rfl, fun i hi => ?_, fun tr' htr' _ => ?_, fun hno => absurd ⟨tr, htr, hphase⟩ hno, fun i _ hin hout => ?_⟩
    · rw [State.withEngine_lanes, State.withLanes_lanes, PerLane.get_map,
        Lane.writeWeight_other (by simp [hstate, hi]) (by simp [hstate, hi]), hframed, Lane.frame_of_idle hi]
    · obtain rfl : tr = tr' := Option.some.inj (htr.symm.trans htr')
      refine ⟨rfl, fun i => ⟨fun hi => ?_, fun hi => ?_⟩⟩
      · rw [State.withEngine_lanes, State.withLanes_lanes, PerLane.get_map, writeWeight_of_incoming ((hstate i).trans hi), hframed]
      · rw [State.withEngine_lanes, State.withLanes_lanes, PerLane.get_map, writeWeight_of_outgoing ((hstate i).trans hi), hframed]
    · rw [State.withEngine_lanes, State.withLanes_lanes, PerLane.get_map,
        Lane.writeWeight_other (by rwa [hstate]) (by rwa [hstate]), hframed]
  · rw [engineFrame_of_still (s := framed (ch0.toInt / 256) s) hmove]
    refine ⟨rfl, rfl, fun i hi => ?_, fun tr htr hphase => absurd ⟨tr, htr, hphase⟩ hmove, fun _ => rfl, fun i _ _ _ => ?_⟩
    · rw [hframed, Lane.frame_of_idle hi]
    · exact hframed i

/-- Settles O17: the sums by the lanes' roles, the ramps by their bounds. -/
theorem inputFrameMixes : Obligations.InputFrameMixes := by
  intro s ch0 ch1 hquiet hrange
  refine ⟨_, exec_inputFrame_of_quiet hquiet ch0 ch1, ?_⟩
  obtain ⟨-, -, hmixer, -⟩ := (rangeLaw_iff s).mp hrange
  have hsteps : ∀ bus, s.mixer.stepRamps.ramps.get bus =
      if s.mixer.mask.has bus = true ∨ (s.mixer.tunerMute = true ∧ s.mixer.tunerSet.has bus = true) then
        s.mixer.ramps.get bus - 1 else min 96 (s.mixer.ramps.get bus + 1) := by
    intro bus
    simp only [Mixer.stepRamps, PerBus.get_build, Mixer.heldSilent, Bool.or_eq_true, Bool.and_eq_true,
      rampUp_eq_min (hmixer.ramps bus)]
    rfl
  have hmon : s.mixer.stepRamps.monRamp =
      if s.mixer.monRequest = true then s.mixer.monRamp - 1 else min 96 (s.mixer.monRamp + 1) := by
    simp only [Mixer.stepRamps, rampUp_eq_min hmixer.monRamp]
    rfl
  obtain ⟨hramps, hmonRamp, hmask, htimer, hexpired, hsafety, hatt, htunerMute, htunerSet⟩ :=
    inputFrame_mixer_kept (ch0.toInt / 256) s
  refine ⟨fun bus => ?ramp, ?monRamp, fun bus => ?output, hmask, htimer, hexpired, hsafety, hatt, htunerMute, htunerSet⟩
  case ramp => rw [pump_mixer, hramps, hsteps]
  case monRamp => rw [pump_mixer, hmonRamp, hmon]
  case output =>
    obtain ⟨hlo, hhi⟩ := finished_mem s.mixer.stepRamps bus (laneSum (ch0.toInt / 256) s bus)
    rw [pump_mixer, inputFrame_output, sampleSlot_toInt hlo hhi, hramps, hmonRamp]
    cases bus
    all_goals
      simp only [laneSum, busSum, onBus_foh, onBus_mon_amp]
      rfl

/-- Settles O18: what is watched, then each pair's move; the notice by the flags that follow. -/
theorem inputFrameProtects : Obligations.InputFrameProtects := by
  intro s ch0 ch1 hquiet
  refine ⟨_, exec_inputFrame_of_quiet hquiet ch0 ch1, ?_⟩
  generalize ch0.toInt / 256 = x
  have hphase : s.protection.phase ≤ 4095 := by
    have hdue : ¬4096 ≤ s.protection.phase := of_decide_eq_false (not_due_of_quiet hquiet .dcWindowEnd)
    omega
  have hmoves : ∀ c, (s.protection.watched (frameMixed x s).2).frameMoves c = !decide (c = .dc ∧ s.protection.phase = 4095) := by
    intro c
    have hend : Config.dcWindow ≤ s.protection.phase + 1 ↔ s.protection.phase = 4095 := by
      unfold Config.dcWindow
      omega
    cases c <;> simp [Protection.frameMoves, Protection.watched, hend]
  have hmove : ∀ c, ¬(c = .dc ∧ s.protection.phase = 4095) → (s.protection.watched (frameMixed x s).2).frameMoves c = true :=
    fun c hc => by rw [hmoves, decide_eq_false hc]; rfl
  have hsample : ∀ b, slotSample ((pump (inputFrame x s)).mixer.output.get b) = (frameMixed x s).2.get b := by
    intro b
    obtain ⟨hlo, hhi⟩ := finished_mem s.mixer.stepRamps b (laneSum x s b)
    rw [pump_mixer, inputFrame_output, slotSample_sampleSlot hlo hhi, frameMixed_finished]
  have hpair : ∀ b c, (pump (inputFrame x s)).protection.pair b c = _ := inputFrame_pair x s
  have hprot : (pump (inputFrame x s)).protection = _ := inputFrame_protection x s
  have henv : ∀ b, (pump (inputFrame x s)).protection.env.get b =
      Machine.peakEnvelope 10 (s.protection.env.get b) ((frameMixed x s).2.get b) := by
    intro b
    rw [hprot]
    exact PerBus.get_build _ b
  have hcond : ∀ b c, ¬(c = .dc ∧ s.protection.phase = 4095) →
      ((pump (inputFrame x s)).protection.pair b c).cond = frameConditions x s b c := by
    intro b c hc
    rw [hpair, if_pos (hmove c hc), Pair.step_cond]
  refine ⟨hphase, fun b => ⟨?_, ?_, ?_, ?_, ?_, ?_⟩, ?_, ?_, ?_, ?_, ?_, ?_, fun b c hc => ?_, fun b c hc ht => ?_,
    fun b c hc ht => ?_, ?_, ?_, ?_⟩
  · exact (henv b).trans (congrArg _ (hsample b).symm)
  · rw [hprot]
    exact (PerBus.get_build _ b).trans (congrArg (s.protection.sum.get b + ·) (hsample b).symm)
  · rw [hprot]
    rfl
  · rw [hcond b .overLevel (by simp), henv]
    simp [frameConditions, Protection.conditions, Protection.watched]
  · rw [hpair]
    split
    · rw [Pair.step_cond]
      rfl
    · rfl
  · rw [hcond b .loss (by simp), henv, pump_frontEnd, pump_engine, pump_mixer, inputFrame_frontEnd, inputFrame_scene,
      (inputFrame_mixer_kept x s).1]
    simp [frameConditions, Protection.conditions, Protection.watched, lossHolds, Mixer.muted, and_assoc]
  · rw [hprot]
    rfl
  · rw [hprot]
    rfl
  · rw [hprot]
    rfl
  · rw [hprot]
    rfl
  · rw [hprot]
    rfl
  · rw [hprot]
    rfl
  · rw [hpair, hmoves, decide_eq_true hc]
    rfl
  · rw [hpair, if_pos (hmove c hc), Pair.step_of_pos _ ht]
    exact ⟨rfl, rfl, by simp [and_assoc]⟩
  · rw [hcond b c hc, hpair, if_pos (hmove c hc), ht, Pair.step_of_zero]
  · rw [hprot]
    rfl
  · exact inputFrame_monRequest x s
  · refine ((raisesOnly_inputFrame_guard x s).congr fun n => ?_).pumped.2
    rw [Bool.and_comm]
    congr 1
    refine congrArg (buses.any ·) (funext fun b => congrArg (protClasses.any ·) (funext fun c => ?_))
    by_cases hc : c = .dc ∧ s.protection.phase = 4095
    · rw [hmoves]
      simp [hc]
    · rw [hcond b c hc, hmove c hc, decide_eq_false hc, Bool.not_false, Bool.and_true, Bool.true_and]
      rfl

end Sys2Proof.InputFrontEnd

/-! A clean rig, and the block boundaries as rows of their own. -/

namespace Sys2Proof.Machine

/-! ### Unity everywhere (R12 to R22) -/

theorem rhs_level_unity {x : Int} (hlo : -8388608 ≤ x) (hhi : x ≤ 8388607) : rhs (x * 4096) 12 = x :=
  rhs_mul_unity (s := 12) (by decide) hlo hhi

theorem rhs_weight_unity {x : Int} (hlo : -8388608 ≤ x) (hhi : x ≤ 8388607) : rhs (x * 32768) 15 = x :=
  rhs_mul_unity (s := 15) (by decide) hlo hhi

/-- A straight curve gives its input back, up to the upper half of its top segment. -/
theorem curveLookup_straight {y : Nat → Int} (hy : ∀ k : Nat, k < 64 → y k = -8388608 + 262144 * (k : Int))
    (htop : y 64 = 8388607) {x : Int} (hlo : -8388608 ≤ x) (hhi : x ≤ 8257536) : curveLookup y x = x := by
  obtain ⟨k, f, hf, hx⟩ : ∃ k f : Nat, f < 262144 ∧ x + 8388608 = 262144 * (k : Int) + f :=
    ⟨(x + 8388608).toNat / 262144, (x + 8388608).toNat % 262144, by omega, by omega⟩
  rw [curveLookup_eq y hf hx]
  rcases Nat.lt_or_ge k 63 with hk | hk
  · have hstep : y (k + 1) - y k = 262144 := by
      rw [hy (k + 1) (by omega), hy k (by omega)]
      push_cast
      ring
    rw [hstep, hy k (by omega)]
    omega
  · obtain rfl : k = 63 := by omega
    rw [hy 63 (by decide), htop]
    push_cast at hx ⊢
    omega

/-- A DRIVE or POWER stage on a straight curve with unity before and after it. -/
theorem shape_straight {st : Stores} {c : Nat}
    (hy : ∀ k : Nat, k < 64 → tableGet 0 (st.curve c).values k = -8388608 + 262144 * (k : Int))
    (htop : tableGet 0 (st.curve c).values 64 = 8388607) {x : Int} (hlo : -8388608 ≤ x) (hhi : x ≤ 8257536) :
    shape st ⟨256, c, 4096⟩ x = x := by
  have hpre : rhs (x * ((256 : Nat) : Int)) 8 = x := rhs_mul_unity (s := 8) (by decide) hlo (by omega)
  simp only [shape, hpre, curveLookup_straight hy htop hlo hhi]
  exact rhs_level_unity hlo (by omega)

/-- A tone section with the coefficients of a new preset. -/
theorem biquad_unity (h : BiquadHist) {x : Int} (hlo : -8388608 ≤ x) (hhi : x ≤ 8388607) :
    (biquad ⟨4194304, 0, 0, 0, 0⟩ h x).1 = x := by
  have hsum : biquadSum ⟨4194304, 0, 0, 0, 0⟩ h x = x * 2 ^ 22 := by
    simp only [biquadSum]
    ring
  simp only [biquad, hsum]
  exact rhs_mul_unity (s := 22) (by decide) hlo hhi

section

variable {st : Stores} {l : Lane} {x : Int}

/-- The gate of a new preset, which stands open. -/
theorem gateFrame_default (hchain : l.params.chain = .default) (hlo : -8388608 ≤ x) (hhi : x ≤ 8388607) :
    (l.gateFrame x).2 = x := by
  simp only [Lane.gateFrame, hchain, Chain.default, gateGain, if_true]
  exact rhs_level_unity hlo hhi

/-- A lane of unity weight on a new preset's chain with curve 0 straight: the trimmed sample before the cab and at the level. -/
theorem lane_passes (hchain : l.params.chain = .default) (hweight : l.weight = 32768)
    (hy : ∀ k : Nat, k < 64 → tableGet 0 (st.curve 0).values k = -8388608 + 262144 * (k : Int))
    (htop : tableGet 0 (st.curve 0).values 64 = 8388607) (hlo : -8388608 ≤ x) (hhi : x ≤ 8257536) :
    rhs (l.preCab st x * l.weight) 15 = x ∧ l.levelled st x = x := by
  have hhi' : x ≤ 8388607 := by omega
  have hdriven : l.driven st x = x := by
    rw [Lane.driven, gateFrame_default hchain hlo hhi', hchain]
    exact shape_straight hy htop hlo hhi
  have htoned1 : (l.toned1 st x).1 = x := by
    rw [Lane.toned1, hdriven, hchain]
    exact biquad_unity _ hlo hhi'
  have htoned2 : (l.toned2 st x).1 = x := by
    rw [Lane.toned2, htoned1, hchain]
    exact biquad_unity _ hlo hhi'
  have htoned3 : (l.toned3 st x).1 = x := by
    rw [Lane.toned3, htoned2, hchain]
    exact biquad_unity _ hlo hhi'
  have hpre : l.preCab st x = x := by
    rw [Lane.preCab, htoned3, hchain]
    exact shape_straight hy htop hlo hhi
  have hcab : (l.cabbed st x).2 = x := by
    rw [Lane.cabbed, cabFrame_none st l (by rw [hchain]; rfl), hpre]
  have hweighted : l.weighted st x = x := by
    rw [Lane.weighted, hcab, hweight]
    exact rhs_weight_unity hlo hhi'
  have hread : l.delayRead = 0 := by
    rw [delayRead_eq, hchain]
    rfl
  have hmix : l.mix (l.weighted st x) l.delayRead = x := by
    rw [Lane.mix, hweighted, hread, hchain]
    have hdry : rhs (x * ((Chain.default.delay.dry : Nat) : Int)) 12 = x := rhs_level_unity hlo hhi'
    have hwet : rhs (0 * ((Chain.default.delay.wet : Nat) : Int)) 12 = 0 := by decide
    rw [hdry, hwet, Int.add_zero, saturate_of_mem hlo hhi']
  refine ⟨?_, ?_⟩
  · rw [hpre, hweight]
    exact rhs_weight_unity hlo hhi'
  · rw [Lane.levelled, hmix, hchain]
    exact rhs_level_unity hlo hhi'

end

/-! ### The boundaries as rows of their own (log 3) -/

/-- A link that is served and left alone has nothing to choose. -/
theorem pump_link_of_served {s t : State} {k : Link} (h : Served s) (hprotection : t.protection = s.protection)
    (hreset : s.resetDue = true → t.resetDue = true) (hlink : t.link k = s.link k) : (pump t).link k = s.link k := by
  rw [pump_link, hlink]
  split
  · rfl
  · next hk =>
    have hheld : (s.link k).held t = (s.link k).held s := by rw [LinkIf.held, LinkIf.held, hprotection]
    rcases (s.link k).choose_cases t with ⟨-, heq⟩ | ⟨htx, m, rest, hqueue, -⟩ | ⟨htx, hqueue, hnotHeld, c, hfirst, -⟩
    · exact heq
    · rcases h k with hbusy | ⟨hempty, -⟩ | hdue
      · exact absurd htx hbusy
      · simp [hempty] at hqueue
      · exact absurd ⟨hdue.1, hreset hdue.2⟩ hk
    · rcases h k with hbusy | ⟨-, hnone | hheld'⟩ | hdue
      · exact absurd htx hbusy
      · rw [NoticeSet.first_eq_none.mpr hnone] at hfirst
        simp at hfirst
      · simp [← hheld, hnotHeld] at hheld'
      · exact absurd ⟨hdue.1, hreset hdue.2⟩ hk

/-- A part whose transmitters are served has nothing to choose. -/
theorem pump_of_served {s : State} (h : Served s) : pump s = s :=
  congrArg s.withLinks (PerLink.ext_get fun _ => pump_link_of_served h rfl id rfl)

/-- A step's changes and the transmitters' choice after them. -/
theorem changesOnly.pumped {bs : List Block} {s t : State} (h : changesOnly bs s t) : changesOnly (.links :: bs) s (pump t) :=
  changesOnly_pump (h.mono fun _ hb => List.mem_cons_of_mem _ hb)

/-- The front end's frame is the same whether its boundary has been taken as a row of its own or falls with the frame. -/
theorem frame_latch (f : FrontEnd) (v : Int) (h : f.boundaryFalls = true) :
    FrontEnd.frame { f.latch with boundaryTaken := true } v = f.frame v := by
  have htaken : ({ f.latch with boundaryTaken := true } : FrontEnd).boundaryFalls = false := by simp [FrontEnd.boundaryFalls]
  simp only [FrontEnd.frame, h, htaken, if_true, if_false, Bool.false_eq_true]

/-- A lane's chain does not read whether its boundary has been taken. -/
theorem compute_boundaryTaken (st : Stores) (d : Bool) (x : Int) (l : Lane) (b : Bool) :
    ({ l with boundaryTaken := b } : Lane).compute st d x =
      ({ (l.compute st d x).1 with boundaryTaken := b }, (l.compute st d x).2) := by
  rw [compute_stages, compute_stages]
  rfl

theorem lane_frame_latch {st : Stores} {d : Bool} {x : Int} {l : Lane} (hidle : l.state ≠ .idle)
    (h : l.boundaryFalls = true) : Lane.frame st d x { l.latch with boundaryTaken := true } = l.frame st d x := by
  rw [Lane.frame_of_ne_idle hidle, Lane.frame_of_ne_idle (l := { l.latch with boundaryTaken := true }) hidle, h]
  have htaken : ({ l.latch with boundaryTaken := true } : Lane).boundaryFalls = false := by simp [Lane.boundaryFalls]
  rw [htaken, if_pos rfl, if_neg Bool.false_ne_true, compute_boundaryTaken]

/-- An input frame reads the front end by its frame alone. -/
theorem inputFrame_withFrontEnd {x : Int} {s : State} {f : FrontEnd} (h : f.frame x = s.frontEnd.frame x) :
    inputFrame x (s.withFrontEnd f) = inputFrame x s := by
  unfold inputFrame
  dsimp only [State.withFrontEnd_frontEnd]
  rw [h]
  rfl

/-- An input frame reads the lanes by their frames alone. -/
theorem inputFrame_withLanes {x : Int} {s : State} {p : PerLane Lane}
    (h : ∀ i, (p.get i).frame s.stores s.engine.dipping (s.frontEnd.frame x).2 =
      (s.lanes.get i).frame s.stores s.engine.dipping (s.frontEnd.frame x).2) :
    inputFrame x (s.withLanes p) = inputFrame x s := by
  have ha : p.a.frame s.stores s.engine.dipping (s.frontEnd.frame x).2 = _ := h .a
  have hb : p.b.frame s.stores s.engine.dipping (s.frontEnd.frame x).2 = _ := h .b
  unfold inputFrame audioFrame
  dsimp only [State.withLanes_frontEnd, State.withFrontEnd_lanes, State.withLanes_lanes, State.withFrontEnd_stores,
    State.withLanes_stores, State.withFrontEnd_engine, State.withLanes_engine]
  rw [ha, hb]
  rfl

/-- What is due reads a lane's state, its tail and its output ramp. -/
theorem due_setLane {s : State} {i : LaneId} {l : Lane} (hstate : l.state = (s.lanes.get i).state)
    (htimer : l.tailTimer = (s.lanes.get i).tailTimer) (hfloor : l.floorCount = (s.lanes.get i).floorCount)
    (hramp : l.outRamp = (s.lanes.get i).outRamp) (e : Event) : due e (s.setLane i l) = due e s := by
  have hlane : ∀ k, ((s.setLane i l).lanes.get k).state = (s.lanes.get k).state ∧
      ((s.setLane i l).lanes.get k).tailTimer = (s.lanes.get k).tailTimer ∧
      ((s.setLane i l).lanes.get k).floorCount = (s.lanes.get k).floorCount ∧
      ((s.setLane i l).lanes.get k).outRamp = (s.lanes.get k).outRamp := by
    intro k
    rw [State.setLane_lanes, PerLane.get_set]
    split
    · next hk => exact hk ▸ ⟨hstate, htimer, hfloor, hramp⟩
    · exact ⟨rfl, rfl, rfl, rfl⟩
  cases e
  case tailTimerExpiry k | tailFloorEnd k | cutEnd k =>
    obtain ⟨hs, ht, hf, hr⟩ := hlane k
    simp only [due, hs, ht, hf, hr]
  case dipOutEnd =>
    obtain ⟨hsa, -, -, hra⟩ := hlane .a
    obtain ⟨hsb, -, -, hrb⟩ := hlane .b
    change ((s.setLane i l).lanes.a).state = s.lanes.a.state at hsa
    change ((s.setLane i l).lanes.a).outRamp = s.lanes.a.outRamp at hra
    change ((s.setLane i l).lanes.b).state = s.lanes.b.state at hsb
    change ((s.setLane i l).lanes.b).outRamp = s.lanes.b.outRamp at hrb
    simp only [due, dipOutOver, hsa, hra, hsb, hrb]
    rfl
  all_goals rfl

/-- A lane's boundary, its pending set written out (R24, R11). -/
theorem lane_latch_eq (l : Lane) :
    let n := l.pendingSet
    let p := l.params.chain
    let v := l.params.levels
    l.latch = { l with
      params :=
        { chain :=
            { gate := (n.gate.map (fun g => ⟨g.openAt, min g.closeAt g.openAt, g.release⟩)).getD p.gate
              drive := ⟨n.drivePre.getD p.drive.pre, n.driveCurve.getD p.drive.curve, n.drivePost.getD p.drive.post⟩
              tone1 := n.tone1.getD p.tone1, tone2 := n.tone2.getD p.tone2, tone3 := n.tone3.getD p.tone3
              power := ⟨n.powerPre.getD p.power.pre, n.powerCurve.getD p.power.curve, n.powerPost.getD p.power.post⟩
              cab := n.cab.getD p.cab
              delay := ⟨n.delayMode.getD p.delay.mode, p.delay.fixedLength, p.delay.division,
                (n.feedback.map (fun w => min w 3891)).getD p.delay.feedback, n.dry.getD p.delay.dry,
                n.wet.getD p.delay.wet⟩
              level := n.level.getD p.level }
          levels := ⟨n.foh.getD v.foh, n.mon.getD v.mon, n.amp.getD v.amp⟩ }
      delayLength := (n.length.map (fun w => w.1)).getD l.delayLength
      delayClamped := (n.length.map (fun w => w.2)).getD l.delayClamped
      gateRamp := if n.gate.any (fun g => g.openAt == 0) then 64 else l.gateRamp
      pendingSet := .empty } := by
  intro n p v
  have hgate : (match n.gate with | some g => g.latched | none => p.gate) =
      (n.gate.map (fun g => ⟨g.openAt, min g.closeAt g.openAt, g.release⟩)).getD p.gate := by cases n.gate <;> rfl
  have hfeedback : (match n.feedback with | some w => min w Config.feedbackMax | none => p.delay.feedback) =
      (n.feedback.map (fun w => min w 3891)).getD p.delay.feedback := by cases n.feedback <;> rfl
  have hramp : (match n.gate with | some g => if g.openAt = 0 then Config.gateRampTop else l.gateRamp | none => l.gateRamp) =
      if n.gate.any (fun g => g.openAt == 0) then 64 else l.gateRamp := by
    cases n.gate <;> simp [Config.gateRampTop]
  rw [← hgate, ← hfeedback, ← hramp]
  rfl

theorem laneBoundary_of_falls {i : LaneId} {s : State} (hidle : (s.lanes.get i).state ≠ .idle)
    (hfalls : (s.lanes.get i).boundaryFalls = true) :
    laneBoundary i s = s.setLane i { (s.lanes.get i).latch with boundaryTaken := true } := by
  rw [laneBoundary, if_pos ⟨hidle, hfalls⟩]

/-- A frame of both lanes where one has taken its boundary already. -/
theorem frame_laneBoundary {i : LaneId} {s : State} (hidle : (s.lanes.get i).state ≠ .idle)
    (hfalls : (s.lanes.get i).boundaryFalls = true) (x : Int) : inputFrame x (laneBoundary i s) = inputFrame x s := by
  rw [laneBoundary_of_falls hidle hfalls]
  refine inputFrame_withLanes fun k => ?_
  rw [PerLane.get_set]
  split
  · next hk =>
    subst hk
    exact lane_frame_latch hidle hfalls
  · rfl

end Sys2Proof.Machine

namespace Sys2Proof.InputFrontEnd

open Sys2Proof.Machine

/-- Settles O19: unity at every stage of lane A, silence of lane B, and open ramps. -/
theorem cleanRigPassesTheSample : Obligations.CleanRigPassesTheSample := by
  intro s ch0 ch1 hquiet htrim hfb hlive hrole hlb hidle hparams hweight hout hy htop htr hramps hmonRamp hmask hmute hmonReq
    hatt hsample
  refine ⟨_, exec_inputFrame_of_quiet hquiet ch0 ch1, fun bus => ?_⟩
  have hbounds := ch0.toInt_lt
  have hbounds' := ch0.le_toInt
  generalize hx : ch0.toInt / 256 = x at hsample ⊢
  have hlo : -8388608 ≤ x := by omega
  have hhi : x ≤ 8388607 := by omega
  have hframe : (s.frontEnd.frame x).2 = x := by
    simp only [FrontEnd.frame, hfb, htrim, Bool.false_eq_true, if_false]
    exact rhs_level_unity hlo hhi
  have hdip : s.engine.dipping = false := by simp [Engine.dipping, htr]
  obtain ⟨hpw, hlp⟩ := lane_passes (st := s.stores) (l := s.lanes.a) (by rw [hparams]) hweight hy htop hlo hsample
  have hramp : s.lanes.a.rampAfter false = 96 := by simp [Lane.rampAfter, hlive, hout]
  have hcontribution : (s.lanes.a.frame s.stores s.engine.dipping (s.frontEnd.frame x).2).2 = ⟨x, x, x⟩ := by
    rw [hframe, hdip, frame_stages _ _ _ (by simp [hlive]) hlb, hlp, hpw, hramp]
    have hgain : rhs (x * ((rampGain 96 : Nat) : Int)) 15 = x := rhs_weight_unity hlo hhi
    have hlevel : rhs (x * ((4096 : Nat) : Int)) 12 = x := rhs_level_unity hlo hhi
    have hlaneLevel : rhs (x * ((Chain.default.level : Nat) : Int)) 12 = x := rhs_level_unity hlo hhi
    simp only [Lane.contribution, hparams, hgain, hlevel, hlaneLevel]
  have hsilent : (s.lanes.b.frame s.stores s.engine.dipping (s.frontEnd.frame x).2).2 = ⟨0, 0, 0⟩ := by
    rw [Lane.frame_of_idle hidle]
  have hsum : laneSum x s bus = x := by
    rw [laneSum, busSum, hcontribution, hsilent, hrole]
    cases bus <;> cases s.lanes.b.role <;> simp [Contribution.onBus, saturate_of_mem hlo hhi]
  have hheld : ∀ b, s.mixer.heldSilent b = false := by
    intro b
    cases b <;> simp [Mixer.heldSilent, hmask, hmute, BusMask.has, BusMask.none]
  have hopen : ∀ b, s.mixer.stepRamps.ramps.get b = 96 := by
    intro b
    simp only [Mixer.stepRamps, PerBus.get_build, hheld, hramps]
    cases b <;> rfl
  have hmonOpen : s.mixer.stepRamps.protectionGain = 32768 := by
    have h96 : s.mixer.stepRamps.monRamp = 96 := by
      simp only [Mixer.stepRamps, hmonReq, hmonRamp]
      rfl
    have hsame : s.mixer.stepRamps.attenuation = s.mixer.attenuation := rfl
    simp only [Mixer.protectionGain, h96, hsame, Config.weightUnity, Config.rampTop]
    omega
  have hfinished : s.mixer.stepRamps.finished bus x = x := by
    have hmuted : rhs (x * ((rampGain 96 : Nat) : Int)) 15 = x := rhs_weight_unity hlo hhi
    have hgain : rhs (x * ((32768 : Nat) : Int)) 15 = x := rhs_weight_unity hlo hhi
    cases bus <;> simp only [Mixer.finished, hopen, hmuted, hmonOpen, hgain]
  rw [pump_mixer, inputFrame_output, hsum, hfinished, sampleSlot_toInt hlo hhi]

/-- Settles O20: a boundary row is the latch of what is pending; a frame reads the front end and the lanes by their frames,
which take the boundary themselves where the row has not. -/
theorem blockBoundaryRows : Obligations.BlockBoundaryRows := by
  refine ⟨fun s hquiet hphase htaken => ?_, fun i s hquiet hidle hphase htaken => ?_⟩
  · have hfalls : s.frontEnd.boundaryFalls = true := by simp [FrontEnd.boundaryFalls, hphase, htaken]
    have hrow : frontEndBoundary s = s.withFrontEnd { s.frontEnd.latch with boundaryTaken := true } := by
      rw [frontEndBoundary, if_pos hfalls]
    have hquiet' : quiet (frontEndBoundary s) = true := by
      rw [hrow, quiet_congr (s := s) (fun e => by cases e <;> rfl), hquiet]
    have hkept := (RaisesOnly.of_changesOnly (changesOnly_frontEndBoundary (s := s)) (by decide)).pumped
    refine ⟨pump (frontEndBoundary s), ?_, changesOnly_frontEndBoundary.pumped.mono (by decide), hkept.1, hkept.2,
      by rw [hrow]; rfl, fun hserved c0 c1 => ?_⟩
    · exact congrArg Host.Outcome.next (outside_of_quiet hquiet _)
    · have hserved' : Served (frontEndBoundary s) := hrow ▸ (transmittersServed_iff s).mp hserved
      rw [pump_of_served hserved', exec_inputFrame_of_quiet hquiet', exec_inputFrame_of_quiet hquiet, hrow,
        inputFrame_withFrontEnd (frame_latch _ _ hfalls)]
  · have hfalls : (s.lanes.get i).boundaryFalls = true := by simp [Lane.boundaryFalls, hphase, htaken]
    have hrow := laneBoundary_of_falls hidle hfalls
    have hquiet' : quiet (laneBoundary i s) = true := by
      rw [hrow, quiet_congr (s := s) (due_setLane (by rfl) (by rfl) (by rfl) (by rfl)), hquiet]
    have hkept := (RaisesOnly.of_changesOnly (changesOnly_laneBoundary (x := i) (s := s)) (by decide)).pumped
    refine ⟨pump (laneBoundary i s), ?_, changesOnly_laneBoundary.pumped.mono (by decide), hkept.1, hkept.2, fun k hk => ?_, ?_,
      fun hserved c0 c1 => ?_⟩
    · exact congrArg Host.Outcome.next (outside_of_quiet hquiet _)
    · rw [pump_lanes, hrow, State.setLane_lanes, PerLane.get_set, if_neg hk]
    · rw [pump_lanes, hrow, State.setLane_lanes, PerLane.get_set, if_pos rfl, lane_latch_eq]
    · have hserved' : Served (laneBoundary i s) := hrow ▸ (transmittersServed_iff s).mp hserved
      rw [pump_of_served hserved', exec_inputFrame_of_quiet hquiet', exec_inputFrame_of_quiet hquiet,
        frame_laneBoundary hidle hfalls]

end Sys2Proof.InputFrontEnd

/-! Requests that are answered at once, and the Model Stores' requests: curves, impulses, preset records, the Bank Map, the
instrument profiles (chapter 2). -/

namespace Sys2Proof.Machine

/-! ### A request answered at once -/

/-- The state after an owner's answer: the response queued, then the transmitters' choice. -/
def requestAnswered (t : ReqType) (l : Link) (tag : Byte) (o : Result × State) : State := pump (respond l t tag o.1 o.2)

section

variable {t : ReqType} {l : Link} {tag : Byte} {r : Result} {o : Result × State} {bs : List Block} {s u : State}

@[simp] theorem requestAnswered_frontEnd : (requestAnswered t l tag o).frontEnd = o.2.frontEnd := rfl
@[simp] theorem requestAnswered_lanes : (requestAnswered t l tag o).lanes = o.2.lanes := rfl
@[simp] theorem requestAnswered_stores : (requestAnswered t l tag o).stores = o.2.stores := rfl
@[simp] theorem requestAnswered_engine : (requestAnswered t l tag o).engine = o.2.engine := rfl
@[simp] theorem requestAnswered_arbiter : (requestAnswered t l tag o).arbiter = o.2.arbiter := rfl
@[simp] theorem requestAnswered_control : (requestAnswered t l tag o).control = o.2.control := rfl
@[simp] theorem requestAnswered_tuner : (requestAnswered t l tag o).tuner = o.2.tuner := rfl
@[simp] theorem requestAnswered_mixer : (requestAnswered t l tag o).mixer = o.2.mixer := rfl
@[simp] theorem requestAnswered_protection : (requestAnswered t l tag o).protection = o.2.protection := rfl
@[simp] theorem requestAnswered_capture : (requestAnswered t l tag o).capture = o.2.capture := rfl

/-- An owner that answers and raises classes, in the claims' terms. -/
theorem carriedOut_answered {R : NoticeClass → Bool} (ho : o = (r, u)) (h : RaisesOnly R (accepted l s) u)
    (hframe : changesOnly (.links :: bs) (accepted l s) u) : carriedOut t l tag r bs (fun _ => R) s (requestAnswered t l tag o) := by
  subst ho
  exact h.carriedOut hframe

/-- An owner that answers and raises no class, in the claims' terms. -/
theorem carriedOut_silently (ho : o = (r, u)) (hframe : changesOnly bs (accepted l s) u) (hb : Block.links ∉ bs) :
    carriedOut t l tag r bs noClass s (requestAnswered t l tag o) :=
  carriedOut_answered ho (.of_changesOnly hframe hb) (hframe.mono fun _ => List.mem_cons_of_mem _)

/-- An owner that refuses, in the claims' terms. -/
theorem refusedWith_answered (ho : o = (r, accepted l s)) : refusedWith t l tag r s (requestAnswered t l tag o) := by
  subst ho
  exact refusedWith_respond ..

end

/-- Where a request's result is final at acceptance, its owner answers it. -/
theorem carryOut_eq_respond {t : ReqType} (h : t ≠ .recall ∧ t ≠ .recallIndex ∧ t ≠ .query) (l : Link) (tag : Byte)
    (body : List Byte) (s : State) :
    carryOut t l tag body s = respond l t tag (deliver t l body s).1 (deliver t l body s).2 := by
  obtain ⟨h1, h2, h3⟩ := h
  cases t
  · exact absurd rfl h1
  case recallIndex => exact absurd rfl h2
  case query => exact absurd rfl h3
  all_goals rfl

theorem le_of_lengthOk {t : ReqType} {n : Nat} (h : t.lengthOk n = true) : n ≤ 60 := by
  have hmax : t.bodyRange.2 ≤ 60 := by cases t <;> decide
  simp only [ReqType.lengthOk, Bool.and_eq_true, decide_eq_true_eq] at h
  omega

/-- A request that its owner answers at once, on a link that accepts it. -/
theorem exec_answered (t : ReqType) (body : List Byte) {l : Link} {tag : Byte} {c : Instr} {s : State}
    (hacc : accepting l s = true) (htag : tag ≠ 0) (hc : t.command l tag body = some c)
    (ht : t ≠ .recall ∧ t ≠ .recallIndex ∧ t ≠ .query) (hp : t.permitted l = true) (hl : t.lengthOk body.length = true) :
    exec c s = .next (requestAnswered t l tag (deliver t l body (accepted l s))) := by
  rw [exec_of_command hc, requestArrives_of_accepting hacc htag hp hl (le_of_lengthOk hl), carryOut_eq_respond ht]
  rfl

/-! ### The numbers of a body -/

@[simp] theorem num_cons_succ (b : Byte) (body : List Byte) (off n : Nat) : num (b :: body) (off + 1) n = num body off n := rfl

@[simp] theorem num_one (b : Byte) (body : List Byte) : num (b :: body) 0 1 = b.toNat := by simp [num, be]

@[simp] theorem num_two (a b : Byte) (body : List Byte) : num (a :: b :: body) 0 2 = 256 * a.toNat + b.toNat := by
  simp [num, be]

@[simp] theorem num_three (a b c : Byte) (body : List Byte) :
    num (a :: b :: c :: body) 0 3 = 65536 * a.toNat + 256 * b.toNat + c.toNat := by
  simp [num, be]
  omega

@[simp] theorem byte1_of_toNat (b : Byte) : byte1 b.toNat = b := BitVec.ofNat_toNat 8 b

theorem num_append (front body : List Byte) (off n : Nat) : num (front ++ body) (front.length + off) n = num body off n := by
  rw [num, num, ← List.drop_drop, List.drop_left]

theorem threeBytes_toNat (a b c : Byte) : (a ++ b ++ c).toNat = 65536 * a.toNat + 256 * b.toNat + c.toNat := by
  have hb := b.isLt
  have hc := c.isLt
  rw [BitVec.toNat_append, ← Nat.shiftLeft_add_eq_or_of_lt hc, BitVec.toNat_append, ← Nat.shiftLeft_add_eq_or_of_lt hb,
    Nat.shiftLeft_eq, Nat.shiftLeft_eq]
  omega

/-- The three bytes of a two's complement number. -/
theorem num24_eq {body : List Byte} {off : Nat} (h : off + 2 < body.length) :
    num24 body off = (body.getD off 0 ++ body.getD (off + 1) 0 ++ body.getD (off + 2) 0).toInt := by
  have hdrop : body.drop off = body[off] :: body[off + 1] :: body[off + 2] :: body.drop (off + 3) := by
    rw [List.drop_eq_getElem_cons, List.drop_eq_getElem_cons, List.drop_eq_getElem_cons]
  have hnum : num body off 3 = (body[off] ++ body[off + 1] ++ body[off + 2]).toNat := by
    rw [threeBytes_toNat, ← num_three _ _ _ (body.drop (off + 3)), ← hdrop]
    rfl
  rw [num24, hnum, BitVec.ofNat_toNat]
  simp [List.getD_eq_getElem?_getD, h, show off + 1 < body.length by omega, show off < body.length by omega]

/-! ### A run of values written into a table -/

theorem tableGet_putAll : ∀ (vs : List Int) {t : Table Int} (i k : Nat), tableWf 0 t = true →
    tableGet 0 (tablePutAll 0 t i vs) k = if i ≤ k ∧ k < i + vs.length then vs.getD (k - i) 0 else tableGet 0 t k
  | [], t, i, k, _ => by
    rw [if_neg (by simp)]
    rfl
  | v :: vs, t, i, k, h => by
    rw [tablePutAll, tableGet_putAll vs (i + 1) k (tablePut_wf i v h)]
    by_cases hk : k = i
    · subst hk
      simp [tableGet_put_self k v h]
    · rw [tableGet_put_other i k v h hk]
      by_cases hin : i + 1 ≤ k ∧ k < i + 1 + vs.length
      · have hsucc : k - i = (k - (i + 1)) + 1 := by omega
        rw [if_pos hin, if_pos (by simp only [List.length_cons]; omega), hsucc, List.getD_cons_succ]
      · rw [if_neg hin, if_neg (by simp only [List.length_cons]; omega)]

/-! ### The in-use rule (R36) -/

theorem Preset.anyChain_iff (p : Preset) (f : Chain → Bool) :
    p.anyChain f = true ↔ ∃ c, (c = p.chainA ∨ p.chainB = some c) ∧ f c = true := by
  cases h : p.chainB <;> simp [Preset.anyChain, h]

theorem Engine.anyChain_iff (e : Engine) (f : Chain → Bool) :
    e.anyChain f = true ↔ ∃ (p : Preset) (c : Chain), ((∃ sc, e.scene = some sc ∧ p = sc.preset) ∨
      ∃ t, e.transition = some t ∧ p = t.copied) ∧ (c = p.chainA ∨ p.chainB = some c) ∧ f c = true := by
  have hany : e.anyChain f = (e.scene.any (fun sc => sc.preset.anyChain f) || e.transition.any (fun t => t.copied.anyChain f)) := by
    rcases e with ⟨_ | _, _ | _, _⟩ <;> rfl
  rw [hany, Bool.or_eq_true, Option.any_eq_true, Option.any_eq_true]
  constructor
  · rintro (⟨sc, hsc, hf⟩ | ⟨t, ht, hf⟩)
    · obtain ⟨c, hc⟩ := (sc.preset.anyChain_iff f).1 hf
      exact ⟨sc.preset, c, .inl ⟨sc, hsc, rfl⟩, hc⟩
    · obtain ⟨c, hc⟩ := (t.copied.anyChain_iff f).1 hf
      exact ⟨t.copied, c, .inr ⟨t, ht, rfl⟩, hc⟩
  · rintro ⟨p, c, ⟨sc, hsc, rfl⟩ | ⟨t, ht, rfl⟩, hc⟩
    · exact .inl ⟨sc, hsc, (sc.preset.anyChain_iff f).2 ⟨c, hc⟩⟩
    · exact .inr ⟨t, ht, (t.copied.anyChain_iff f).2 ⟨c, hc⟩⟩

theorem lanes_or {p : Lane → Prop} {lanes : PerLane Lane} : (p lanes.a ∨ p lanes.b) ↔ ∃ x, p (lanes.get x) :=
  (exists_lane (p := fun x => p (lanes.get x))).symm

theorem Lane.namesCurve_iff (x : Lane) (i : Nat) : x.namesCurve i = true ↔ x.state ≠ .idle ∧
    (x.params.chain.drive.curve = i ∨ x.params.chain.power.curve = i ∨ x.pendingSet.driveCurve = some i ∨
      x.pendingSet.powerCurve = some i) := by
  simp [Lane.namesCurve, Chain.namesCurve, or_assoc]

theorem Lane.namesImpulse_iff (x : Lane) (i : Nat) : x.namesImpulse i = true ↔ x.state ≠ .idle ∧
    (x.params.chain.cab = some i ∨ x.pendingSet.cab = some (some i)) := by
  simp [Lane.namesImpulse, Chain.namesImpulse]

theorem curveInUse_iff (s : State) (i : Nat) : curveInUse s i = true ↔
    ((∃ x : LaneId, (s.lanes.get x).state ≠ .idle ∧
        ((s.lanes.get x).params.chain.drive.curve = i ∨ (s.lanes.get x).params.chain.power.curve = i ∨
          (s.lanes.get x).pendingSet.driveCurve = some i ∨ (s.lanes.get x).pendingSet.powerCurve = some i)) ∨
      ∃ (p : Preset) (c : Chain), ((∃ sc, s.engine.scene = some sc ∧ p = sc.preset) ∨
          ∃ t, s.engine.transition = some t ∧ p = t.copied) ∧
        (c = p.chainA ∨ p.chainB = some c) ∧ (c.drive.curve = i ∨ c.power.curve = i)) := by
  rw [curveInUse, Bool.or_eq_true, Bool.or_eq_true, lanes_or (p := fun x => x.namesCurve i = true), Engine.anyChain_iff]
  simp only [Lane.namesCurve_iff, Chain.namesCurve, Bool.or_eq_true, beq_iff_eq]

theorem impulseInUse_iff (s : State) (i : Nat) : impulseInUse s i = true ↔
    ((∃ x : LaneId, (s.lanes.get x).state ≠ .idle ∧
        ((s.lanes.get x).params.chain.cab = some i ∨ (s.lanes.get x).pendingSet.cab = some (some i))) ∨
      ∃ (p : Preset) (c : Chain), ((∃ sc, s.engine.scene = some sc ∧ p = sc.preset) ∨
          ∃ t, s.engine.transition = some t ∧ p = t.copied) ∧
        (c = p.chainA ∨ p.chainB = some c) ∧ c.cab = some i) := by
  rw [impulseInUse, Bool.or_eq_true, Bool.or_eq_true, lanes_or (p := fun x => x.namesImpulse i = true),
    Engine.anyChain_iff]
  simp only [Lane.namesImpulse_iff, Chain.namesImpulse, beq_iff_eq]

/-! ### CURVE_BEGIN, IMPULSE_BEGIN, CURVE_PUT, IMPULSE_PUT (R33 to R35) -/

section

variable {s : State}

theorem changesOnly_putCurve {i : Nat} {r : WaveRec} : changesOnly [.stores] s (putCurve i r s) := changesOnly_withStores
theorem changesOnly_putImpulse {i : Nat} {r : WaveRec} : changesOnly [.stores] s (putImpulse i r s) := changesOnly_withStores

theorem putCurve_curve_self (h : tablesCanonical s = true) (i : Nat) (r : WaveRec) : (putCurve i r s).stores.curve i = r :=
  tableGet_put_self i r ((tablesCanonical_iff s).1 h).1.curves

theorem putCurve_curve_other (h : tablesCanonical s = true) {i j : Nat} (hj : j ≠ i) (r : WaveRec) :
    (putCurve i r s).stores.curve j = s.stores.curve j :=
  tableGet_put_other i j r ((tablesCanonical_iff s).1 h).1.curves hj

theorem putImpulse_impulse_self (h : tablesCanonical s = true) (i : Nat) (r : WaveRec) :
    (putImpulse i r s).stores.impulse i = r :=
  tableGet_put_self i r ((tablesCanonical_iff s).1 h).1.impulses

theorem putImpulse_impulse_other (h : tablesCanonical s = true) {i j : Nat} (hj : j ≠ i) (r : WaveRec) :
    (putImpulse i r s).stores.impulse j = s.stores.impulse j :=
  tableGet_put_other i j r ((tablesCanonical_iff s).1 h).1.impulses hj

variable {i p : Byte} {v : List Byte}

theorem curveBegin_of_index (h : 8 ≤ i.toNat) : curveBegin [i] s = (.badRequest, s) := by simp [curveBegin, h]

theorem curveBegin_of_inUse (hi : i.toNat < 8) (h : curveInUse s i.toNat = true) : curveBegin [i] s = (.inUse, s) := by
  simp [curveBegin, Nat.not_le.2 hi, h]

theorem curveBegin_of_free (hi : i.toNat < 8) (h : curveInUse s i.toNat = false) :
    curveBegin [i] s = (.ok, putCurve i.toNat (s.stores.curve i.toNat).opened s) := by
  simp [curveBegin, Nat.not_le.2 hi, h]

theorem impulseBegin_of_index (h : 16 ≤ i.toNat) : impulseBegin [i] s = (.badRequest, s) := by simp [impulseBegin, h]

theorem impulseBegin_of_inUse (hi : i.toNat < 16) (h : impulseInUse s i.toNat = true) :
    impulseBegin [i] s = (.inUse, s) := by
  simp [impulseBegin, Nat.not_le.2 hi, h]

theorem impulseBegin_of_free (hi : i.toNat < 16) (h : impulseInUse s i.toNat = false) :
    impulseBegin [i] s = (.ok, putImpulse i.toNat (s.stores.impulse i.toNat).opened s) := by
  simp [impulseBegin, Nat.not_le.2 hi, h]

theorem curvePut_of_index (h : 8 ≤ i.toNat ∨ 5 ≤ p.toNat) : curvePut (i :: p :: v) s = (.badRequest, s) := by
  simp [curvePut, h]

theorem curvePut_of_inUse (hi : i.toNat < 8) (hp : p.toNat < 5) (h : curveInUse s i.toNat = true) :
    curvePut (i :: p :: v) s = (.inUse, s) := by
  simp [curvePut, Nat.not_le.2 hi, Nat.not_le.2 hp, h]

theorem curvePut_of_not_filling (hi : i.toNat < 8) (hp : p.toNat < 5) (h : curveInUse s i.toNat = false)
    (hst : (s.stores.curve i.toNat).state ≠ .filling) : curvePut (i :: p :: v) s = (.badRequest, s) := by
  simp [curvePut, Nat.not_le.2 hi, Nat.not_le.2 hp, h, hst]

theorem curvePut_of_filling (hi : i.toNat < 8) (hp : p.toNat < 5) (h : curveInUse s i.toNat = false)
    (hst : (s.stores.curve i.toNat).state = .filling) : curvePut (i :: p :: v) s =
      (.ok, putCurve i.toNat ((s.stores.curve i.toNat).takePart 0x1F p.toNat 13 (partValues (i :: p :: v) 2 13)) s) := by
  simp [curvePut, Nat.not_le.2 hi, Nat.not_le.2 hp, h, hst]

theorem impulsePut_of_index (h : 16 ≤ i.toNat ∨ 16 ≤ p.toNat) : impulsePut (i :: p :: v) s = (.badRequest, s) := by
  simp [impulsePut, h]

theorem impulsePut_of_inUse (hi : i.toNat < 16) (hp : p.toNat < 16) (h : impulseInUse s i.toNat = true) :
    impulsePut (i :: p :: v) s = (.inUse, s) := by
  simp [impulsePut, Nat.not_le.2 hi, Nat.not_le.2 hp, h]

theorem impulsePut_of_not_filling (hi : i.toNat < 16) (hp : p.toNat < 16) (h : impulseInUse s i.toNat = false)
    (hst : (s.stores.impulse i.toNat).state ≠ .filling) : impulsePut (i :: p :: v) s = (.badRequest, s) := by
  simp [impulsePut, Nat.not_le.2 hi, Nat.not_le.2 hp, h, hst]

theorem impulsePut_of_filling (hi : i.toNat < 16) (hp : p.toNat < 16) (h : impulseInUse s i.toNat = false)
    (hst : (s.stores.impulse i.toNat).state = .filling) : impulsePut (i :: p :: v) s =
      (.ok, putImpulse i.toNat ((s.stores.impulse i.toNat).takePart 0xFFFF p.toNat 16 (partValues (i :: p :: v) 2 16)) s) := by
  simp [impulsePut, Nat.not_le.2 hi, Nat.not_le.2 hp, h, hst]

/-- The values of a record after a part of n values. -/
theorem takePart_values {r : WaveRec} (hr : tableWf 0 r.values = true) (full : BitVec 16) (n : Nat)
    (hv : v.length = 3 * n) (k : Nat) :
    tableGet 0 (r.takePart full p.toNat n (partValues (i :: p :: v) 2 n)).values k =
      if n * p.toNat ≤ k ∧ k < n * p.toNat + n then
        (v.getD (3 * (k - n * p.toNat)) 0 ++ v.getD (3 * (k - n * p.toNat) + 1) 0 ++
          v.getD (3 * (k - n * p.toNat) + 2) 0).toInt
      else tableGet 0 r.values k := by
  have hlen : (partValues (i :: p :: v) 2 n).length = n := by simp [partValues]
  rw [WaveRec.takePart, tableGet_putAll _ _ _ hr, hlen, Nat.mul_comm p.toNat n]
  by_cases hk : n * p.toNat ≤ k ∧ k < n * p.toNat + n
  · rw [if_pos hk, if_pos hk]
    have hj : k - n * p.toNat < n := by omega
    have hoff : 3 * (k - n * p.toNat) + 2 < v.length := by omega
    have hget : (partValues (i :: p :: v) 2 n).getD (k - n * p.toNat) 0 =
        num24 (i :: p :: v) (2 + 3 * (k - n * p.toNat)) := by
      simp [partValues, hj]
    rw [hget, Nat.add_comm 2, ← num24_eq hoff]
    rfl
  · rw [if_neg hk, if_neg hk]

/-- The values of a curve record are canonical, listed or not. -/
theorem curve_values_canonical (h : tablesCanonical s = true) (i : Nat) : tableWf 0 (s.stores.curve i).values = true := by
  rcases tableGet_mem (d := WaveRec.initial) s.stores.curves i with hd | hm
  · rw [Stores.curve, hd]
    rfl
  · exact ((tablesCanonical_iff s).1 h).1.curveValues _ hm

theorem impulse_values_canonical (h : tablesCanonical s = true) (i : Nat) :
    tableWf 0 (s.stores.impulse i).values = true := by
  rcases tableGet_mem (d := WaveRec.initial) s.stores.impulses i with hd | hm
  · rw [Stores.impulse, hd]
    rfl
  · exact ((tablesCanonical_iff s).1 h).1.impulseValues _ hm

end

end Sys2Proof.Machine

namespace Sys2Proof.ModelStores

open Sys2Proof.Machine

/-- Settles O21: what names a record, and the three outcomes of each BEGIN. -/
theorem beginOpensRecord : Obligations.BeginOpensRecord := by
  refine ⟨⟨curveInUse_iff, impulseInUse_iff⟩, fun s tag i hacc htag hcanon => ⟨⟨_, exec_answered .curveBegin [i]
    hacc htag rfl (by decide) rfl rfl, ?_, ?_, ?_⟩, ⟨_, exec_answered .impulseBegin [i] hacc htag rfl (by decide) rfl rfl, ?_, ?_, ?_⟩⟩⟩
  · exact fun hi => refusedWith_answered (curveBegin_of_index hi)
  · exact fun hi hu => refusedWith_answered (curveBegin_of_inUse hi hu)
  · intro hi hu
    have hbegin := curveBegin_of_free (s := accepted .crew s) hi hu
    refine ⟨carriedOut_silently hbegin changesOnly_putCurve (by decide), ?_⟩
    simp only [requestAnswered_stores, deliver, hbegin]
    exact ⟨putCurve_curve_self hcanon _ _, fun j hj => putCurve_curve_other hcanon hj _, rfl⟩
  · exact fun hi => refusedWith_answered (impulseBegin_of_index hi)
  · exact fun hi hu => refusedWith_answered (impulseBegin_of_inUse hi hu)
  · intro hi hu
    have hbegin := impulseBegin_of_free (s := accepted .crew s) hi hu
    refine ⟨carriedOut_silently hbegin changesOnly_putImpulse (by decide), ?_⟩
    simp only [requestAnswered_stores, deliver, hbegin]
    exact ⟨putImpulse_impulse_self hcanon _ _, fun j hj => putImpulse_impulse_other hcanon hj _, rfl⟩

/-- Settles O22: the checks of a PUT in their order, and the record with the part written. -/
theorem putWritesPart : Obligations.PutWritesPart := by
  refine ⟨fun s tag i p v hacc htag hcanon hv => ⟨_, exec_answered .curvePut (i :: p :: v) hacc htag rfl (by decide) rfl
      (by simp [ReqType.lengthOk, ReqType.bodyRange, hv]), ?_, ?_, ?_, ?_⟩,
    fun s tag i p v hacc htag hcanon hv => ⟨_, exec_answered .impulsePut (i :: p :: v) hacc htag rfl (by decide) rfl
      (by simp [ReqType.lengthOk, ReqType.bodyRange, hv]), ?_, ?_, ?_, ?_⟩⟩
  · exact fun h => refusedWith_answered (curvePut_of_index h)
  · exact fun hi hp hu => refusedWith_answered (curvePut_of_inUse hi hp hu)
  · exact fun hi hp hu hst => refusedWith_answered (curvePut_of_not_filling hi hp hu hst)
  · intro hi hp hu hst old new
    have hput := curvePut_of_filling (s := accepted .crew s) (v := v) hi hp hu hst
    refine ⟨carriedOut_silently hput changesOnly_putCurve (by decide), ?_⟩
    have hnew : new = old.takePart 0x1F p.toNat 13 (partValues (i :: p :: v) 2 13) := by
      simp only [new, requestAnswered_stores, deliver, hput]
      exact putCurve_curve_self hcanon _ _
    rw [hnew]
    refine ⟨rfl, rfl, takePart_values (curve_values_canonical hcanon _) _ 13 hv, ?_⟩
    simp only [requestAnswered_stores, deliver, hput]
    exact ⟨fun j hj => putCurve_curve_other hcanon hj _, rfl⟩
  · exact fun h => refusedWith_answered (impulsePut_of_index h)
  · exact fun hi hp hu => refusedWith_answered (impulsePut_of_inUse hi hp hu)
  · exact fun hi hp hu hst => refusedWith_answered (impulsePut_of_not_filling hi hp hu hst)
  · intro hi hp hu hst old new
    have hput := impulsePut_of_filling (s := accepted .crew s) (v := v) hi hp hu hst
    refine ⟨carriedOut_silently hput changesOnly_putImpulse (by decide), ?_⟩
    have hnew : new = old.takePart 0xFFFF p.toNat 16 (partValues (i :: p :: v) 2 16) := by
      simp only [new, requestAnswered_stores, deliver, hput]
      exact putImpulse_impulse_self hcanon _ _
    rw [hnew]
    refine ⟨rfl, rfl, takePart_values (impulse_values_canonical hcanon _) _ 16 hv, ?_⟩
    simp only [requestAnswered_stores, deliver, hput]
    exact ⟨fun j hj => putImpulse_impulse_other hcanon hj _, rfl⟩

end Sys2Proof.ModelStores

/-! The Model Stores' requests about preset records, the Bank Map and the profiles (R39 to R49), STORE (R73) and WINDOW_SET
(R78). -/

namespace Sys2Proof.Machine

theorem lengthOk_of_mem {t : ReqType} {n : Nat} (hlo : t.bodyRange.1 ≤ n) (hhi : n ≤ t.bodyRange.2) : t.lengthOk n = true := by
  simp [ReqType.lengthOk, hlo, hhi]

/-! ### A preset record written (R45) -/

section

variable {s : State} {i j : Nat} {r : PresetRec}

theorem markDirty_engine (i : Nat) (s : State) : (markDirty i s).engine = { s.engine with
    scene := s.engine.scene.map (fun sc => if sc.source = i then { sc with dirty := true } else sc) } := by
  unfold markDirty
  split
  · next sc h =>
    split
    · next hsrc => simp [h, hsrc, State.withEngine]
    · next hsrc =>
      rw [h, Option.map_some, if_neg hsrc, ← h]
  · next h =>
    rw [h, Option.map_none, ← h]

theorem putPreset_preset_self (h : tablesCanonical s = true) : (putPreset i r s).stores.preset i = r :=
  tableGet_put_self i r ((tablesCanonical_iff s).1 h).1.presets

theorem putPreset_preset_other (h : tablesCanonical s = true) (hj : j ≠ i) :
    (putPreset i r s).stores.preset j = s.stores.preset j :=
  tableGet_put_other i j r ((tablesCanonical_iff s).1 h).1.presets hj

/-- A request that writes a preset record, in the claims' terms. -/
theorem libraryWrite_answered {t : ReqType} {tag : Byte} {res : Result} {o : Result × State} (h : tablesCanonical s = true)
    (ho : o = (res, markDirty i (putPreset i r (accepted .crew s)))) :
    carriedOut t .crew tag res [.stores, .engine] noClass s (requestAnswered t .crew tag o) ∧
      (requestAnswered t .crew tag o).stores.preset i = r ∧
      (∀ j, j ≠ i → (requestAnswered t .crew tag o).stores.preset j = s.stores.preset j) ∧
      (requestAnswered t .crew tag o).stores =
        { s.stores with presets := (requestAnswered t .crew tag o).stores.presets } ∧
      (requestAnswered t .crew tag o).engine = { s.engine with
        scene := s.engine.scene.map (fun sc => if sc.source = i then { sc with dirty := true } else sc) } := by
  refine ⟨carriedOut_silently ho changesOnly_libraryWrite (by decide), ?_⟩
  simp only [requestAnswered_stores, requestAnswered_engine, ho, markDirty_stores, markDirty_engine]
  exact ⟨putPreset_preset_self h, fun j hj => putPreset_preset_other h hj, rfl, rfl⟩

end

/-! ### PRESET_BEGIN, PRESET_END, PRESET_ERASE (R39, R44) -/

section

variable {s : State} {i k : Byte}

theorem presetBegin_of_kind {kind : Kind} (hi : i.toNat < 128) (hk : kindOf k = some kind) :
    presetBegin [i, k] s = (.ok, markDirty i.toNat (putPreset i.toNat (.filling (.default kind)) s)) := by
  simp [presetBegin, hk, hi]

theorem presetBegin_of_bad (h : 128 ≤ i.toNat ∨ (k ≠ 0 ∧ k ≠ 1)) : presetBegin [i, k] s = (.badRequest, s) := by
  cases hk : kindOf k with
  | none => simp [presetBegin, hk]
  | some kind =>
    have hi : 128 ≤ i.toNat := h.resolve_right fun ⟨h0, h1⟩ => absurd (hk.symm.trans ((if_neg h0).trans (if_neg h1))) (by simp)
    simp [presetBegin, hk, Nat.not_lt.2 hi]

theorem presetEnd_of_filling {p : Preset} (hi : i.toNat < 128) (hp : s.stores.preset i.toNat = .filling p) :
    presetEnd [i] s = (.ok, markDirty i.toNat (putPreset i.toNat (.valid p) s)) := by
  simp [presetEnd, hp, Nat.not_le.2 hi]

theorem presetEnd_of_bad (h : 128 ≤ i.toNat ∨ ∀ p, s.stores.preset i.toNat ≠ .filling p) :
    presetEnd [i] s = (.badRequest, s) := by
  by_cases hi : 128 ≤ i.toNat
  · simp [presetEnd, hi]
  · have hp := h.resolve_left hi
    cases hst : s.stores.preset i.toNat with
    | filling p => exact absurd hst (hp p)
    | empty => simp [presetEnd, hst]
    | valid p => simp [presetEnd, hst]

theorem presetErase_of_index (hi : i.toNat < 128) :
    presetErase [i] s = (.ok, markDirty i.toNat (putPreset i.toNat .empty s)) := by
  simp [presetErase, Nat.not_le.2 hi]

theorem presetErase_of_bad (hi : 128 ≤ i.toNat) : presetErase [i] s = (.badRequest, s) := by simp [presetErase, hi]

end

/-! ### PRESET_PUT (R40) -/

theorem isChainGroup_iff (code : Nat) : isChainGroup code = true ↔ 4 ≤ code ∧ code ≤ 12 := by simp [isChainGroup]

theorem groupFits_iff (kind : Kind) (code : Nat) (c : ChainId) (g : Group) : groupFits kind code c g = true ↔
    (isChainGroup code = true → c = .a ∨ kind = .dual) ∧ (∀ label k f h, g = .header label k f h → k = kind) ∧
      (∀ xs, g = .expression xs → kind = .single → ∀ x ∈ xs, x.chain = .a) := by
  have hchain : (kind == .dual || !(isChainGroup code) || c == .a) = true ↔
      (isChainGroup code = true → c = .a ∨ kind = .dual) := by
    cases isChainGroup code <;> cases kind <;> cases c <;> decide
  unfold groupFits
  rw [Bool.and_eq_true, hchain]
  refine and_congr_right fun _ => ?_
  cases g
  case header label k f h =>
    simp only [beq_iff_eq, Group.header.injEq, reduceCtorEq, false_implies, implies_true, and_true]
    exact ⟨fun hk _ _ _ _ he => he.2.1 ▸ hk, fun hk => hk label k f h ⟨rfl, rfl, rfl, rfl⟩⟩
  case expression xs =>
    simp only [Bool.or_eq_true, beq_iff_eq, List.all_eq_true, Group.expression.injEq, reduceCtorEq, false_implies,
      implies_true, true_and]
    constructor
    · rintro (rfl | hall) ys rfl
      · exact fun hk => absurd hk (by decide)
      · exact fun _ => hall
    · intro hall
      cases kind
      · exact .inr (hall xs rfl rfl)
      · exact .inl rfl
  all_goals simp

/-- The chain byte of a group that fits: A or, in a DUAL content, B for a chain group; any byte for another group. -/
theorem groupChainOf_and_fits_iff {kind : Kind} {code : Nat} {ch : Byte} {c : ChainId} {g : Group} :
    groupChainOf code ch = some c ∧ groupFits kind code c g = true ↔
      ((4 ≤ code ∧ code ≤ 12 → ch = 0 ∨ (ch = 1 ∧ kind = .dual)) ∧
        (∀ label k f h, g = .header label k f h → k = kind) ∧
        (∀ xs, g = .expression xs → kind = .single → ∀ x ∈ xs, x.chain = .a)) ∧
      c = if (4 ≤ code ∧ code ≤ 12) ∧ ch = 1 then .b else .a := by
  rw [groupFits_iff]
  by_cases hcode : 4 ≤ code ∧ code ≤ 12
  · have hgroup := (isChainGroup_iff code).2 hcode
    rw [groupChainOf, if_pos hgroup]
    simp only [hcode, hgroup, true_implies, true_and, and_self]
    by_cases h0 : ch = 0
    · subst h0
      cases c <;> simp [chainIdOf]
    · by_cases h1 : ch = 1
      · subst h1
        cases c <;> simp [chainIdOf]
      · simp only [chainIdOf, h0, h1, if_false, false_and, or_self, reduceCtorEq]
  · have hgroup : isChainGroup code = false := by
      rw [← Bool.not_eq_true, isChainGroup_iff]
      exact hcode
    simp only [groupChainOf, hgroup, hcode, Bool.false_eq_true, if_false, false_implies, true_and, false_and,
      Option.some.injEq]
    exact ⟨fun ⟨hc, hf⟩ => ⟨hf, hc.symm⟩, fun ⟨hf, hc⟩ => ⟨hc.symm, hf⟩⟩

/-- What a PRESET_PUT must find: the record FILLING, and a content that is well formed and fits it. -/
def putChecks (i : Nat) (code ch : Byte) (content : List Byte) (s : State) (p : Preset) (c : ChainId) (g : Group)
    (acted : Bool) : Prop :=
  i < 128 ∧ s.stores.preset i = .filling p ∧ groupOf code.toNat content = some (g, acted) ∧
    groupChainOf code.toNat ch = some c ∧ groupFits p.kind code.toNat c g = true

section

variable {s : State} {i code ch : Byte} {content : List Byte} {p : Preset} {c : ChainId} {g : Group} {acted : Bool}

theorem presetPut_of_checks (h : putChecks i.toNat code ch content s p c g acted) :
    presetPut (i :: code :: ch :: content) s =
      (okOr acted, markDirty i.toNat (putPreset i.toNat (.filling (p.putGroup c g)) s)) := by
  obtain ⟨hi, hp, hg, hc, hf⟩ := h
  simp [presetPut, Nat.not_le.2 hi, hp, hg, hc, hf]

theorem presetPut_of_no_checks (h : ∀ p c g acted, ¬putChecks i.toNat code ch content s p c g acted) :
    presetPut (i :: code :: ch :: content) s = (.badRequest, s) := by
  unfold presetPut
  simp only [num_one, num_cons_succ, byte1_of_toNat, List.drop_succ_cons, List.drop_zero]
  split
  · rfl
  · next hi =>
    split
    · next p c g acted hp hc hg =>
      exact if_neg fun hf => h p c g acted ⟨by omega, hp, hg, hc, hf⟩
    · rfl

end

/-! ### MAP_SET, PROFILE_PUT, INSTRUMENT_SELECT (R46, R48, R49) -/

section

variable {s : State}

theorem mapSet_of_ok {bank slot v : Byte} (hb : bank.toNat < 32) (hs : slot.toNat < 4) (hv : v.toNat < 128 ∨ v = 255) :
    mapSet [bank, slot, v] s = (.ok, s.withStores { s.stores with
      bankMap := tablePut none s.stores.bankMap (4 * bank.toNat + slot.toNat) (if v = 255 then none else some v.toNat) }) := by
  have h255 : v.toNat = 255 ↔ v = 255 := by
    rw [← BitVec.toNat_inj]
    rfl
  have hok : ¬(32 ≤ bank.toNat ∨ 4 ≤ slot.toNat ∨ (128 ≤ v.toNat ∧ v.toNat ≠ 255)) := by
    rw [Ne, h255]
    rintro (h | h | ⟨h, h'⟩)
    · omega
    · omega
    · exact hv.elim (by omega) h'
  simp only [mapSet, num_one, num_cons_succ, if_neg hok, h255]

theorem mapSet_of_bad {bank slot v : Byte} (h : ¬(bank.toNat < 32 ∧ slot.toNat < 4 ∧ (v.toNat < 128 ∨ v = 255))) :
    mapSet [bank, slot, v] s = (.badRequest, s) := by
  have h255 : v.toNat = 255 ↔ v = 255 := by
    rw [← BitVec.toNat_inj]
    rfl
  have hbad : 32 ≤ bank.toNat ∨ 4 ≤ slot.toNat ∨ (128 ≤ v.toNat ∧ v.toNat ≠ 255) := by
    rw [Ne, h255]
    by_contra hok
    push Not at hok
    obtain ⟨hb, hs, hv⟩ := hok
    refine h ⟨hb, hs, ?_⟩
    by_cases h128 : v.toNat < 128
    · exact .inl h128
    · exact .inr (hv (by omega))
  simp only [mapSet, num_one, num_cons_succ, if_pos hbad]

theorem clamp_zero (hi v : Nat) : clamp 0 hi v = min hi v := by
  rw [clamp_eq_max_min (Nat.zero_le hi), Nat.max_eq_right (Nat.zero_le _)]

section

variable {i n t1 t0 : Byte} {label notes : List Byte}

/-- The body of a PROFILE_PUT. -/
def profileBody (i : Byte) (label : List Byte) (n : Byte) (notes : List Byte) (t1 t0 : Byte) : List Byte :=
  [i] ++ label ++ [n] ++ notes ++ [t1, t0]

theorem profileBody_count (hl : label.length = 12) : num (profileBody i label n notes t1 t0) 13 1 = n.toNat := by
  have h := num_append ([i] ++ label) (n :: (notes ++ [t1, t0])) 0 1
  rw [num_one] at h
  simpa [profileBody, hl] using h

theorem profileBody_length (hl : label.length = 12) : (profileBody i label n notes t1 t0).length = 16 + notes.length := by
  simp [profileBody, hl]
  omega

theorem profileBody_label (hl : label.length = 12) : ((profileBody i label n notes t1 t0).drop 1).take 12 = label := by
  simp [profileBody, ← hl]

theorem profileBody_notes (hl : label.length = 12) :
    (profileBody i label n notes t1 t0).drop 14 = notes ++ [t1, t0] := by
  have hfront : ([i] ++ label ++ [n]).length = 14 := by simp [hl]
  rw [profileBody, ← hfront, List.append_assoc _ notes, List.drop_left]

theorem profileBody_trim (hl : label.length = 12) (hn : notes.length = n.toNat) :
    num (profileBody i label n notes t1 t0) (14 + n.toNat) 2 = 256 * t1.toNat + t0.toNat := by
  have h := num_append ([i] ++ label ++ [n] ++ notes) [t1, t0] 0 2
  rw [num_two] at h
  have hlen : ([i] ++ label ++ [n] ++ notes).length + 0 = 14 + n.toNat := by simp [hl, hn]; omega
  rwa [hlen] at h

/-- The checks of a PROFILE_PUT's body. -/
def profileOk (i n : Byte) (notes : List Byte) : Prop :=
  i.toNat < 8 ∧ 4 ≤ n.toNat ∧ n.toNat ≤ 8 ∧ notes.length = n.toNat

theorem profilePut_of_bad (hl : label.length = 12) (h : ¬profileOk i n notes) :
    profilePut (profileBody i label n notes t1 t0) s = (.badRequest, s) := by
  have hbad : 8 ≤ i.toNat ∨ (n.toNat < 4 ∨ 8 < n.toNat ∨ 16 + notes.length ≠ 16 + n.toNat) := by
    unfold profileOk at h
    omega
  unfold profilePut
  simp only [profileBody_count hl, profileBody_length hl, show num (profileBody i label n notes t1 t0) 0 1 = i.toNat from
    num_one i _]
  rcases hbad with hi | hbody
  · rw [if_pos hi]
  · rw [if_pos hbody, ite_self]

/-- The stores with a profile written, and its trim pended where the active profile's trim changes (R48). -/
def profileWritten (i : Nat) (new : Profile) (s : State) : State :=
  if i = s.stores.active ∧ new.trim ≠ (s.stores.profile i).trim then
    pendTrim new.trim (s.withStores { s.stores with profiles := tablePut .standard s.stores.profiles i new })
  else s.withStores { s.stores with profiles := tablePut .standard s.stores.profiles i new }

theorem profileWritten_stores (i : Nat) (new : Profile) (s : State) : (profileWritten i new s).stores =
    { s.stores with profiles := tablePut .standard s.stores.profiles i new } := by
  unfold profileWritten
  split <;> rfl

theorem profileWritten_frontEnd (i : Nat) (new : Profile) (s : State) : (profileWritten i new s).frontEnd =
    if i = s.stores.active ∧ new.trim ≠ (s.stores.profile i).trim then
      { s.frontEnd with pendingTrim := some new.trim } else s.frontEnd := by
  unfold profileWritten
  split <;> rfl

theorem changesOnly_profileWritten {i : Nat} {new : Profile} :
    changesOnly [.stores, .frontEnd] s (profileWritten i new s) := by
  unfold profileWritten
  split
  · exact changesOnly_withStores.comp changesOnly_pendTrim (by decide) (by decide)
  · exact changesOnly_withStores.mono (by decide)

theorem profilePut_of_ok (hl : label.length = 12) (h : profileOk i n notes) :
    profilePut (profileBody i label n notes t1 t0) s =
      if i.toNat = s.stores.active ∧ s.tuner.state ≠ .off then (.busy, s)
      else (okOr (notes.any (fun x => decide (127 < x.toNat))),
        profileWritten i.toNat ⟨label, notes.map (fun x => min 127 x.toNat), 256 * t1.toNat + t0.toNat⟩ s) := by
  obtain ⟨hi, hlo, hhi, hn⟩ := h
  have hnotes : ((profileBody i label n notes t1 t0).drop 14).take n.toNat = notes := by
    rw [profileBody_notes hl, ← hn, List.take_left]
  have hbody : ¬(n.toNat < 4 ∨ 8 < n.toNat ∨ 16 + notes.length ≠ 16 + n.toNat) := by omega
  unfold profilePut profileWritten
  simp only [profileBody_count hl, profileBody_length hl, profileBody_label hl, profileBody_trim hl hn, hnotes,
    show num (profileBody i label n notes t1 t0) 0 1 = i.toNat from num_one i _, if_neg hbody, if_neg (Nat.not_le.2 hi),
    List.map_map, List.any_map, Function.comp_def, clamp_zero]

end

theorem instrumentSelect_of_index {i : Byte} (h : 8 ≤ i.toNat) : instrumentSelect [i] s = (.badRequest, s) := by
  simp [instrumentSelect, h]

theorem instrumentSelect_of_engaged {i : Byte} (hi : i.toNat < 8) (h : s.tuner.state ≠ .off) :
    instrumentSelect [i] s = (.busy, s) := by
  simp [instrumentSelect, Nat.not_le.2 hi, h]

theorem instrumentSelect_of_off {i : Byte} (hi : i.toNat < 8) (h : s.tuner.state = .off) :
    instrumentSelect [i] s =
      (.ok, pendTrim (s.stores.profile i.toNat).trim (s.withStores { s.stores with active := i.toNat })) := by
  simp [instrumentSelect, Nat.not_le.2 hi, h]

end

/-! ### STORE (R73) and WINDOW_SET (R78) -/

section

variable {s : State}

theorem store_of_index {i : Byte} (h : 128 ≤ i.toNat) : store [i] s = (.badRequest, s) := by simp [store, h]

theorem store_of_no_scene {i : Byte} (hi : i.toNat < 128) (h : s.engine.scene = none) : store [i] s = (.noScene, s) := by
  simp [store, Nat.not_le.2 hi, h]

theorem store_of_scene {i : Byte} {sc : Scene} (hi : i.toNat < 128) (h : s.engine.scene = some sc) : store [i] s =
    (.ok, setScene { sc with source := i.toNat, dirty := false } (putPreset i.toNat (.valid sc.preset) s)) := by
  simp [store, Nat.not_le.2 hi, h]

/-- The link of a link byte (1.2 of 00_scope.md). -/
theorem linkOf_of_le {k : Byte} (h : k.toNat ≤ 2) :
    linkOf k = some (if k = 0 then .player else if k = 1 then .crew else .showControl) := by
  have hk : k = 0 ∨ k = 1 ∨ k = 2 := by
    simp only [← BitVec.toNat_inj]
    change k.toNat = 0 ∨ k.toNat = 1 ∨ k.toNat = 2
    omega
  rcases hk with rfl | rfl | rfl <;> rfl

theorem linkOf_of_two_lt {k : Byte} (h : ¬k.toNat ≤ 2) : linkOf k = none := by
  have hne (n : Byte) (hn : n.toNat ≤ 2) : k ≠ n := by
    rintro rfl
    exact h hn
  rw [linkOf, if_neg (hne 0 (by decide)), if_neg (hne 1 (by decide)), if_neg (hne 2 (by decide))]

/-- What a window must be (R77, R78). -/
def windowFits (k base size : Byte) : Prop :=
  k.toNat ≤ 2 ∧ size.toNat ∈ [1, 2, 4, 8, 16, 32] ∧ base.toNat < 32 ∧ base.toNat % size.toNat = 0

theorem windowSet_of_ok {k base size : Byte} (h : windowFits k base size) : windowSet [k, base, size] s =
    (.ok, s.withArbiter { s.arbiter with
      windows := s.arbiter.windows.set (if k = 0 then .player else if k = 1 then .crew else .showControl)
        ⟨base.toNat, size.toNat⟩ }) := by
  obtain ⟨hk, hsize, hbase, hmod⟩ := h
  have hrange : ¬(32 ≤ base.toNat ∨ base.toNat % size.toNat ≠ 0) := by omega
  simp only [windowSet, num_one, num_cons_succ, byte1_of_toNat, linkOf_of_le hk, if_neg (not_not.2 hsize), if_neg hrange]

theorem windowSet_of_bad {k base size : Byte} (h : ¬windowFits k base size) :
    windowSet [k, base, size] s = (.badRequest, s) := by
  simp only [windowSet, num_one, num_cons_succ, byte1_of_toNat]
  by_cases hk : k.toNat ≤ 2
  · simp only [linkOf_of_le hk]
    split
    · rfl
    · next hsize =>
      refine if_pos ?_
      by_contra hrange
      exact h ⟨hk, not_not.1 hsize, by omega, by omega⟩
  · simp only [linkOf_of_two_lt hk]

end

end Sys2Proof.Machine

namespace Sys2Proof.ModelStores

open Sys2Proof.Machine

/-- Settles O23: the record that each of the three writes, and their refusals. -/
theorem presetRecordsOpenCloseErase : Obligations.PresetRecordsOpenCloseErase := by
  intro s tag i k hacc htag hcanon written fresh content
  refine ⟨⟨_, exec_answered .presetBegin [i, k] hacc htag rfl (by decide) rfl rfl, ?_, ?_, ?_⟩,
    ⟨_, exec_answered .presetEnd [i] hacc htag rfl (by decide) rfl rfl, ?_, ?_⟩,
    ⟨_, exec_answered .presetErase [i] hacc htag rfl (by decide) rfl rfl, ?_, ?_⟩⟩
  · rintro hi rfl
    exact libraryWrite_answered hcanon (presetBegin_of_kind (k := 0) (kind := .single) hi rfl)
  · rintro hi rfl
    exact libraryWrite_answered hcanon (presetBegin_of_kind (k := 1) (kind := .dual) hi rfl)
  · exact fun h => refusedWith_answered (presetBegin_of_bad h)
  · exact fun p hi hp => libraryWrite_answered hcanon (presetEnd_of_filling hi hp)
  · exact fun h => refusedWith_answered (presetEnd_of_bad h)
  · exact fun hi => libraryWrite_answered hcanon (presetErase_of_index hi)
  · exact fun hi => refusedWith_answered (presetErase_of_bad hi)

/-- Settles O24: the checks of a PUT as one, by what the chain byte must be. -/
theorem presetPutWritesGroup : Obligations.PresetPutWritesGroup := by
  intro s tag i code ch content hacc htag hcanon hlo hhi
  refine ⟨_, exec_answered .presetPut (i :: code :: ch :: content) hacc htag rfl (by decide) rfl ?_, ?_⟩
  · exact lengthOk_of_mem (Nat.add_le_add_right hlo 3) (Nat.add_le_add_right hhi 3)
  intro chainGroup c fits
  constructor
  · intro p g acted hi hp hg hf
    obtain ⟨hc, hfits⟩ := groupChainOf_and_fits_iff.2 ⟨hf, rfl⟩
    exact libraryWrite_answered hcanon (presetPut_of_checks (s := accepted .crew s) ⟨hi, hp, hg, hc, hfits⟩)
  · intro h
    refine refusedWith_answered (presetPut_of_no_checks fun p c g acted ⟨hi, hp, hg, hc, hf⟩ => ?_)
    exact h ⟨p, g, acted, hi, hp, hg, (groupChainOf_and_fits_iff.1 ⟨hc, hf⟩).1⟩

/-- Settles O27: the entry, the record and the index written, and the refusals. -/
theorem mapAndProfileRequests : Obligations.MapAndProfileRequests := by
  intro s tag hacc htag hcanon
  obtain ⟨hst, -⟩ := (tablesCanonical_iff s).1 hcanon
  refine ⟨fun bank slot v => ⟨_, exec_answered .mapSet [bank, slot, v] hacc htag rfl (by decide) rfl rfl, ?_, ?_⟩,
    fun i n t1 t0 label notes hl hn => ⟨_, exec_answered .profilePut (profileBody i label n notes t1 t0) hacc htag rfl
      (by decide) rfl ?_, ?_, ?_, ?_⟩,
    fun i => ⟨_, exec_answered .instrumentSelect [i] hacc htag rfl (by decide) rfl rfl, ?_, ?_, ?_⟩⟩
  · rintro ⟨hb, hs, hv⟩
    have hset := mapSet_of_ok (s := accepted .crew s) hb hs hv
    refine ⟨carriedOut_silently hset changesOnly_withStores (by decide), ?_⟩
    simp only [requestAnswered_stores, deliver, hset]
    refine ⟨tableGet_put_self _ _ hst.bankMap, fun b r hb' hr' hne => ?_, rfl⟩
    exact tableGet_put_other _ _ _ hst.bankMap (by omega)
  · exact fun h => refusedWith_answered (mapSet_of_bad h)
  · rw [profileBody_length hl]
    exact lengthOk_of_mem (Nat.le_add_right 16 _) (Nat.add_le_add_left hn 16)
  · exact fun h => refusedWith_answered (profilePut_of_bad hl h)
  · intro h hbusy
    exact refusedWith_answered ((profilePut_of_ok (s := accepted .crew s) hl h).trans (if_pos hbusy))
  · intro h hfree
    have hput := (profilePut_of_ok (s := accepted .crew s) (t1 := t1) (t0 := t0) hl h).trans (if_neg hfree)
    refine ⟨carriedOut_silently hput changesOnly_profileWritten (by decide), ?_⟩
    simp only [requestAnswered_stores, requestAnswered_frontEnd, deliver, hput, profileWritten_stores]
    exact ⟨tableGet_put_self _ _ hst.profiles, fun j hj => tableGet_put_other _ _ _ hst.profiles hj, rfl,
      profileWritten_frontEnd _ _ _⟩
  · exact fun hi => refusedWith_answered (instrumentSelect_of_index hi)
  · exact fun hi h => refusedWith_answered (instrumentSelect_of_engaged hi h)
  · intro hi h
    have hsel := instrumentSelect_of_off (s := accepted .crew s) hi h
    refine ⟨carriedOut_silently hsel (changesOnly_withStores.comp changesOnly_pendTrim (by decide) (by decide))
      (by decide), ?_⟩
    simp only [requestAnswered_stores, requestAnswered_frontEnd, deliver, hsel]
    exact ⟨rfl, rfl⟩

end Sys2Proof.ModelStores

namespace Sys2Proof.SceneEngine

open Sys2Proof.Machine

/-- Settles O30: the record the scene becomes, and the two refusals in their order. -/
theorem storeWritesScene : Obligations.StoreWritesScene := by
  intro s tag i hacc htag hcanon
  refine ⟨_, exec_answered .store [i] hacc htag rfl (by decide) rfl rfl, ?_, ?_, ?_⟩
  · exact fun hi => refusedWith_answered (store_of_index hi)
  · exact fun hi h => refusedWith_answered (store_of_no_scene hi h)
  · intro sc hi h
    have hstore := store_of_scene (s := accepted .crew s) hi h
    refine ⟨carriedOut_silently hstore (changesOnly_withStores.comp changesOnly_setScene (by decide) (by decide))
      (by decide), ?_⟩
    simp only [requestAnswered_stores, requestAnswered_engine, deliver, hstore]
    exact ⟨putPreset_preset_self hcanon, fun j hj => putPreset_preset_other hcanon hj, rfl, rfl⟩

end Sys2Proof.SceneEngine

namespace Sys2Proof.RecallArbitration

open Sys2Proof.Machine

/-- Settles O39: the window replaced, and what is refused. -/
theorem windowSetReplacesWindow : Obligations.WindowSetReplacesWindow := by
  intro s tag k base size hacc htag
  refine ⟨_, exec_answered .windowSet [k, base, size] hacc htag rfl (by decide) rfl rfl, fun h => ?_, fun h => ?_⟩
  · have hset := windowSet_of_ok (s := accepted .crew s) h
    refine ⟨carriedOut_silently hset changesOnly_withArbiter (by decide), ?_⟩
    simp only [requestAnswered_arbiter, deliver, hset]
    rfl
  · exact refusedWith_answered (windowSet_of_bad h)

end Sys2Proof.RecallArbitration

/-! The contents of the preset groups byte by byte (R209, R41 to R43), and the bytes of a legal group read back (R207). -/

namespace Sys2Proof.Machine

/-! ### Codes and clamps -/

theorem clamp_ne_iff {lo hi : Nat} (h : lo ≤ hi) (v : Nat) : clamp lo hi v ≠ v ↔ v < lo ∨ hi < v := by
  rw [clamp_eq_max_min h]
  omega

theorem clamp_zero_ne_iff (hi v : Nat) : clamp 0 hi v ≠ v ↔ hi < v := by
  rw [clamp_zero]
  omega

theorem byte_eq_iff {a b : Byte} : a = b ↔ a.toNat = b.toNat := BitVec.toNat_inj.symm

theorem byte_le_one_iff (b : Byte) : b.toNat ≤ 1 ↔ b = 0 ∨ b = 1 := by
  rw [byte_eq_iff, byte_eq_iff]
  change b.toNat ≤ 1 ↔ b.toNat = 0 ∨ b.toNat = 1
  omega

theorem byte_le_two_iff (b : Byte) : b.toNat ≤ 2 ↔ b = 0 ∨ b = 1 ∨ b = 2 := by
  rw [byte_eq_iff, byte_eq_iff, byte_eq_iff]
  change b.toNat ≤ 2 ↔ b.toNat = 0 ∨ b.toNat = 1 ∨ b.toNat = 2
  omega

theorem kindOf_eq (k : Byte) : kindOf k = if k = 0 ∨ k = 1 then some (if k = 0 then .single else .dual) else none := by
  by_cases h0 : k = 0
  · subst h0
    rfl
  · by_cases h1 : k = 1
    · subst h1
      rfl
    · rw [kindOf, if_neg h0, if_neg h1, if_neg (not_or.2 ⟨h0, h1⟩)]

theorem sourceOf_eq (b : Byte) : sourceOf b = if b.toNat ≤ 1 then some (if b = 0 then .exp1 else .exp2) else none := by
  simp only [byte_le_one_iff]
  by_cases h0 : b = 0
  · subst h0
    rfl
  · by_cases h1 : b = 1
    · subst h1
      rfl
    · rw [sourceOf, if_neg h0, if_neg h1, if_neg (not_or.2 ⟨h0, h1⟩)]

theorem chainSelOf_eq (b : Byte) :
    chainSelOf b = if b.toNat ≤ 2 then some (if b = 0 then .a else if b = 1 then .b else .both) else none := by
  simp only [byte_le_two_iff]
  by_cases h0 : b = 0
  · subst h0
    rfl
  · by_cases h1 : b = 1
    · subst h1
      rfl
    · by_cases h2 : b = 2
      · subst h2
        rfl
      · rw [chainSelOf, if_neg h0, if_neg h1, if_neg h2, if_neg (by simp only [h0, h1, h2, or_self, not_false_iff])]

theorem delayModeOf_eq (b : Byte) :
    delayModeOf b = if b.toNat ≤ 2 then some (if b = 0 then .off else if b = 1 then .fixed else .tempo) else none := by
  simp only [byte_le_two_iff]
  by_cases h0 : b = 0
  · subst h0
    rfl
  · by_cases h1 : b = 1
    · subst h1
      rfl
    · by_cases h2 : b = 2
      · subst h2
        rfl
      · rw [delayModeOf, if_neg h0, if_neg h1, if_neg h2, if_neg (by simp only [h0, h1, h2, or_self, not_false_iff])]

theorem targetOf_eq (b : Byte) : targetOf b = if b.toNat ≤ 9 then some (targets.getD b.toNat .drivePre) else none := by
  have hlen : targets.length = 10 := rfl
  unfold targetOf
  split
  · next h => rw [List.getElem?_eq_getElem (by omega), List.getD_eq_getElem _ _ (by omega)]
  · next h => exact List.getElem?_eq_none (by omega)

/-- The sixth code names the feedback, and no other. -/
theorem targets_feedback {n : Nat} (h : n ≤ 9) : targets.getD n .drivePre = .delayFeedback ↔ n = 6 := by
  have hall : ∀ m ∈ List.range 10, targets.getD m .drivePre = .delayFeedback ↔ m = 6 := by decide
  exact hall n (List.mem_range.2 (by omega))

/-! ### Fixed contents -/

theorem groupLength_eq {code : Nat} (h : code ≤ 12) :
    groupLength code = [17, 6, 0, 3, 7, 5, 15, 15, 15, 5, 1, 11, 2].getD code 0 := by
  have hall : ∀ m ∈ List.range 13, groupLength m = [17, 6, 0, 3, 7, 5, 15, 15, 15, 5, 1, 11, 2].getD m 0 := by decide
  exact hall code (List.mem_range.2 (by omega))

theorem groupOf_of_length {code : Nat} {c : List Byte} (h : code ≤ 12) (h2 : code ≠ 2)
    (hlen : c.length ≠ [17, 6, 0, 3, 7, 5, 15, 15, 15, 5, 1, 11, 2].getD code 0) : groupOf code c = none := by
  rw [← groupLength_eq h] at hlen
  unfold groupOf
  rw [if_neg h2, if_neg fun hc => hlen hc.2]

theorem groupOf_headerBytes {label : List Byte} (hl : label.length = 12) (k f1 f0 h1 h0 : Byte) :
    groupOf 0 (label ++ [k, f1, f0, h1, h0]) =
      if k = 0 ∨ k = 1 then
        some (.header label (if k = 0 then .single else .dual) (max 32 (min 4800 (256 * f1.toNat + f0.toNat)))
            (min 10000 (256 * h1.toNat + h0.toNat)),
          decide (256 * f1.toNat + f0.toNat < 32 ∨ 4800 < 256 * f1.toNat + f0.toNat ∨ 10000 < 256 * h1.toNat + h0.toNat))
      else none := by
  have hnum (off n : Nat) : num (label ++ [k, f1, f0, h1, h0]) (12 + off) n = num [k, f1, f0, h1, h0] off n :=
    hl ▸ num_append label _ off n
  have hk : num (label ++ [k, f1, f0, h1, h0]) 12 1 = k.toNat := (hnum 0 1).trans (num_one ..)
  have hf : num (label ++ [k, f1, f0, h1, h0]) 13 2 = 256 * f1.toNat + f0.toNat := (hnum 1 2).trans (num_two ..)
  have hh : num (label ++ [k, f1, f0, h1, h0]) 15 2 = 256 * h1.toNat + h0.toNat := (hnum 3 2).trans (num_two ..)
  have htake : (label ++ [k, f1, f0, h1, h0]).take 12 = label := hl ▸ List.take_left
  rw [groupOf_header, if_pos (by simp [hl]), headerOf, hk, hf, hh, htake, byte1_of_toNat, kindOf_eq]
  simp only [clamp_ne_iff (show 32 ≤ 4800 by decide), clamp_zero_ne_iff]
  simp only [clamp_zero, clamp_eq_max_min (show 32 ≤ 4800 by decide), ← Bool.decide_or, or_assoc]
  by_cases hkind : k = 0 ∨ k = 1
  · simp only [if_pos hkind]
  · simp only [if_neg hkind]

theorem groupOf_levelsBytes (a1 a0 b1 b0 c1 c0 : Byte) : groupOf 1 [a1, a0, b1, b0, c1, c0] =
    some (.levels ⟨256 * a1.toNat + a0.toNat, 256 * b1.toNat + b0.toNat, 256 * c1.toNat + c0.toNat⟩, false) := by
  simp [groupOf_levels]

theorem groupOf_tempoBytes (f b1 b0 : Byte) : groupOf 3 [f, b1, b0] =
    if f = 0 then some (.tempo none, false)
    else if f = 1 then
      some (.tempo (some (max 2000 (min 24000 (256 * b1.toNat + b0.toNat)))),
        decide (256 * b1.toNat + b0.toNat < 2000 ∨ 24000 < 256 * b1.toNat + b0.toNat))
    else none := by
  rw [groupOf_tempo, if_pos (show [f, b1, b0].length = 3 from rfl), tempoGroupOf]
  simp only [num_one, num_cons_succ, num_two, byte1_of_toNat, flagOf, clamp_ne_iff (show 2000 ≤ 24000 by decide)]
  simp only [clamp_eq_max_min (show 2000 ≤ 24000 by decide)]
  split_ifs <;> rfl

theorem groupOf_gateBytes (o2 o1 o0 c2 c1 c0 r : Byte) :
    let o := 65536 * o2.toNat + 256 * o1.toNat + o0.toNat
    let c := 65536 * c2.toNat + 256 * c1.toNat + c0.toNat
    groupOf 4 [o2, o1, o0, c2, c1, c0, r] =
      some (.gate ⟨min 8388607 o, min (min 8388607 o) c, max 4 (min 15 r.toNat)⟩,
        decide (8388607 < o ∨ min 8388607 o < c ∨ r.toNat < 4 ∨ 15 < r.toNat)) := by
  intro o c
  rw [groupOf_gate, if_pos (show [o2, o1, o0, c2, c1, c0, r].length = 7 from rfl), gateOf]
  simp only [num_one, num_cons_succ, num_three, clamp_zero_ne_iff, clamp_ne_iff (show 4 ≤ 15 by decide)]
  simp only [clamp_zero, clamp_eq_max_min (show 4 ≤ 15 by decide), ← Bool.decide_or, or_assoc]
  rfl

theorem shaperOf_bytes (a1 a0 i b1 b0 : Byte) : shaperOf [a1, a0, i, b1, b0] =
    if i.toNat ≤ 7 then some ⟨256 * a1.toNat + a0.toNat, i.toNat, 256 * b1.toNat + b0.toNat⟩ else none := by
  simp [shaperOf]

theorem coefsOf_ofFn (b : Fin 15 → Byte) :
    let part := fun i : Fin 5 => (b ⟨3 * i.val, by omega⟩ ++ b ⟨3 * i.val + 1, by omega⟩ ++ b ⟨3 * i.val + 2, by omega⟩).toInt
    coefsOf (List.ofFn b) = ⟨part 0, part 1, part 2, part 3, part 4⟩ := by
  intro part
  have hpart (i : Fin 5) : num24 (List.ofFn b) (3 * i.val) = part i := by
    have hi := i.isLt
    rw [num24_eq (by simp; omega)]
    simp only [part, List.getD_eq_getElem?_getD, List.getElem?_ofFn]
    rw [dif_pos (by omega), dif_pos (by omega), dif_pos (by omega)]
    rfl
  rw [coefsOf, ← hpart, ← hpart, ← hpart, ← hpart, ← hpart]
  rfl

theorem groupOf_cabByte (i : Byte) : groupOf 10 [i] =
    if i.toNat ≤ 15 then some (.cab (some i.toNat), false) else if i = 255 then some (.cab none, false) else none := by
  rw [groupOf_cab, if_pos (show [i].length = 1 from rfl), num_one]
  simp only [byte_eq_iff]
  rfl

theorem groupOf_delayBytes (m l2 l1 l0 d f1 f0 y1 y0 w1 w0 : Byte) :
    let len := 65536 * l2.toNat + 256 * l1.toNat + l0.toNat
    let fb := 256 * f1.toNat + f0.toNat
    groupOf 11 [m, l2, l1, l0, d, f1, f0, y1, y0, w1, w0] =
      if m.toNat ≤ 2 ∧ d.toNat ≤ 8 then
        some (.delay ⟨if m = 0 then .off else if m = 1 then .fixed else .tempo, min 96000 len, d.toNat, min 3891 fb,
          256 * y1.toNat + y0.toNat, 256 * w1.toNat + w0.toNat⟩, decide (96000 < len ∨ 3891 < fb))
      else none := by
  intro len fb
  rw [groupOf_delay, if_pos (show [m, l2, l1, l0, d, f1, f0, y1, y0, w1, w0].length = 11 from rfl), delayOf]
  simp only [num_one, num_cons_succ, num_two, num_three, byte1_of_toNat, delayModeOf_eq, Config.feedbackMax,
    clamp_zero_ne_iff]
  simp only [clamp_zero, ← Bool.decide_or]
  by_cases hm : m.toNat ≤ 2
  · by_cases hd : d.toNat ≤ 8
    · simp only [hm, hd, if_true, and_self]
      rfl
    · simp only [hm, hd, if_true, if_false, and_false]
      rfl
  · simp only [hm, if_false, false_and]
    rfl

theorem groupOf_laneBytes (b1 b0 : Byte) : groupOf 12 [b1, b0] = some (.lane (256 * b1.toNat + b0.toNat), false) := by
  simp [groupOf_lane]

/-! ### Assignments (R42) -/

theorem assignOf_bytes (s t c l1 l0 h1 h0 : Byte) :
    let low := 256 * l1.toNat + l0.toNat
    let high := 256 * h1.toNat + h0.toNat
    assignOf [s, t, c, l1, l0, h1, h0] =
      if s.toNat ≤ 1 ∧ t.toNat ≤ 9 ∧ c.toNat ≤ 2 then
        some (⟨if s = 0 then .exp1 else .exp2, targets.getD t.toNat .drivePre,
          if c = 0 then .a else if c = 1 then .b else .both,
          if t = 6 then min 3891 low else low, if t = 6 then min 3891 high else high⟩,
          decide (t = 6 ∧ (3891 < low ∨ 3891 < high)))
      else none := by
  intro low high
  have hlow : be [l1, l0] = low := by simp [be, low]
  have hhigh : be [h1, h0] = high := by simp [be, high]
  rw [assignOf, sourceOf_eq, targetOf_eq, chainSelOf_eq]
  by_cases hs : s.toNat ≤ 1
  · by_cases ht : t.toNat ≤ 9
    · by_cases hc : c.toNat ≤ 2
      · have h6 : targets.getD t.toNat .drivePre = .delayFeedback ↔ t = 6 := by
          rw [targets_feedback ht, byte_eq_iff]
          rfl
        simp only [hs, ht, hc, if_true, and_self, hlow, hhigh, h6, Config.feedbackMax, Nat.min_comm _ 3891]
        by_cases hfb : t = 6
        · simp only [hfb, if_true, true_and, Bool.decide_or]
        · simp only [hfb, if_false, false_and, decide_false]
      · simp only [hs, ht, hc, if_true, if_false, and_false]
    · simp only [hs, ht, if_true, if_false, false_and, and_false]
  · simp only [hs, if_false, false_and]

theorem anyClash_eq_false_iff (xs : List Assign) : anyClash xs = false ↔ xs.Pairwise (fun x y =>
    ¬(x.target = y.target ∧
      (x.target = .fohLevel ∨ x.target = .monLevel ∨ x.target = .ampLevel ∨ x.chain = y.chain ∨ x.chain = .both ∨
        y.chain = .both))) := by
  have hclash (x y : Assign) : assignsClash x y = true ↔ x.target = y.target ∧
      (x.target = .fohLevel ∨ x.target = .monLevel ∨ x.target = .ampLevel ∨ x.chain = y.chain ∨ x.chain = .both ∨
        y.chain = .both) := by
    have hwide : x.target.sceneWide = true ↔ x.target = .fohLevel ∨ x.target = .monLevel ∨ x.target = .ampLevel := by
      cases x.target <;> decide
    simp only [assignsClash, Bool.and_eq_true, Bool.or_eq_true, beq_iff_eq, hwide, or_assoc]
  induction xs with
  | nil => simp [anyClash]
  | cons x xs ih =>
    rw [List.pairwise_cons, anyClash, Bool.or_eq_false_iff, List.any_eq_false]
    simp only [hclash]
    exact and_congr_right fun _ => ih

theorem length_flatten_sevens {xs : List (List Byte)} (h : ∀ x ∈ xs, x.length = 7) : xs.flatten.length = 7 * xs.length := by
  induction xs with
  | nil => rfl
  | cons x xs ih =>
    rw [List.flatten_cons, List.length_append, h x List.mem_cons_self, ih fun y hy => h y (List.mem_cons_of_mem _ hy),
      List.length_cons]
    omega

theorem assignsOf_flatten {xs : List (List Byte)} (h : ∀ x ∈ xs, x.length = 7) : assignsOf xs.length xs.flatten =
    if ∀ x ∈ xs, (assignOf x).isSome = true then
      some (xs.filterMap (fun x => (assignOf x).map Prod.fst), xs.any (fun x => (assignOf x).any Prod.snd))
    else none := by
  induction xs with
  | nil => rfl
  | cons x xs ih =>
    have hx := h x List.mem_cons_self
    have htake : (x :: xs).flatten.take 7 = x := by rw [List.flatten_cons, ← hx, List.take_left]
    have hdrop : (x :: xs).flatten.drop 7 = xs.flatten := by rw [List.flatten_cons, ← hx, List.drop_left]
    rw [List.length_cons, assignsOf, htake, hdrop, ih fun y hy => h y (List.mem_cons_of_mem _ hy)]
    simp only [List.forall_mem_cons]
    cases hone : assignOf x with
    | none => simp
    | some y =>
      by_cases hall : ∀ z ∈ xs, (assignOf z).isSome = true
      · rw [if_pos hall, if_pos ⟨rfl, hall⟩]
        simp [hone]
      · rw [if_neg hall, if_neg fun hc => hall hc.2]

theorem groupOf_expressionBytes {n : Byte} {xs : List (List Byte)} (hn : xs.length = n.toNat)
    (h : ∀ x ∈ xs, x.length = 7) : groupOf 2 (n :: xs.flatten) =
      if n.toNat ≤ 4 ∧ (∀ x ∈ xs, (assignOf x).isSome = true) ∧
          (xs.filterMap (fun x => (assignOf x).map Prod.fst)).Pairwise (fun x y =>
            ¬(x.target = y.target ∧
              (x.target = .fohLevel ∨ x.target = .monLevel ∨ x.target = .ampLevel ∨ x.chain = y.chain ∨ x.chain = .both ∨
                y.chain = .both))) then
        some (.expression (xs.filterMap (fun x => (assignOf x).map Prod.fst)),
          xs.any (fun x => (assignOf x).any Prod.snd))
      else none := by
  have hlen : (n :: xs.flatten).length = 1 + 7 * n.toNat := by
    rw [List.length_cons, length_flatten_sevens h, hn]
    omega
  rw [groupOf_expression, expressionOf]
  simp only [num_one, hlen, true_and, List.drop_succ_cons, List.drop_zero, ← anyClash_eq_false_iff]
  rw [← hn, assignsOf_flatten h]
  by_cases h4 : xs.length ≤ 4
  · by_cases hall : ∀ x ∈ xs, (assignOf x).isSome = true
    · simp only [h4, if_true, true_and]
      rw [if_pos hall]
      cases hclash : anyClash (xs.filterMap (fun x => (assignOf x).map Prod.fst))
      · rw [if_pos ⟨hall, rfl⟩]
        simp only [hclash, Bool.false_eq_true, if_false]
      · rw [if_neg fun hc => Bool.noConfusion hc.2]
        simp only [hclash, if_true]
    · simp only [h4, if_true, true_and]
      rw [if_neg hall, if_neg fun hc => hall hc.1]
  · rw [if_neg h4, if_neg fun hc => h4 hc.1]

theorem groupOf_expression_of_length {n : Byte} {c : List Byte} (h : c.length ≠ 7 * n.toNat) : groupOf 2 (n :: c) = none := by
  rw [groupOf_expression, expressionOf]
  refine if_neg fun hc => h ?_
  rw [num_one, List.length_cons] at hc
  omega

end Sys2Proof.Machine

namespace Sys2Proof.ModelStores

open Sys2Proof.Machine

/-- Settles O25: code by code. -/
theorem groupContents : Obligations.GroupContents := by
  refine ⟨fun code c h => groupOf_of_twelve_lt c h, fun code c h h2 hlen => groupOf_of_length h h2 hlen,
    fun label k f1 f0 h1 h0 hl => groupOf_headerBytes hl k f1 f0 h1 h0, groupOf_levelsBytes, groupOf_tempoBytes,
    groupOf_gateBytes, ?_, ?_, groupOf_cabByte, groupOf_delayBytes, groupOf_laneBytes, assignOf_bytes,
    fun n xs hn h => groupOf_expressionBytes hn h, fun n c h => groupOf_expression_of_length h⟩
  · intro a1 a0 i b1 b0 v
    rw [groupOf_drive, groupOf_power, shaperOf_bytes]
    by_cases hi : i.toNat ≤ 7
    · simp only [hi, if_true]
      exact ⟨rfl, rfl⟩
    · simp only [hi, if_false]
      exact ⟨rfl, rfl⟩
  · intro b part v
    rw [groupOf_tone1, groupOf_tone2, groupOf_tone3, if_pos List.length_ofFn, if_pos List.length_ofFn,
      if_pos List.length_ofFn, coefsOf_ofFn]
    exact ⟨rfl, rfl, rfl⟩

end Sys2Proof.ModelStores

/-! The bytes of a legal preset's groups, sent back, are those groups with no clamp acting (R207, R209). -/

namespace Sys2Proof.Machine

/-! ### Numbers read back -/

theorem oneByte_toNat {n : Nat} (h : n < 256) : (byte1 n).toNat = n := by
  rw [byte1_toNat]
  omega

theorem twoBytes_toNat {n : Nat} (h : n < 65536) : 256 * (byte1 (n / 256)).toNat + (byte1 n).toNat = n := by
  rw [byte1_toNat, byte1_toNat]
  omega

theorem threeBytes_read {n : Nat} (h : n < 16777216) :
    65536 * (byte1 (n / 65536)).toNat + 256 * (byte1 (n / 256)).toNat + (byte1 n).toNat = n := by
  rw [byte1_toNat, byte1_toNat, byte1_toNat]
  omega

theorem num24_signed3 {v : Int} (h : coef24 v = true) (rest : List Byte) : num24 (signed3 v ++ rest) 0 = v := by
  rw [coef24, Bool.and_eq_true, decide_eq_true_eq, decide_eq_true_eq] at h
  have hnum : num (signed3 v ++ rest) 0 3 = (BitVec.ofInt 24 v).toNat :=
    (num_three _ _ _ rest).trans (threeBytes_read (BitVec.ofInt 24 v).isLt)
  rw [num24, hnum, BitVec.ofNat_toNat, BitVec.setWidth_eq]
  exact BitVec.toInt_ofInt_eq_self (by decide) h.1 (Int.lt_of_le_sub_one h.2)

theorem num24_signed3_skip (v : Int) (rest : List Byte) (off : Nat) :
    num24 (signed3 v ++ rest) (off + 3) = num24 rest off := rfl

theorem coefsOf_coefs_bytes {v : Coefs} (h : v.legal = true) : coefsOf v.bytes = v := by
  simp only [Coefs.legal, Bool.and_eq_true] at h
  obtain ⟨⟨⟨⟨h0, h1⟩, h2⟩, h3⟩, h4⟩ := h
  have hbytes : v.bytes =
      signed3 v.b0 ++ (signed3 v.b1 ++ (signed3 v.b2 ++ (signed3 v.a1 ++ (signed3 v.a2 ++ [])))) := by
    simp only [Coefs.bytes, List.append_assoc, List.append_nil]
  rw [coefsOf, hbytes, num24_signed3 h0, num24_signed3_skip _ _ 0, num24_signed3 h1, num24_signed3_skip _ _ 3,
    num24_signed3_skip _ _ 0, num24_signed3 h2, num24_signed3_skip _ _ 6, num24_signed3_skip _ _ 3,
    num24_signed3_skip _ _ 0, num24_signed3 h3, num24_signed3_skip _ _ 9, num24_signed3_skip _ _ 6,
    num24_signed3_skip _ _ 3, num24_signed3_skip _ _ 0, num24_signed3 h4]

theorem level16_lt {v : Nat} (h : level16 v = true) : v < 65536 := by simpa [level16] using h

theorem shaperOf_shaper_bytes {v : Shaper} (h : v.legal = true) : shaperOf v.bytes = some v := by
  simp only [Shaper.legal, Bool.and_eq_true, decide_eq_true_eq] at h
  obtain ⟨⟨hpre, hcurve⟩, hpost⟩ := h
  have hbytes : v.bytes = [byte1 (v.pre / 256), byte1 v.pre, byte1 v.curve, byte1 (v.post / 256), byte1 v.post] := rfl
  rw [hbytes, shaperOf_bytes, oneByte_toNat (by omega), if_pos hcurve, twoBytes_toNat (level16_lt hpre),
    twoBytes_toNat (level16_lt hpost)]

theorem sourceOf_code (x : Source) : sourceOf x.code = some x := by cases x <;> rfl
theorem targetOf_code (x : Target) : targetOf x.code = some x := by cases x <;> rfl
theorem chainSelOf_code (x : ChainSel) : chainSelOf x.code = some x := by cases x <;> rfl

theorem assignOf_assign_bytes {kind : Kind} {x : Assign} (h : x.legal kind = true) : assignOf x.bytes = some (x, false) := by
  obtain ⟨⟨hlow, hhigh, hfeedback⟩, -⟩ := (x.legal_iff kind).1 h
  have hbytes : x.bytes = [x.source.code, x.target.code, x.chain.code, byte1 (x.low / 256), byte1 x.low,
    byte1 (x.high / 256), byte1 x.high] := rfl
  have hlow' : be [byte1 (x.low / 256), byte1 x.low] = x.low := by simpa [be] using twoBytes_toNat (level16_lt hlow)
  have hhigh' : be [byte1 (x.high / 256), byte1 x.high] = x.high := by simpa [be] using twoBytes_toNat (level16_lt hhigh)
  simp only [hbytes, assignOf, sourceOf_code, targetOf_code, chainSelOf_code, hlow', hhigh']
  split
  · next ht =>
    obtain ⟨hl, hh⟩ := hfeedback ht
    rw [Nat.min_eq_left hl, Nat.min_eq_left hh, decide_eq_false (Nat.not_lt.2 hl), decide_eq_false (Nat.not_lt.2 hh)]
    rfl
  · rfl

/-! ### A group of a preset -/

/-- The group of a code in a preset's content, of the named chain for a chain group (R38). -/
def Preset.group (p : Preset) (code : Nat) (c : ChainId) : Group :=
  match code with
  | 0 => .header p.label p.kind p.fade p.tailHold
  | 1 => .levels p.levels
  | 2 => .expression p.expression
  | 3 => .tempo p.tempo
  | 4 => .gate (p.chain c).gate
  | 5 => .drive (p.chain c).drive
  | 6 => .tone1 (p.chain c).tone1
  | 7 => .tone2 (p.chain c).tone2
  | 8 => .tone3 (p.chain c).tone3
  | 9 => .power (p.chain c).power
  | 10 => .cab (p.chain c).cab
  | 11 => .delay (p.chain c).delay
  | _ => .lane (p.chain c).level

section

variable {p : Preset} {c : ChainId}

/-- Writing a chain that is there over itself changes nothing. -/
theorem Preset.setChain_chain (h : c = .b → p.chainB.isSome = true) : p.setChain c (p.chain c) = p := by
  cases c
  case a => rfl
  case b =>
    obtain ⟨x, hx⟩ := Option.isSome_iff_exists.1 (h rfl)
    rw [Preset.setChain, Preset.chain, hx, Option.map_some, Option.getD_some, ← hx]

/-- A group that writes a chain by f replaces that chain, and nothing else. -/
theorem Preset.putGroup_of_chain {g : Group} {f : Chain → Chain}
    (h : ∀ (p : Preset) c, p.putGroup c g = p.setChain c (f (p.chain c))) (p : Preset) :
    p.putGroup .a g = { p with chainA := f p.chainA } ∧
      ∀ b, p.chainB = some b → p.putGroup .b g = { p with chainB := some (f b) } := by
  refine ⟨h p .a, fun b hb => ?_⟩
  rw [h p .b, Preset.setChain, Preset.chain, hb]
  rfl

/-- Writing a group of a preset over itself changes nothing. -/
theorem Preset.putGroup_group {code : Nat} (hcode : code ≤ 12) (h : c = .b → p.chainB.isSome = true) :
    p.putGroup c (p.group code c) = p := by
  interval_cases code
  · rfl
  · rfl
  · rfl
  · rfl
  all_goals exact Preset.setChain_chain h

theorem Preset.group_fits (hp : p.Legal) {code : Nat} (hcode : code ≤ 12) (h : c = .b → p.kind = .dual) :
    groupFits p.kind code c (p.group code c) = true := by
  refine (groupFits_iff ..).2 ⟨fun _ => ?_, fun label k f t he => ?_, fun xs he hk x hx => ?_⟩
  · cases c
    · exact .inl rfl
    · exact .inr (h rfl)
  · interval_cases code
    · cases he
      rfl
    all_goals exact absurd he (by simp [Preset.group])
  · interval_cases code
    pick_goal 3
    · cases he
      exact ((x.legal_iff _).1 (hp.assigns x hx)).2 hk
    all_goals exact absurd he (by simp [Preset.group])

/-! ### Each group read back -/

theorem header_reads_back (hp : p.Legal) : groupOf 0 (p.groupBytes 0 c) = some (p.group 0 c, false) := by
  have hbytes : p.groupBytes 0 c = p.label ++
      [p.kind.code, byte1 (p.fade / 256), byte1 p.fade, byte1 (p.tailHold / 256), byte1 p.tailHold] := by
    simp [Preset.groupBytes, byte2]
  have hhi := hp.fadeHi
  have hlo := hp.fadeLo
  have hhold := hp.tailHold
  have hkind : p.kind.code = 0 ∨ p.kind.code = 1 := by cases p.kind <;> decide
  have hk : (if p.kind.code = 0 then Kind.single else Kind.dual) = p.kind := by cases p.kind <;> rfl
  rw [hbytes, groupOf_headerBytes hp.label, if_pos hkind, hk, twoBytes_toNat (by omega), twoBytes_toNat (by omega),
    Nat.min_eq_right hhi, Nat.max_eq_right hlo, Nat.min_eq_right hhold, decide_eq_false (by omega)]
  rfl

theorem levels_read_back (hp : p.Legal) : groupOf 1 (p.groupBytes 1 c) = some (p.group 1 c, false) := by
  have hbytes : p.groupBytes 1 c = [byte1 (p.levels.foh / 256), byte1 p.levels.foh, byte1 (p.levels.mon / 256),
    byte1 p.levels.mon, byte1 (p.levels.amp / 256), byte1 p.levels.amp] := rfl
  rw [hbytes, groupOf_levelsBytes, twoBytes_toNat (level16_lt hp.foh), twoBytes_toNat (level16_lt hp.mon),
    twoBytes_toNat (level16_lt hp.amp)]
  rfl

theorem expression_reads_back (hp : p.Legal) : groupOf 2 (p.groupBytes 2 c) = some (p.group 2 c, false) := by
  have hfew := hp.few
  have hread (x : Assign) (hx : x ∈ p.expression) : assignOf x.bytes = some (x, false) :=
    assignOf_assign_bytes (hp.assigns x hx)
  have hlen : (p.expression.map Assign.bytes).length = (byte1 p.expression.length).toNat := by
    rw [List.length_map, oneByte_toNat (by omega)]
  have hsevens : ∀ b ∈ p.expression.map Assign.bytes, b.length = 7 := by
    intro b hb
    obtain ⟨x, -, rfl⟩ := List.mem_map.1 hb
    rfl
  have hsome : ∀ b ∈ p.expression.map Assign.bytes, (assignOf b).isSome = true := by
    intro b hb
    obtain ⟨x, hx, rfl⟩ := List.mem_map.1 hb
    rw [hread x hx]
    rfl
  have hxs : (p.expression.map Assign.bytes).filterMap (fun b => (assignOf b).map Prod.fst) = p.expression := by
    rw [List.filterMap_map]
    calc p.expression.filterMap ((fun b => (assignOf b).map Prod.fst) ∘ Assign.bytes)
        = p.expression.filterMap some := List.filterMap_congr fun x hx => by simp [hread x hx]
      _ = p.expression := List.filterMap_some
  have hacted : (p.expression.map Assign.bytes).any (fun b => (assignOf b).any Prod.snd) = false := by
    rw [List.any_eq_false]
    intro b hb
    obtain ⟨x, hx, rfl⟩ := List.mem_map.1 hb
    simp [hread x hx]
  have hbytes : p.groupBytes 2 c = byte1 p.expression.length :: (p.expression.map Assign.bytes).flatten := rfl
  rw [hbytes, groupOf_expressionBytes hlen hsevens, hxs, hacted, ← hlen, List.length_map,
    if_pos ⟨hfew, hsome, (anyClash_eq_false_iff _).1 hp.noClash⟩]
  rfl

theorem tempo_reads_back (hp : p.Legal) : groupOf 3 (p.groupBytes 3 c) = some (p.group 3 c, false) := by
  have hbytes : p.groupBytes 3 c =
      [flagByte p.tempo.isSome, byte1 (p.tempo.getD 0 / 256), byte1 (p.tempo.getD 0)] := rfl
  rw [hbytes, groupOf_tempoBytes]
  change _ = some (Group.tempo p.tempo, false)
  cases ht : p.tempo with
  | none => rfl
  | some b =>
    obtain ⟨hlo, hhi⟩ := hp.tempo b ht
    have hflag : flagByte (some b).isSome = 1 := rfl
    rw [Option.getD_some, twoBytes_toNat (by omega), hflag, if_neg (by decide), if_pos rfl, Nat.min_eq_right hhi,
      Nat.max_eq_right hlo, decide_eq_false (by omega)]

theorem gate_reads_back (hc : (p.chain c).Legal) : groupOf 4 (p.groupBytes 4 c) = some (p.group 4 c, false) := by
  have hopen := hc.openAt
  have hclose := hc.closeAt
  have hlo := hc.releaseLo
  have hhi := hc.releaseHi
  have hbytes : p.groupBytes 4 c = [byte1 ((p.chain c).gate.openAt / 65536), byte1 ((p.chain c).gate.openAt / 256),
    byte1 (p.chain c).gate.openAt, byte1 ((p.chain c).gate.closeAt / 65536), byte1 ((p.chain c).gate.closeAt / 256),
    byte1 (p.chain c).gate.closeAt, byte1 (p.chain c).gate.release] := rfl
  rw [hbytes, groupOf_gateBytes, threeBytes_read (by omega), threeBytes_read (by omega), oneByte_toNat (by omega),
    Nat.min_eq_right hopen, Nat.min_eq_right hclose, Nat.min_eq_right hhi, Nat.max_eq_right hlo,
    decide_eq_false (by omega)]
  rfl

theorem cab_reads_back (hc : (p.chain c).Legal) : groupOf 10 (p.groupBytes 10 c) = some (p.group 10 c, false) := by
  have hbytes : p.groupBytes 10 c = [indexByte (p.chain c).cab] := rfl
  rw [hbytes, groupOf_cabByte]
  change _ = some (Group.cab (p.chain c).cab, false)
  cases hcab : (p.chain c).cab with
  | none => rfl
  | some i =>
    have hi := hc.cab i hcab
    rw [indexByte, oneByte_toNat (by omega), if_pos hi]

theorem delay_reads_back (hc : (p.chain c).Legal) : groupOf 11 (p.groupBytes 11 c) = some (p.group 11 c, false) := by
  have hlength := hc.fixedLength
  have hdivision := hc.division
  have hfeedback : (p.chain c).delay.feedback ≤ 3891 := hc.feedback
  have hbytes : p.groupBytes 11 c = [(p.chain c).delay.mode.code, byte1 ((p.chain c).delay.fixedLength / 65536),
    byte1 ((p.chain c).delay.fixedLength / 256), byte1 (p.chain c).delay.fixedLength, byte1 (p.chain c).delay.division,
    byte1 ((p.chain c).delay.feedback / 256), byte1 (p.chain c).delay.feedback, byte1 ((p.chain c).delay.dry / 256),
    byte1 (p.chain c).delay.dry, byte1 ((p.chain c).delay.wet / 256), byte1 (p.chain c).delay.wet] := rfl
  have hmode : (p.chain c).delay.mode.code.toNat ≤ 2 := by cases (p.chain c).delay.mode <;> decide
  have hm : (if (p.chain c).delay.mode.code = 0 then DelayMode.off
      else if (p.chain c).delay.mode.code = 1 then .fixed else .tempo) = (p.chain c).delay.mode := by
    cases (p.chain c).delay.mode <;> rfl
  rw [hbytes, groupOf_delayBytes, threeBytes_read (by omega), oneByte_toNat (by omega), twoBytes_toNat (by omega),
    twoBytes_toNat (level16_lt hc.dry), twoBytes_toNat (level16_lt hc.wet), if_pos ⟨hmode, hdivision⟩, hm,
    Nat.min_eq_right hlength, Nat.min_eq_right hfeedback, decide_eq_false (by omega)]
  rfl

theorem lane_reads_back (hc : (p.chain c).Legal) : groupOf 12 (p.groupBytes 12 c) = some (p.group 12 c, false) := by
  have hbytes : p.groupBytes 12 c = [byte1 ((p.chain c).level / 256), byte1 (p.chain c).level] := rfl
  rw [hbytes, groupOf_laneBytes, twoBytes_toNat (level16_lt hc.level)]
  rfl

/-- The bytes of a group of a legal preset are that group, and no clamp acts. -/
theorem groupOf_groupBytes (hp : p.Legal) {code : Nat} (hcode : code ≤ 12) :
    groupOf code (p.groupBytes code c) = some (p.group code c, false) := by
  have hc := hp.chain c
  interval_cases code
  · exact header_reads_back hp
  · exact levels_read_back hp
  · exact expression_reads_back hp
  · exact tempo_reads_back hp
  · exact gate_reads_back hc
  · have hbytes : p.groupBytes 5 c = (p.chain c).drive.bytes := rfl
    rw [hbytes, groupOf_drive, if_pos (show (p.chain c).drive.bytes.length = 5 from rfl), shaperOf_shaper_bytes hc.drive]
    rfl
  · exact (groupOf_tone1 _).trans (congrArg (fun v => some (Group.tone1 v, false)) (coefsOf_coefs_bytes hc.tone1))
  · exact (groupOf_tone2 _).trans (congrArg (fun v => some (Group.tone2 v, false)) (coefsOf_coefs_bytes hc.tone2))
  · exact (groupOf_tone3 _).trans (congrArg (fun v => some (Group.tone3 v, false)) (coefsOf_coefs_bytes hc.tone3))
  · have hbytes : p.groupBytes 9 c = (p.chain c).power.bytes := rfl
    rw [hbytes, groupOf_power, if_pos (show (p.chain c).power.bytes.length = 5 from rfl), shaperOf_shaper_bytes hc.power]
    rfl
  · exact cab_reads_back hc
  · exact delay_reads_back hc
  · exact lane_reads_back hc

end

end Sys2Proof.Machine

namespace Sys2Proof.ModelStores

open Sys2Proof.Machine

/-- Settles O26: what `putGroup` replaces, and every group of a legal preset read back. -/
theorem groupBytesReadBack : Obligations.GroupBytesReadBack := by
  refine ⟨fun p c => ⟨fun _ _ _ _ => rfl, fun _ => rfl, fun _ => rfl, fun _ => rfl⟩, ?_, fun p code c hp hcode hdual => ?_⟩
  · intro replaces
    refine ⟨fun v => ?_, fun v => ?_, fun v => ?_, fun v => ?_, fun v => ?_, fun v => ?_, fun v => ?_, fun v => ?_, fun v => ?_⟩
    · exact Preset.putGroup_of_chain (f := fun x => { x with gate := v }) fun _ _ => rfl
    · exact Preset.putGroup_of_chain (f := fun x => { x with drive := v }) fun _ _ => rfl
    · exact Preset.putGroup_of_chain (f := fun x => { x with tone1 := v }) fun _ _ => rfl
    · exact Preset.putGroup_of_chain (f := fun x => { x with tone2 := v }) fun _ _ => rfl
    · exact Preset.putGroup_of_chain (f := fun x => { x with tone3 := v }) fun _ _ => rfl
    · exact Preset.putGroup_of_chain (f := fun x => { x with power := v }) fun _ _ => rfl
    · exact Preset.putGroup_of_chain (f := fun x => { x with cab := v }) fun _ _ => rfl
    · exact Preset.putGroup_of_chain (f := fun x => { x with delay := v }) fun _ _ => rfl
    · exact Preset.putGroup_of_chain (f := fun x => { x with level := v }) fun _ _ => rfl
  · have hlegal := p.legal_iff.1 hp
    exact ⟨p.group code c, groupOf_groupBytes hlegal hcode, Preset.group_fits hlegal hcode hdual,
      Preset.putGroup_group hcode fun hc => hlegal.dual.1 (hdual hc)⟩

end Sys2Proof.ModelStores

/-! What is written toward the lanes: targets of parameter and pending sets, effective values (R98, R54), PEDAL (R97), EDIT
(R70, R71, R101). -/

namespace Sys2Proof.Machine

/-! ### Targets -/

section

variable (p : PendingSet) (q : Params) (t : Target) (v : Nat)

theorem PendingSet.target_setTarget_self : (p.setTarget t v).target t = some v := by cases t <;> rfl

theorem PendingSet.target_setTarget_of_ne {τ : Target} (h : τ ≠ t) : (p.setTarget t v).target τ = p.target τ := by
  cases t <;> cases τ <;> first | rfl | exact absurd rfl h

theorem PendingSet.untargeted_setTarget : (p.setTarget t v).untargeted = p.untargeted := by cases t <;> rfl

theorem Params.target_setTarget_self : (q.setTarget t v).target t = v := by cases t <;> rfl

theorem Params.target_setTarget_of_ne {τ : Target} (h : τ ≠ t) : (q.setTarget t v).target τ = q.target τ := by
  cases t <;> cases τ <;> first | rfl | exact absurd rfl h

/-- A parameter set without the values of targets. -/
def Params.untargeted (p : Params) :=
  (p.chain.gate, p.chain.drive.curve, p.chain.tone1, p.chain.tone2, p.chain.tone3, p.chain.power.curve, p.chain.cab,
    p.chain.delay.mode, p.chain.delay.fixedLength, p.chain.delay.division, p.chain.delay.dry)

theorem Params.untargeted_setTarget : (q.setTarget t v).untargeted = q.untargeted := by cases t <;> rfl

end

/-- What holds of a start and is kept by each step holds after a list of steps. -/
theorem foldl_keeps {α β γ : Type} {step : α → β → α} {f : α → γ} (h : ∀ a b, f (step a b) = f a) (xs : List β) (a : α) :
    f (xs.foldl step a) = f a := by
  induction xs generalizing a with
  | nil => rfl
  | cons x xs ih => exact (ih _).trans (h _ _)

section

/-! A list of assigned values written in order, into a parameter set or a pending set. -/

variable {α β : Type} {set : α → Target → Nat → α} {get : α → Target → β} {val : Nat → β}

theorem foldl_target_of_not_named (hother : ∀ a t v τ, τ ≠ t → get (set a t v) τ = get a τ) {τ : Target}
    {zs : List (Assign × Nat)} (h : ∀ z ∈ zs, z.1.target ≠ τ) (a : α) :
    get (zs.foldl (fun p z => set p z.1.target z.2) a) τ = get a τ := by
  induction zs generalizing a with
  | nil => rfl
  | cons z zs ih =>
    exact (ih (fun w hw => h w (List.mem_cons_of_mem _ hw)) _).trans (hother _ _ _ _ (h z List.mem_cons_self).symm)

theorem foldl_target_of_named (hself : ∀ a t v, get (set a t v) t = val v)
    (hother : ∀ a t v τ, τ ≠ t → get (set a t v) τ = get a τ) {τ : Target} {v : Nat} {zs : List (Assign × Nat)}
    (hval : ∀ z ∈ zs, z.1.target = τ → z.2 = v) (hex : ∃ z ∈ zs, z.1.target = τ) (a : α) :
    get (zs.foldl (fun p z => set p z.1.target z.2) a) τ = val v := by
  induction zs generalizing a with
  | nil =>
    obtain ⟨z, hz, -⟩ := hex
    exact absurd hz List.not_mem_nil
  | cons z zs ih =>
    by_cases hlater : ∃ w ∈ zs, w.1.target = τ
    · exact ih (fun w hw => hval w (List.mem_cons_of_mem _ hw)) hlater _
    · push Not at hlater
      obtain ⟨w, hw, hτ⟩ := hex
      have hz : z.1.target = τ := by
        rcases List.mem_cons.1 hw with rfl | hw
        · exact hτ
        · exact absurd hτ (hlater w hw)
      rw [List.foldl_cons, foldl_target_of_not_named hother hlater, hz, hself, hval z List.mem_cons_self hz]

end

/-- Targets taken in order, each written its value where it has one. -/
theorem foldl_targets_target (w : Target → Option Nat) (τ : Target) (ts : List Target) (p : PendingSet) :
    (ts.foldl (fun p t => (w t).elim p (p.setTarget t)) p).target τ =
      if τ ∈ ts ∧ (w τ).isSome = true then w τ else p.target τ := by
  induction ts generalizing p with
  | nil => simp
  | cons t ts ih =>
    rw [List.foldl_cons, ih]
    by_cases hlater : τ ∈ ts ∧ (w τ).isSome = true
    · rw [if_pos hlater, if_pos ⟨List.mem_cons_of_mem _ hlater.1, hlater.2⟩]
    · rw [if_neg hlater]
      cases hw : w τ with
      | none =>
        rw [if_neg fun h => absurd h.2 (by simp)]
        cases ht : w t with
        | none => rfl
        | some v =>
          refine PendingSet.target_setTarget_of_ne _ _ _ fun he => ?_
          rw [← he, hw] at ht
          exact absurd ht (by simp)
      | some v =>
        have hts : τ ∉ ts := fun h => hlater ⟨h, by rw [hw]; rfl⟩
        by_cases he : τ = t
        · subst he
          rw [if_pos ⟨List.mem_cons_self, rfl⟩, hw]
          exact PendingSet.target_setTarget_self _ _ _
        · rw [if_neg fun h => (List.mem_cons.1 h.1).elim he hts]
          cases ht : w t with
          | none => rfl
          | some u => exact PendingSet.target_setTarget_of_ne _ _ _ he

/-! ### One assignment for a target on a chain (R42) -/

theorem Assign.clash_of_onChain {x y : Assign} {c : ChainId} (hx : x.onChain c = true) (hy : y.onChain c = true)
    (ht : x.target = y.target) : assignsClash x y = true := by
  have hchain : x.target.sceneWide = true ∨ x.chain = y.chain ∨ x.chain = .both ∨ y.chain = .both := by
    simp only [Assign.onChain, ← ht, Bool.or_eq_true, Bool.and_eq_true, beq_iff_eq] at hx hy
    cases hwide : x.target.sceneWide
    · simp only [hwide, Bool.false_eq_true, false_or] at hx hy
      refine .inr ?_
      cases c
      all_goals
        simp only [reduceCtorEq, and_true, and_false, or_false] at hx hy
        rcases hx with hx | hx
        · exact .inr (.inl hx)
        · rcases hy with hy | hy
          · exact .inr (.inr hy)
          · exact .inl (hx.trans hy.symm)
    · exact .inl rfl
  simp only [assignsClash, Bool.and_eq_true, Bool.or_eq_true, beq_iff_eq, or_assoc]
  exact ⟨ht, hchain⟩

/-- Of a list without clash and the values zipped with it, one pair names a target on a chain. -/
theorem assigned_unique {xs : List Assign} {vs : List Nat} (hclash : anyClash xs = false) (hlen : vs.length = xs.length)
    {c : ChainId} {z w : Assign × Nat} (hz : z ∈ xs.zip vs) (hw : w ∈ xs.zip vs) (hzc : z.1.onChain c = true)
    (hwc : w.1.onChain c = true) (ht : z.1.target = w.1.target) : z = w := by
  have hpair : ∀ {ys : List Assign}, anyClash ys = false → ys.Pairwise (fun x y => assignsClash x y = false) := by
    intro ys
    induction ys with
    | nil => exact fun _ => List.Pairwise.nil
    | cons y ys ih =>
      intro h
      rw [anyClash, Bool.or_eq_false_iff, List.any_eq_false] at h
      exact List.pairwise_cons.2 ⟨fun x hx => by simpa using h.1 x hx, ih h.2⟩
  have hzip : (xs.zip vs).Pairwise (fun z w => assignsClash z.1 w.1 = false) := by
    have hmap : ((xs.zip vs).map Prod.fst).Pairwise (fun x y => assignsClash x y = false) := by
      rw [List.map_fst_zip (by omega)]
      exact hpair hclash
    exact List.pairwise_map.1 hmap
  have hsymm : Std.Symm (fun z w : Assign × Nat => assignsClash z.1 w.1 = false ∨ assignsClash w.1 z.1 = false) :=
    ⟨fun _ _ => Or.symm⟩
  by_contra hne
  have hnone := (hzip.imp (S := fun z w => assignsClash z.1 w.1 = false ∨ assignsClash w.1 z.1 = false) Or.inl).forall
    hz hw hne
  rw [Assign.clash_of_onChain hzc hwc ht, Assign.clash_of_onChain hwc hzc ht.symm] at hnone
  simp at hnone

theorem namesTarget_eq_false_iff {xs : List Assign} {c : ChainId} {τ : Target} :
    xs.any (fun x => x.target == τ && x.onChain c) = false ↔ ∀ x ∈ xs, x.onChain c = true → x.target ≠ τ := by
  rw [List.any_eq_false]
  refine forall₂_congr fun x _ => ?_
  rw [Bool.and_eq_true, beq_iff_eq, not_and]
  exact ⟨fun h hc ht => h ht hc, fun h ht hc => h hc ht⟩

/-! ### Effective values (R98) -/

/-- The value of an assignment at a position, before its target's clamp. -/
def Assign.between (x : Assign) (p : Nat) : Int := x.low + (((x.high : Int) - x.low) * p).tdiv 1023

theorem Assign.between_mem (x : Assign) {p : Nat} (hp : p ≤ 1023) :
    (min x.low x.high : Int) ≤ x.between p ∧ x.between p ≤ (max x.low x.high : Int) := by
  rcases Nat.le_total x.low x.high with h | h
  · obtain ⟨d, hd⟩ := Nat.exists_eq_add_of_le h
    have hdiff : ((x.high : Int) - x.low) * p = ((d * p : Nat) : Int) := by
      rw [hd]
      push_cast
      ring
    have hle : d * p / 1023 ≤ d := Nat.div_le_of_le_mul (by rw [Nat.mul_comm 1023]; exact Nat.mul_le_mul_left d hp)
    have hval : x.between p = x.low + ((d * p / 1023 : Nat) : Int) := by
      rw [Assign.between, hdiff]
      rfl
    omega
  · obtain ⟨d, hd⟩ := Nat.exists_eq_add_of_le h
    have hdiff : ((x.high : Int) - x.low) * p = -((d * p : Nat) : Int) := by
      rw [hd]
      push_cast
      ring
    have hle : d * p / 1023 ≤ d := Nat.div_le_of_le_mul (by rw [Nat.mul_comm 1023]; exact Nat.mul_le_mul_left d hp)
    have hval : x.between p = x.low - ((d * p / 1023 : Nat) : Int) := by
      rw [Assign.between, hdiff, Int.neg_tdiv]
      rfl
    omega

theorem Assign.valueAt_eq (x : Assign) {p : Nat} (hp : p ≤ 1023) :
    (x.valueAt p : Int) = if x.target = .delayFeedback then min (x.between p) 3891 else x.between p := by
  have hnonneg : 0 ≤ x.between p := by
    have := (x.between_mem hp).1
    omega
  have hcast : (((x.between p).toNat : Nat) : Int) = x.between p := Int.toNat_of_nonneg hnonneg
  have hvalue : x.valueAt p = x.target.clampValue (x.between p).toNat := rfl
  rw [hvalue]
  cases x.target
  case delayFeedback =>
    simp only [Target.clampValue, Config.feedbackMax, if_true]
    omega
  all_goals exact hcast

/-- The values that reach a chain. -/
def Scene.assignedOn (sc : Scene) (c : ChainId) : List (Assign × Nat) := sc.assigned.filter (fun xv => xv.1.onChain c)

theorem Scene.mem_assignedOn {sc : Scene} {c : ChainId} {z : Assign × Nat} :
    z ∈ sc.assignedOn c ↔ z ∈ sc.preset.expression.zip sc.effective ∧ z.1.onChain c = true := by
  rw [Scene.assignedOn, List.mem_filter, Scene.assigned]

section

variable {sc : Scene} {c : ChainId}

theorem params_target_of_assigned (hclash : anyClash sc.preset.expression = false)
    (hlen : sc.effective.length = sc.preset.expression.length) {x : Assign} {v : Nat}
    (h : (x, v) ∈ sc.preset.expression.zip sc.effective) (hc : x.onChain c = true) :
    (sc.params c).target x.target = v :=
  foldl_target_of_named (val := id) (fun q t v => q.target_setTarget_self t v)
    (fun q t v _ hτ => q.target_setTarget_of_ne t v hτ) (zs := sc.assignedOn c)
    (fun z hz ht => by
      obtain ⟨hz, hzc⟩ := Scene.mem_assignedOn.1 hz
      rw [assigned_unique hclash hlen hz h hzc hc ht])
    ⟨(x, v), Scene.mem_assignedOn.2 ⟨h, hc⟩, rfl⟩ _

theorem params_target_of_not_named {τ : Target}
    (h : sc.preset.expression.any (fun x => x.target == τ && x.onChain c) = false) :
    (sc.params c).target τ = (sc.baseParams c).target τ := by
  refine foldl_target_of_not_named (fun q t v _ hτ => q.target_setTarget_of_ne t v hτ) (zs := sc.assignedOn c)
    (fun z hz => ?_) _
  obtain ⟨hz, hzc⟩ := Scene.mem_assignedOn.1 hz
  exact namesTarget_eq_false_iff.1 h z.1 (List.of_mem_zip (a := z.1) (b := z.2) hz).1 hzc

theorem params_untargeted : (sc.params c).untargeted = (sc.baseParams c).untargeted :=
  foldl_keeps (fun q z => q.untargeted_setTarget z.1.target z.2) _ _

end

/-! ### Writes toward the carrying lanes -/

section

variable {f : ChainId → PendingSet → PendingSet} {s : State} {i : LaneId}

theorem pendLanes_lane (f : ChainId → PendingSet → PendingSet) (s : State) (i : LaneId) :
    (pendLanes f s).lanes.get i = (s.lanes.get i).pend f := PerLane.get_map ..

variable {t : State} (ht : t.lanes = (pendLanes f s).lanes)

include ht

/-- A lane that does not carry the scene is not written. -/
theorem pended_lane_of_idle (h : ¬((s.lanes.get i).state = .incoming ∨ (s.lanes.get i).state = .live)) :
    t.lanes.get i = s.lanes.get i := by
  rw [ht, pendLanes_lane, Lane.pend, if_neg fun hc => h ((LaneState.carries_iff _).1 hc)]

/-- A lane that carries the scene is written toward its pending set, and nothing else of it changes. -/
theorem pended_lane_of_carries (h : (s.lanes.get i).state = .incoming ∨ (s.lanes.get i).state = .live) :
    t.lanes.get i = { s.lanes.get i with pendingSet := (t.lanes.get i).pendingSet } ∧
      (t.lanes.get i).pendingSet = f (s.lanes.get i).role.chain (s.lanes.get i).pendingSet := by
  rw [ht, pendLanes_lane, Lane.pend, if_pos ((LaneState.carries_iff _).2 h)]
  exact ⟨rfl, rfl⟩

end

/-! ### PEDAL (R97) -/

section

variable {s : State} {src p1 p0 : Byte}

/-- The Control Rate Unit after a position of a source. -/
def Control.moved (c : Control) (src : Source) (pos : Nat) : Control := c.setHistory src ((c.history src).push pos)

/-- The scene with its effective values from the positions of a Control Rate Unit (R98). -/
def Scene.revalued (sc : Scene) (c : Control) : Scene := { sc with effective := sc.preset.expression.map c.effective }

/-- What a PEDAL writes toward a lane that carries a chain: the values of the assignments of its source. -/
def pedalWrite (source : Source) (sc : Scene) (c : ChainId) (p : PendingSet) : PendingSet :=
  (sc.assigned.filter (fun xv => xv.1.source == source && xv.1.onChain c)).foldl (fun p xv => p.setTarget xv.1.target xv.2) p

theorem pedal_of_bad (h0 : src ≠ 0) (h1 : src ≠ 1) : pedal [src, p1, p0] s = (.badRequest, s) := by
  have hsrc : sourceOf src = none := (if_neg h0).trans (if_neg h1)
  simp [pedal, hsrc]

/-- The answer of a PEDAL whose position is clamped or not. -/
def pedalResult (pos : Nat) : Result := if 1023 < pos then .clamped else .ok

theorem pedal_of_no_scene {source : Source} (hsrc : sourceOf src = some source) (hsc : s.engine.scene = none) :
    pedal [src, p1, p0] s = (pedalResult (256 * p1.toNat + p0.toNat),
      s.withControl (s.control.moved source (min 1023 (256 * p1.toNat + p0.toNat)))) := by
  have hscene (x : Control) : (s.withControl x).engine.scene = none := hsc
  simp only [pedal, num_one, num_cons_succ, num_two, byte1_of_toNat, hsrc, hscene, clamp_zero_ne_iff, okOr,
    decide_eq_true_eq]
  simp only [clamp_zero]
  rfl

theorem pedal_of_scene {source : Source} {sc : Scene} (hsrc : sourceOf src = some source) (hsc : s.engine.scene = some sc)
    (heff : sc.effective = sc.preset.expression.map s.control.effective) :
    pedal [src, p1, p0] s = (pedalResult (256 * p1.toNat + p0.toNat),
      let ctl := s.control.moved source (min 1023 (256 * p1.toNat + p0.toNat))
      pendLanes (pedalWrite source (sc.revalued ctl)) (setScene (sc.revalued ctl) (s.withControl ctl))) := by
  have hscene (x : Control) : (s.withControl x).engine.scene = some sc := hsc
  have hzip (pos : Nat) : sc.preset.expression.zipWith
      (fun x v => if x.source = source then (s.control.moved source pos).effective x else v) sc.effective =
        sc.preset.expression.map (s.control.moved source pos).effective := by
    rw [heff]
    exact zipWith_effective (fun x hx => effective_setHistory_of_ne hx) _
  simp only [pedal, num_one, num_cons_succ, num_two, byte1_of_toNat, hsrc, hscene, clamp_zero_ne_iff, okOr,
    decide_eq_true_eq]
  simp only [clamp_zero]
  rw [show s.control.setHistory source ((s.control.history source).push (min 1023 (256 * p1.toNat + p0.toNat))) =
    s.control.moved source (min 1023 (256 * p1.toNat + p0.toNat)) from rfl, hzip]
  rfl

section

variable {source : Source} {sc : Scene} {ctl : Control} {c : ChainId} {p : PendingSet}

theorem mem_pedal_values {z : Assign × Nat} (heff : sc.effective = sc.preset.expression.map ctl.effective) :
    z ∈ sc.assigned.filter (fun xv => xv.1.source == source && xv.1.onChain c) ↔
      (z.1 ∈ sc.preset.expression ∧ z.2 = ctl.effective z.1) ∧ z.1.source = source ∧ z.1.onChain c = true := by
  rw [List.mem_filter, Scene.assigned, heff, Bool.and_eq_true, beq_iff_eq]
  refine and_congr_left fun _ => ?_
  rw [← List.map_prod_left_eq_zip, List.mem_map]
  constructor
  · rintro ⟨x, hx, rfl⟩
    exact ⟨hx, rfl⟩
  · rintro ⟨hx, hv⟩
    exact ⟨z.1, hx, Prod.ext rfl hv.symm⟩

theorem pedalWrite_target_of_named (heff : sc.effective = sc.preset.expression.map ctl.effective)
    (hclash : anyClash sc.preset.expression = false) {x : Assign} (hx : x ∈ sc.preset.expression) (hsrc : x.source = source)
    (hc : x.onChain c = true) : (pedalWrite source sc c p).target x.target = some (ctl.effective x) := by
  have hlen : sc.effective.length = sc.preset.expression.length := by rw [heff, List.length_map]
  refine foldl_target_of_named (fun p t v => p.target_setTarget_self t v) (fun p t v _ hτ => p.target_setTarget_of_ne t v hτ)
    (fun z hz ht => ?_) ⟨(x, ctl.effective x), (mem_pedal_values heff).2 ⟨⟨hx, rfl⟩, hsrc, hc⟩, rfl⟩ p
  obtain ⟨⟨hzx, hzv⟩, -, hzc⟩ := (mem_pedal_values heff).1 hz
  have hpair {y : Assign} (hy : y ∈ sc.preset.expression) : (y, ctl.effective y) ∈ sc.preset.expression.zip sc.effective := by
    rw [heff, ← List.map_prod_left_eq_zip]
    exact List.mem_map_of_mem hy
  have hsame := assigned_unique hclash hlen (hpair hzx) (hpair hx) hzc hc ht
  rw [hzv, (Prod.mk.inj hsame).2]

theorem pedalWrite_target_of_not_named (heff : sc.effective = sc.preset.expression.map ctl.effective) {τ : Target}
    (h : ∀ x ∈ sc.preset.expression, x.source = source → x.onChain c = true → x.target ≠ τ) :
    (pedalWrite source sc c p).target τ = p.target τ := by
  refine foldl_target_of_not_named (fun p t v _ hτ => p.target_setTarget_of_ne t v hτ) (fun z hz => ?_) p
  obtain ⟨⟨hzx, -⟩, hsrc, hzc⟩ := (mem_pedal_values heff).1 hz
  exact h z.1 hzx hsrc hzc

theorem pedalWrite_untargeted : (pedalWrite source sc c p).untargeted = p.untargeted :=
  foldl_keeps (fun p z => p.untargeted_setTarget z.1.target z.2) _ _

end

end

end Sys2Proof.Machine

namespace Sys2Proof.ExpressionAndTempo

open Sys2Proof.Machine

/-- Settles O41: the value between its ends, and a load's parameter set target by target. -/
theorem effectiveValues : Obligations.EffectiveValues := by
  refine ⟨?_, ?_⟩
  · intro x p hp v
    refine ⟨x.valueAt_eq hp, (x.between_mem hp).1, (x.between_mem hp).2, ?_, ?_⟩
    · rintro rfl
      simp [v]
    · rintro rfl
      simp [v]
  · intro sc c hclash hlen
    refine ⟨fun x v h hc => params_target_of_assigned hclash hlen h hc, fun τ h => params_target_of_not_named h, ?_⟩
    have hkept := params_untargeted (sc := sc) (c := c)
    simp only [Params.untargeted, Prod.mk.injEq] at hkept
    exact hkept

/-- Settles O43: the position enters its history, and the assignments of its source are written anew. -/
theorem pedalMovesTargets : Obligations.PedalMovesTargets := by
  intro s tag src p1 p0 hacc htag hpreset hderived
  refine ⟨_, exec_answered .pedal [src, p1, p0] hacc htag rfl (by decide) rfl rfl, ?_, ?_⟩
  · exact fun h => refusedWith_answered (pedal_of_bad h.1 h.2)
  intro hsrc pos source h h' smoothed
  have hsource : sourceOf src = some source := by
    rcases hsrc with rfl | rfl <;> rfl
  have hmoved : s.control.moved source (min 1023 pos) =
      if src = 0 then { s.control with exp1 := h' } else { s.control with exp2 := h' } := by
    rcases hsrc with rfl | rfl <;> rfl
  have hhistory : (s.control.moved source (min 1023 pos)).history source = h' := by
    rcases hsrc with rfl | rfl <;> rfl
  cases hsc : s.engine.scene with
  | none =>
    have hped := pedal_of_no_scene (s := accepted .player s) (p1 := p1) (p0 := p0) hsource hsc
    refine ⟨carriedOut_silently hped (changesOnly_withControl.mono (by decide)) (by decide), ?_, fun _ => ?_, ?_⟩
    · simp only [requestAnswered_control, deliver, hped]
      exact hmoved
    · simp only [requestAnswered_engine, requestAnswered_lanes, deliver, hped]
      exact ⟨rfl, rfl⟩
    · exact fun sc h => absurd h (by simp)
  | some sc =>
    have heff := (derivedLaw_iff s).1 hderived |>.1.1 sc hsc
    have hclash : anyClash sc.preset.expression = false := (((presetLaw_iff s).1 hpreset).2.1 sc hsc).noClash
    have hped := pedal_of_scene (s := accepted .player s) (p1 := p1) (p0 := p0) hsource hsc heff
    have hcontrol : (requestAnswered .pedal .player tag (deliver .pedal .player [src, p1, p0] (accepted .player s))).control =
        s.control.moved source (min 1023 pos) := by
      simp only [requestAnswered_control, deliver, hped]
      rfl
    refine ⟨carriedOut_silently hped ?_ (by decide), hcontrol.trans hmoved, fun h => absurd h (by simp), ?_⟩
    · exact (changesOnly_withControl.comp changesOnly_setScene (ds := [.control, .engine]) (by decide) (by decide)).comp
        changesOnly_pendLanes (by decide) (by decide)
    · rintro _ ⟨⟩
      rw [hcontrol]
      have hlanes : (requestAnswered .pedal .player tag
          (deliver .pedal .player [src, p1, p0] (accepted .player s))).lanes = _ :=
        congrArg (fun o : Result × State => o.2.lanes) hped
      refine ⟨congrArg (fun o : Result × State => o.2.engine) hped,
        fun i => ⟨fun hi => pended_lane_of_idle hlanes hi, fun hi => ?_⟩⟩
      intro chain n n'
      obtain ⟨hlane, hn'⟩ := pended_lane_of_carries hlanes hi
      have hvalue {x : Assign} (hx : x.source = source) :
          (s.control.moved source (min 1023 pos)).effective x = x.valueAt smoothed := by
        rw [Control.effective, hx, hhistory]
        rfl
      refine ⟨hlane, (congrArg PendingSet.untargeted hn').trans pedalWrite_untargeted, fun x hx hsrc hc => ?_,
        fun τ h => ?_⟩
      · rw [← hvalue hsrc]
        exact (congrArg (PendingSet.target · x.target) hn').trans (pedalWrite_target_of_named
          (sc := sc.revalued (s.control.moved source (min 1023 pos))) rfl hclash hx hsrc hc)
      · exact (congrArg (PendingSet.target · τ) hn').trans (pedalWrite_target_of_not_named rfl h)

end Sys2Proof.ExpressionAndTempo

/-! EDIT (R70, R71, R100, R101): its checks, and what it writes toward the lanes that carry the scene. -/

namespace Sys2Proof.Machine

/-! ### The chain of a group -/

/-- Whether a group is one of a chain (R38). -/
def Group.ofChain : Group → Bool
  | .header .. | .levels _ | .expression _ | .tempo _ => false
  | _ => true

/-- The code of a content says whether its group is one of a chain, and whether it is the EXPRESSION group. -/
theorem groupOf_code {code : Nat} {c : List Byte} {g : Group} {acted : Bool} (h : groupOf code c = some (g, acted)) :
    isChainGroup code = g.ofChain ∧ ((∃ xs, g = .expression xs) → code = 2) := by
  have hcode : code ≤ 12 := by
    by_contra hcode
    rw [groupOf_of_twelve_lt c (by omega)] at h
    exact absurd h (by simp)
  interval_cases code
  · rw [groupOf_header, headerOf] at h
    split_ifs at h
    split at h
    · cases h
      exact ⟨rfl, by rintro ⟨_, ⟨⟩⟩⟩
    · exact absurd h (by simp)
  · rw [groupOf_levels] at h
    split_ifs at h
    cases h
    exact ⟨rfl, by rintro ⟨_, ⟨⟩⟩⟩
  · rw [groupOf_expression, expressionOf] at h
    split at h
    · split at h
      · split_ifs at h
        cases h
        exact ⟨rfl, fun _ => rfl⟩
      · exact absurd h (by simp)
    · exact absurd h (by simp)
  · rw [groupOf_tempo, tempoGroupOf] at h
    split_ifs at h
    split at h
    · cases h
      exact ⟨rfl, by rintro ⟨_, ⟨⟩⟩⟩
    · cases h
      exact ⟨rfl, by rintro ⟨_, ⟨⟩⟩⟩
    · exact absurd h (by simp)
  · rw [groupOf_gate] at h
    split_ifs at h
    cases h
    exact ⟨rfl, by rintro ⟨_, ⟨⟩⟩⟩
  · rw [groupOf_drive] at h
    split_ifs at h
    obtain ⟨v, -, he⟩ := Option.map_eq_some_iff.mp h
    cases he
    exact ⟨rfl, by rintro ⟨_, ⟨⟩⟩⟩
  · rw [groupOf_tone1] at h
    split_ifs at h
    cases h
    exact ⟨rfl, by rintro ⟨_, ⟨⟩⟩⟩
  · rw [groupOf_tone2] at h
    split_ifs at h
    cases h
    exact ⟨rfl, by rintro ⟨_, ⟨⟩⟩⟩
  · rw [groupOf_tone3] at h
    split_ifs at h
    cases h
    exact ⟨rfl, by rintro ⟨_, ⟨⟩⟩⟩
  · rw [groupOf_power] at h
    split_ifs at h
    obtain ⟨v, -, he⟩ := Option.map_eq_some_iff.mp h
    cases he
    exact ⟨rfl, by rintro ⟨_, ⟨⟩⟩⟩
  · rw [groupOf_cab] at h
    split_ifs at h
    all_goals
      cases h
      exact ⟨rfl, by rintro ⟨_, ⟨⟩⟩⟩
  · rw [groupOf_delay] at h
    split_ifs at h
    obtain ⟨v, -, he⟩ := Option.map_eq_some_iff.mp h
    cases he
    exact ⟨rfl, by rintro ⟨_, ⟨⟩⟩⟩
  · rw [groupOf_lane] at h
    split_ifs at h
    cases h
    exact ⟨rfl, by rintro ⟨_, ⟨⟩⟩⟩

theorem groupChainOf_of_known {code : Nat} {ch : Byte} (h : 4 ≤ code ∧ code ≤ 12 → ch = 0 ∨ ch = 1) :
    groupChainOf code ch = some (if (4 ≤ code ∧ code ≤ 12) ∧ ch = 1 then .b else .a) := by
  by_cases hcode : 4 ≤ code ∧ code ≤ 12
  · rw [groupChainOf, if_pos ((isChainGroup_iff code).2 hcode)]
    rcases h hcode with rfl | rfl
    · rw [if_neg fun hc => absurd hc.2 (by decide)]
      rfl
    · rw [if_pos ⟨hcode, rfl⟩]
      rfl
  · rw [groupChainOf, if_neg fun hc => hcode ((isChainGroup_iff code).1 hc), if_neg fun hc => hcode hc.1]

theorem groupChainOf_of_unknown {code : Nat} {ch : Byte} (hcode : 4 ≤ code ∧ code ≤ 12) (h0 : ch ≠ 0) (h1 : ch ≠ 1) :
    groupChainOf code ch = none := by
  rw [groupChainOf, if_pos ((isChainGroup_iff code).2 hcode), chainIdOf, if_neg h0, if_neg h1]

/-! ### What an EDIT writes toward a lane (R71, R100) -/

section

variable {xs : List Assign} {c named : ChainId} {p : PendingSet} {τ : Target} {period : Nat}

theorem pendBase_target (t : Target) (v : Nat) : (pendBase xs c t v p).target τ =
    if τ = t ∧ namesTarget xs c τ = false then some v else p.target τ := by
  cases hn : namesTarget xs c t
  · have hwrite : pendBase xs c t v p = p.setTarget t v := by simp [pendBase, hn]
    rw [hwrite]
    by_cases hτ : τ = t
    · rw [if_pos ⟨hτ, hτ ▸ hn⟩, hτ, PendingSet.target_setTarget_self]
    · rw [if_neg fun h => hτ h.1, PendingSet.target_setTarget_of_ne _ _ _ hτ]
  · have hkeep : pendBase xs c t v p = p := by simp [pendBase, hn]
    rw [hkeep, if_neg fun h => by rw [h.1, hn] at h; exact Bool.noConfusion h.2]

theorem pendBase_untargeted (t : Target) (v : Nat) : (pendBase xs c t v p).untargeted = p.untargeted := by
  unfold pendBase
  split
  · rfl
  · exact p.untargeted_setTarget t v

/-- A carried-out EDIT writes a target the value its group carries, on its chain, unless an assignment names the target. -/
theorem editWrite_target (g : Group) : (editWrite period xs named g c p).target τ =
    if (g.ofChain = true → c = named) ∧ (g.baseValue τ).isSome = true ∧ namesTarget xs c τ = false then g.baseValue τ
    else p.target τ := by
  by_cases hc : c = named
  · cases g
    all_goals
      simp only [editWrite, hc, if_true, pendBase_target, implies_true, true_and]
      cases τ <;> simp [Group.baseValue, PendingSet.target]
  · cases g
    case levels v =>
      simp only [editWrite, pendBase_target, Group.ofChain, Bool.false_eq_true, false_implies, true_and]
      cases τ <;> simp [Group.baseValue]
    case header | expression | tempo => simp [editWrite, Group.baseValue]
    all_goals simp [editWrite, hc, Group.ofChain]

/-- What a carried-out EDIT writes apart from the targets of assignments. -/
def Group.writesApart (period : Nat) (g : Group) (p : PendingSet) : PendingSet :=
  match g with
  | .gate v => { p with gate := some v }
  | .drive v => { p with driveCurve := some v.curve }
  | .tone1 v => { p with tone1 := some v }
  | .tone2 v => { p with tone2 := some v }
  | .tone3 v => { p with tone3 := some v }
  | .power v => { p with powerCurve := some v.curve }
  | .cab v => { p with cab := some v }
  | .delay v => { p with delayMode := some v.mode, dry := some v.dry, length := some (deriveLength period v) }
  | _ => p

theorem editWrite_untargeted (g : Group) : (editWrite period xs named g c p).untargeted =
    if g.ofChain = true → c = named then g.writesApart period p.untargeted else p.untargeted := by
  by_cases hc : c = named
  · rw [if_pos fun _ => hc]
    cases g
    all_goals
      simp only [editWrite, hc, if_true, pendBase_untargeted]
      rfl
  · cases g
    case levels v => simp only [editWrite, pendBase_untargeted, Group.writesApart, ite_self]
    case header | expression | tempo => rfl
    all_goals
      rw [if_neg fun h => hc (h rfl)]
      simp only [editWrite, hc, if_false]

end

/-! ### The checks of an EDIT (R70) -/

section

variable {s : State} {code ch : Byte} {content : List Byte} {g : Group} {acted : Bool} {c : ChainId} {sc : Scene}

theorem edit_of_bad_content (h : groupOf code.toNat content = none ∨ groupChainOf code.toNat ch = none) :
    edit (code :: ch :: content) s = (.badRequest, s) := by
  simp only [edit, num_one, num_cons_succ, byte1_of_toNat, List.drop_succ_cons, List.drop_zero]
  rcases h with h | h
  · rw [h]
    cases groupChainOf code.toNat ch <;> rfl
  · rw [h]

section

variable (hc : groupChainOf code.toNat ch = some c) (hg : groupOf code.toNat content = some (g, acted))

include hc hg

theorem edit_of_no_scene (hsc : s.engine.scene = none) : edit (code :: ch :: content) s = (.noScene, s) := by
  simp [edit, hc, hg, hsc]

variable (hsc : s.engine.scene = some sc)

include hsc

theorem edit_of_unfit (hf : groupFits sc.preset.kind code.toNat c g = false) :
    edit (code :: ch :: content) s = (.badRequest, s) := by
  simp [edit, hc, hg, hsc, hf]

theorem edit_of_not_ready (hf : groupFits sc.preset.kind code.toNat c g = true) (hr : s.stores.groupReady g = false) :
    edit (code :: ch :: content) s = (.notReady, s) := by
  simp [edit, hc, hg, hsc, hf, hr]

theorem edit_of_ready (hf : groupFits sc.preset.kind code.toNat c g = true) (hr : s.stores.groupReady g = true) :
    edit (code :: ch :: content) s = (okOr acted, carryEdit sc c g s) := by
  simp [edit, hc, hg, hsc, hf, hr]

end

theorem carryEdit_of_ne_expression (h : ∀ xs, g ≠ .expression xs) : carryEdit sc c g s =
    pendLanes (editWrite s.control.period sc.preset.expression c g)
      (setScene { sc with preset := sc.preset.putGroup c g, dirty := true } s) := by
  cases g
  case expression xs => exact absurd rfl (h xs)
  all_goals rfl

end

/-! ### EDIT of the EXPRESSION group (R101) -/

section

variable {sc : Scene} {old : List Assign} {c : ChainId} {p : PendingSet}

/-- The value an EXPRESSION edit gives a target of a lane that carries a chain, if it writes it (R101). -/
def Scene.expressionValue (sc : Scene) (old : List Assign) (c : ChainId) (t : Target) : Option Nat :=
  match sc.assigned.find? (fun xv => xv.1.target == t && xv.1.onChain c) with
  | some xv => some xv.2
  | none => if namesTarget old c t then some ((sc.baseParams c).target t) else none

/-- What an EXPRESSION edit writes toward a lane that carries a chain. -/
def expressionWrite (sc : Scene) (old : List Assign) (c : ChainId) (p : PendingSet) : PendingSet :=
  targets.foldl (fun p t => (sc.expressionValue old c t).elim p (p.setTarget t)) p

theorem expressionChange_eq (old : List Assign) (sc : Scene) (s : State) : expressionChange old sc s =
    pendLanes (expressionWrite (sc.revalued s.control) old) (setScene (sc.revalued s.control) s) := by
  unfold expressionChange
  dsimp only
  congr 1
  funext c p
  rw [expressionWrite]
  congr 1
  funext p t
  unfold Scene.expressionValue Scene.revalued
  generalize List.find? (fun (xv : Assign × Nat) => xv.1.target == t && xv.1.onChain c) _ = found
  cases found with
  | some xv => rfl
  | none => cases namesTarget old c t <;> rfl

theorem mem_targets (t : Target) : t ∈ targets := by cases t <;> decide

theorem expressionWrite_target (τ : Target) : (expressionWrite sc old c p).target τ =
    if (sc.expressionValue old c τ).isSome = true then sc.expressionValue old c τ else p.target τ := by
  rw [expressionWrite, foldl_targets_target]
  simp only [mem_targets, true_and]

theorem expressionWrite_untargeted : (expressionWrite sc old c p).untargeted = p.untargeted := by
  refine foldl_keeps (fun p t => ?_) targets p
  cases sc.expressionValue old c t with
  | none => rfl
  | some v => exact p.untargeted_setTarget t v

theorem expressionValue_of_named {ctl : Control} (heff : sc.effective = sc.preset.expression.map ctl.effective)
    (hclash : anyClash sc.preset.expression = false) {x : Assign} (hx : x ∈ sc.preset.expression)
    (hc : x.onChain c = true) : sc.expressionValue old c x.target = some (ctl.effective x) := by
  have hlen : sc.effective.length = sc.preset.expression.length := by rw [heff, List.length_map]
  have hpair : (x, ctl.effective x) ∈ sc.preset.expression.zip sc.effective := by
    rw [heff, ← List.map_prod_left_eq_zip]
    exact List.mem_map_of_mem hx
  unfold Scene.expressionValue
  split
  · next z hz =>
    have hmem := List.mem_of_find?_eq_some hz
    have hprop := List.find?_some hz
    rw [Bool.and_eq_true, beq_iff_eq] at hprop
    rw [assigned_unique hclash hlen hmem hpair hprop.2 hc hprop.1]
  · next hnone =>
    have := List.find?_eq_none.1 hnone _ hpair
    simp [hc] at this

theorem expressionValue_of_not_named {τ : Target}
    (h : sc.preset.expression.any (fun x => x.target == τ && x.onChain c) = false) :
    sc.expressionValue old c τ = if namesTarget old c τ then some ((sc.baseParams c).target τ) else none := by
  have hnone : sc.assigned.find? (fun xv => xv.1.target == τ && xv.1.onChain c) = none := by
    rw [List.find?_eq_none]
    intro z hz
    rw [List.any_eq_false] at h
    exact h z.1 (List.of_mem_zip (a := z.1) (b := z.2) hz).1
  rw [Scene.expressionValue, hnone]

theorem expressionWrite_target_of_named {ctl : Control} (heff : sc.effective = sc.preset.expression.map ctl.effective)
    (hclash : anyClash sc.preset.expression = false) {x : Assign} (hx : x ∈ sc.preset.expression)
    (hc : x.onChain c = true) : (expressionWrite sc old c p).target x.target = some (ctl.effective x) := by
  rw [expressionWrite_target, expressionValue_of_named heff hclash hx hc]
  rfl

theorem expressionWrite_target_of_not_named {τ : Target}
    (h : sc.preset.expression.any (fun x => x.target == τ && x.onChain c) = false) :
    (expressionWrite sc old c p).target τ =
      if old.any (fun x => x.target == τ && x.onChain c) = true then some ((sc.baseParams c).target τ) else p.target τ := by
  rw [expressionWrite_target, expressionValue_of_not_named h]
  unfold namesTarget
  split <;> rfl

end

end Sys2Proof.Machine

namespace Sys2Proof.SceneEngine

open Sys2Proof.Machine

theorem edit_permitted {l : Link} (h : l ≠ .player) : ReqType.edit.permitted l = true := by
  cases l
  case player => exact absurd rfl h
  all_goals rfl

/-- Settles O28: the checks in their order, then what the group writes toward each carrying lane. -/
theorem editChangesScene : Obligations.EditChangesScene := by
  intro s l tag code ch content hacc hl htag hlo hhi
  refine ⟨_, exec_answered .edit (code :: ch :: content) hacc htag rfl (by decide) (edit_permitted hl)
    (lengthOk_of_mem (Nat.add_le_add_right hlo 2) (Nat.add_le_add_right hhi 2)), ?_⟩
  intro chainGroup c
  refine ⟨fun h => ?_, fun g acted hg hch => ?_⟩
  · refine refusedWith_answered (edit_of_bad_content (h.imp_right ?_))
    exact fun ⟨hcode, h0, h1⟩ => groupChainOf_of_unknown hcode h0 h1
  have hc : groupChainOf code.toNat ch = some c := groupChainOf_of_known hch
  refine ⟨fun hsc => refusedWith_answered (edit_of_no_scene hc hg hsc), fun sc hsc => ⟨?_, ?_, ?_, ?_⟩⟩
  · rw [groupFits_iff, isChainGroup_iff]
    refine and_congr_left fun _ => forall_congr' fun _ => ?_
    cases c
    · exact ⟨fun _ h => absurd h (by decide), fun _ => .inl rfl⟩
    · exact ⟨fun h _ => h.resolve_left (by decide), fun h => .inr (h rfl)⟩
  · exact fun hf => refusedWith_answered (edit_of_unfit hc hg hsc hf)
  · exact fun hf hr => refusedWith_answered (edit_of_not_ready hc hg hsc hf hr)
  intro hf hr h2
  obtain ⟨hchain, hexpression⟩ := groupOf_code hg
  have hne (xs : List Assign) : g ≠ .expression xs := fun he => h2 (byte_eq_iff.2 (hexpression ⟨xs, he⟩))
  have hedit := edit_of_ready (s := accepted l s) hc hg hsc hf hr
  rw [carryEdit_of_ne_expression hne] at hedit
  have hlanes : (requestAnswered .edit l tag (deliver .edit l (code :: ch :: content) (accepted l s))).lanes = _ :=
    congrArg (fun o : Result × State => o.2.lanes) hedit
  refine ⟨carriedOut_silently hedit (changesOnly_setScene.comp changesOnly_pendLanes (by decide) (by decide)) (by decide),
    congrArg (fun o : Result × State => o.2.engine) hedit,
    fun i => ⟨fun hi => pended_lane_of_idle hlanes hi, fun hi => ?_⟩⟩
  intro chain n n' here
  obtain ⟨hlane, hn'⟩ := pended_lane_of_carries hlanes hi
  have hhere : (g.ofChain = true → chain = c) ↔ here := by
    rw [← hchain, isChainGroup_iff]
  refine ⟨hlane, fun τ => ?_, ?_⟩
  · refine (congrArg (PendingSet.target · τ) hn').trans ((editWrite_target g).trans ?_)
    simp only [← hhere]
    rfl
  · refine (congrArg PendingSet.untargeted hn').trans ((editWrite_untargeted g).trans ?_)
    simp only [← hhere]
    cases g
    case header | levels | expression | tempo | lane => exact ite_self _
    all_goals rfl

/-- Settles O29: the new list's values, and the base value of a target that only the old list names. -/
theorem editExpression : Obligations.EditExpression := by
  intro s l tag ch content xs acted sc hacc hl htag hhi hg hsc hkind
  have hlo : 1 ≤ content.length := by
    by_contra h
    rw [List.length_eq_zero_iff.1 (by omega : content.length = 0), groupOf_expression, expressionOf,
      if_neg fun h1 => absurd h1.1 (by rw [List.length_nil]; omega)] at hg
    exact absurd hg (by simp)
  have hc : groupChainOf (2 : Byte).toNat ch = some .a := rfl
  have hf : groupFits sc.preset.kind (2 : Byte).toNat .a (.expression xs) = true := by
    rw [groupFits_iff]
    exact ⟨fun _ => .inl rfl, fun _ _ _ _ h => absurd h (by simp), fun ys h hk x hx => by cases h; exact hkind hk x hx⟩
  obtain ⟨-, -, hclash⟩ := groupOf_legal hg hf
  have hedit := edit_of_ready (s := accepted l s) (code := 2) hc hg hsc hf rfl
  rw [carryEdit, expressionChange_eq] at hedit
  have hlanes : (requestAnswered .edit l tag (deliver .edit l (2 :: ch :: content) (accepted l s))).lanes = _ :=
    congrArg (fun o : Result × State => o.2.lanes) hedit
  refine ⟨_, exec_answered .edit (2 :: ch :: content) hacc htag rfl (by decide) (edit_permitted hl)
    (lengthOk_of_mem (Nat.add_le_add_right hlo 2) (Nat.add_le_add_right hhi 2)),
    carriedOut_silently hedit (changesOnly_setScene.comp changesOnly_pendLanes (by decide) (by decide)) (by decide),
    congrArg (fun o : Result × State => o.2.engine) hedit,
    fun i => ⟨fun hi => pended_lane_of_idle hlanes hi, fun hi => ?_⟩⟩
  intro chain n n'
  obtain ⟨hlane, hn'⟩ := pended_lane_of_carries hlanes hi
  let new : Scene := { sc with preset := { sc.preset with expression := xs }, dirty := true }
  refine ⟨hlane, (congrArg PendingSet.untargeted hn').trans expressionWrite_untargeted, fun x hx hxc => ?_, fun τ h => ?_⟩
  · exact (congrArg (PendingSet.target · x.target) hn').trans
      (expressionWrite_target_of_named (sc := new.revalued s.control) rfl hclash hx hxc)
  · exact (congrArg (PendingSet.target · τ) hn').trans
      (expressionWrite_target_of_not_named (sc := new.revalued s.control) h)

end Sys2Proof.SceneEngine

/-! The tuner's requests and events (R115, R116, R118 to R125), and what a reading holds (R126 to R131). -/

namespace Sys2Proof.Machine

/-! ### Events that are due -/

/-- The row of an event that is due is its effect, then the transmitters' choice. -/
theorem exec_event {e : Event} {s : State} (h : due e s = true) : exec e.command s = .next (pump (effect e s)) := by
  rw [exec_eventCommand, happen_of_due h]

/-! ### TUNER_ENGAGE and TUNER_RELEASE (R115, R116) -/

theorem tunerModeOf_eq (b : Byte) :
    tunerModeOf b = if b = 0 ∨ b = 1 then some (if b = 0 then .free else .string) else none := by
  by_cases h0 : b = 0
  · subst h0
    rfl
  · by_cases h1 : b = 1
    · subst h1
      rfl
    · rw [tunerModeOf, if_neg h0, if_neg h1, if_neg (not_or.2 ⟨h0, h1⟩)]

theorem flagOf_eq (b : Byte) : flagOf b = if b = 0 ∨ b = 1 then some (decide (b = 1)) else none := by
  by_cases h0 : b = 0
  · subst h0
    rfl
  · by_cases h1 : b = 1
    · subst h1
      rfl
    · rw [flagOf, if_neg h0, if_neg h1, if_neg (not_or.2 ⟨h0, h1⟩)]

section

variable {s : State} {mode mute : Byte}

/-- The tuner after an engagement (R115). -/
def Tuner.engagedWith (u : Tuner) (m : TunerMode) (f : Bool) : Tuner :=
  if u.state = .off then { u.fresh with state := .listening, mode := m, muteFlag := f } else { u with mode := m, muteFlag := f }

theorem tunerEngage_of_ok (hmode : mode = 0 ∨ mode = 1) (hmute : mute = 0 ∨ mute = 1) : tunerEngage [mode, mute] s =
    (.ok, handTunerMute (raiseNotice .tuner
      (s.withTuner (s.tuner.engagedWith (if mode = 0 then .free else .string) (decide (mute = 1)))))) := by
  simp only [tunerEngage, num_one, num_cons_succ, byte1_of_toNat, tunerModeOf_eq, flagOf_eq, if_pos hmode, if_pos hmute]
  by_cases h : s.tuner.state = .off
  · simp [Tuner.engagedWith, Tuner.engaged, h]
  · simp [Tuner.engagedWith, Tuner.engaged, h]

theorem tunerEngage_of_bad (h : ¬((mode = 0 ∨ mode = 1) ∧ (mute = 0 ∨ mute = 1))) :
    tunerEngage [mode, mute] s = (.badRequest, s) := by
  simp only [tunerEngage, num_one, num_cons_succ, byte1_of_toNat, tunerModeOf_eq, flagOf_eq]
  by_cases hmode : mode = 0 ∨ mode = 1
  · rw [if_pos hmode, if_neg fun hmute => h ⟨hmode, hmute⟩]
  · rw [if_neg hmode]

/-- The mute request of an engaged tuner is its flag. -/
theorem muteActive_engagedWith (u : Tuner) (m : TunerMode) (f : Bool) : (u.engagedWith m f).muteActive = f := by
  by_cases h : u.state = .off
  · simp [Tuner.engagedWith, Tuner.muteActive, Tuner.engaged, h]
  · simp [Tuner.engagedWith, Tuner.muteActive, Tuner.engaged, h]

theorem engagedWith_muteSet (u : Tuner) (m : TunerMode) (f : Bool) : (u.engagedWith m f).muteSet = u.muteSet := by
  unfold Tuner.engagedWith
  split <;> rfl

end

/-! ### The detector (R120 to R125) -/

section

variable {u : Tuner} {d : Int} {prev : Int} {before : BitVec 32} {group : List Nat} {p q total : Nat}

theorem nextPolarity_high_iff (u : Tuner) (h d : Int) : nextPolarity u.polarity h d = .high ↔
    (u.polarity = .high ∧ -h ≤ d) ∨ (u.polarity = .low ∧ h < d) := by
  cases u.polarity
  · by_cases hd : h < d <;> simp [nextPolarity, hd]
  · by_cases hd : d < -h
    · simp [nextPolarity, hd]
    · simp [nextPolarity, hd, Int.not_lt.1 hd]

theorem detect_of_no_rise (h : ¬((u.polarity = .low ∧ (u.hysteresis : Int) < d) ∧ u.prevSample.isSome = true)) :
    u.detect d = (u.prevCrossing, u.group, none) := by
  unfold Tuner.detect
  split
  · next prev hpol hnext hprev =>
    refine absurd ⟨⟨hpol, ?_⟩, by rw [hprev]; rfl⟩ h
    rcases (nextPolarity_high_iff u _ _).1 hnext with ⟨hhigh, -⟩ | ⟨-, hd⟩
    · rw [hpol] at hhigh
      exact absurd hhigh (by decide)
    · exact hd
  · rfl

section

variable (hpol : u.polarity = .low) (hd : (u.hysteresis : Int) < d) (hprev : u.prevSample = some prev)

include hpol hd hprev

theorem detect_of_first_rise (hcross : u.prevCrossing = none) :
    u.detect d = (some (crossingTime u.index u.hysteresis prev d), [], none) := by
  have hnext := (nextPolarity_high_iff u u.hysteresis d).2 (.inr ⟨hpol, hd⟩)
  unfold Tuner.detect
  rw [hnext, hpol, hprev, hcross]

theorem detect_of_rise (hcross : u.prevCrossing = some before) : u.detect d =
    (some (crossingTime u.index u.hysteresis prev d),
      (addPeriod u.group (crossingTime u.index u.hysteresis prev d - before).toNat).1,
      (addPeriod u.group (crossingTime u.index u.hysteresis prev d - before).toNat).2) := by
  have hnext := (nextPolarity_high_iff u u.hysteresis d).2 (.inr ⟨hpol, hd⟩)
  unfold Tuner.detect
  rw [hnext, hpol, hprev, hcross]

end

theorem addPeriod_group (group : List Nat) (p : Nat) : (addPeriod group p).1 =
    if p < 1024 ∨ 61440 < p then []
    else match group.getLast? with
      | none => [p]
      | some q => if max p q - min p q ≤ q / 8 ∧ group.length ≠ 7 then group ++ [p] else [] := by
  unfold addPeriod
  split
  · rfl
  · cases group.getLast? with
    | none => rfl
    | some q =>
      dsimp only
      by_cases hnear : q / 8 < max p q - min p q
      · rw [if_pos hnear, if_neg fun h => absurd h.1 (by omega)]
      · rw [if_neg hnear]
        by_cases hlen : group.length = 7
        · rw [if_pos hlen, if_neg fun h => h.2 hlen]
        · rw [if_neg hlen, if_pos ⟨by omega, hlen⟩]

theorem addPeriod_total_iff : (addPeriod group p).2 = some total ↔
    ∃ q, group.length = 7 ∧ group.getLast? = some q ∧ 1024 ≤ p ∧ p ≤ 61440 ∧ max p q - min p q ≤ q / 8 ∧
      total = group.sum + p := by
  unfold addPeriod
  split
  · next hp => exact ⟨fun h => absurd h (by simp), fun ⟨_, _, _, h1, h2, _⟩ => by omega⟩
  · next hp =>
    cases hlast : group.getLast? with
    | none => simp
    | some q =>
      dsimp only
      split
      · next hnear =>
        refine ⟨fun h => absurd h (by simp), ?_⟩
        rintro ⟨_, _, ⟨⟩, _, _, h, _⟩
        omega
      · next hnear =>
        split
        · next hlen =>
          simp only [Option.some.injEq, exists_eq_left', hlen, true_and]
          constructor
          · rintro rfl
            exact ⟨by omega, by omega, by omega, rfl⟩
          · rintro ⟨_, _, _, rfl⟩
            rfl
        · next hlen => exact ⟨fun h => absurd h (by simp), fun ⟨_, h, _⟩ => absurd h hlen⟩

end

/-! ### A decimated sample handled (R119, R122, R131) -/

section

variable {u : Tuner} {presence : Bool} {notes : List Nat} {total : Nat}

/-- What the detector finds at a decimated sample, and nothing without presence (R122, R123). -/
def Tuner.found (u : Tuner) (presence : Bool) : Option (BitVec 32) × List Nat × Option Nat :=
  if presence then u.detect u.decimated else (none, [], none)

/-- The tuner after a decimated sample, its reading included. -/
def Tuner.sampled (u : Tuner) (presence : Bool) (notes : List Nat) : Tuner :=
  { u with
    sum := 0, count := 0, index := (u.index + 1) % 16777216, prevSample := some u.decimated
    polarity := nextPolarity u.polarity u.hysteresis u.decimated
    prevCrossing := (u.found presence).1, group := (u.found presence).2.1
    state := if (u.found presence).2.2.isSome then .reading else u.state
    stale := if (u.found presence).2.2.isSome then 0
      else if u.state = .reading then min (u.stale + 1) 1500 else u.stale
    current := (u.found presence).2.2.elim u.current (fun total => some (readingOf u notes total)) }

theorem handle_group (u : Tuner) (presence : Bool) : (u.handle presence).2 = (u.found presence).2.2 := rfl

theorem decimatedSample_tuner_eq (s : State) :
    (decimatedSample s).tuner = s.tuner.sampled s.frontEnd.presence s.stores.activeProfile.notes := by
  rw [decimatedSample_tuner, handle_group]
  have hhandle : (s.tuner.handle s.frontEnd.presence).1 = { s.tuner with
      sum := 0, count := 0, index := (s.tuner.index + 1) % 16777216, prevSample := some s.tuner.decimated
      polarity := nextPolarity s.tuner.polarity s.tuner.hysteresis s.tuner.decimated
      prevCrossing := (s.tuner.found s.frontEnd.presence).1, group := (s.tuner.found s.frontEnd.presence).2.1
      stale := if (s.tuner.found s.frontEnd.presence).2.2.isNone && s.tuner.state == .reading
        then min (s.tuner.stale + 1) 1500 else s.tuner.stale } := rfl
  rw [hhandle, Tuner.sampled]
  cases (s.tuner.found s.frontEnd.presence).2.2 with
  | none => simp
  | some total => rfl

theorem changesOnly_of_tuner_event {s : State} (h : changesOnly [.links, .tuner] s (decimatedSample s)) :
    changesOnly [.links, .tuner] s (pump (decimatedSample s)) :=
  h.comp changesOnly_pumped (by decide) (by decide)

/-- A group is complete with a total exactly where presence holds, a rising crossing gives a period, and the period is the
eighth of its group (R121 to R125). -/
theorem found_total_iff : (u.found presence).2.2 = some total ↔
    presence = true ∧ (u.polarity = .low ∧ (u.hysteresis : Int) < u.decimated) ∧ ∃ prev before q,
      u.prevSample = some prev ∧ u.prevCrossing = some before ∧ u.group.length = 7 ∧ u.group.getLast? = some q ∧
      1024 ≤ (crossingTime u.index u.hysteresis prev u.decimated - before).toNat ∧
      (crossingTime u.index u.hysteresis prev u.decimated - before).toNat ≤ 61440 ∧
      max (crossingTime u.index u.hysteresis prev u.decimated - before).toNat q -
        min (crossingTime u.index u.hysteresis prev u.decimated - before).toNat q ≤ q / 8 ∧
      total = u.group.sum + (crossingTime u.index u.hysteresis prev u.decimated - before).toNat := by
  cases presence
  · simp [Tuner.found]
  rw [Tuner.found, if_pos rfl]
  by_cases hrise : (u.polarity = .low ∧ (u.hysteresis : Int) < u.decimated) ∧ u.prevSample.isSome = true
  · obtain ⟨⟨hpol, hd⟩, hsome⟩ := hrise
    obtain ⟨prev, hprev⟩ := Option.isSome_iff_exists.1 hsome
    cases hcross : u.prevCrossing with
    | none =>
      rw [detect_of_first_rise (d := u.decimated) hpol hd hprev hcross]
      refine ⟨fun h => absurd h (by simp), ?_⟩
      rintro ⟨-, -, _, _, _, _, h, -⟩
      exact absurd h (by simp)
    | some before =>
      rw [detect_of_rise hpol hd hprev hcross, addPeriod_total_iff]
      constructor
      · rintro ⟨q, hlen, hlast, hlo, hhi, hnear, htotal⟩
        exact ⟨rfl, ⟨hpol, hd⟩, prev, before, q, hprev, rfl, hlen, hlast, hlo, hhi, hnear, htotal⟩
      · rintro ⟨-, -, prev', before', q, hprev', hcross', hlen, hlast, hlo, hhi, hnear, htotal⟩
        obtain rfl : prev = prev' := Option.some.inj (hprev.symm.trans hprev')
        obtain rfl : before = before' := Option.some.inj hcross'
        exact ⟨q, hlen, hlast, hlo, hhi, hnear, htotal⟩
  · rw [detect_of_no_rise hrise]
    refine ⟨fun h => absurd h (by simp), ?_⟩
    rintro ⟨-, hr, prev, _, _, hprev, -⟩
    exact absurd ⟨hr, by rw [hprev]; rfl⟩ hrise

end

end Sys2Proof.Machine

namespace Sys2Proof.TunerReadings

open Sys2Proof.Machine

/-- Settles O45: the engagement by whether the tuner was OFF, the release likewise. -/
theorem tunerEngageAndRelease : Obligations.TunerEngageAndRelease := by
  intro s l tag hacc hl htag fresh
  have hengage : ReqType.tunerEngage.permitted l = true := by
    cases l
    case showControl => exact absurd rfl hl
    all_goals rfl
  have hrelease : ReqType.tunerRelease.permitted l = true := by
    cases l
    case showControl => exact absurd rfl hl
    all_goals rfl
  refine ⟨fun mode mute => ⟨_, exec_answered .tunerEngage [mode, mute] hacc htag rfl (by decide) hengage rfl, ?_, ?_⟩,
    ⟨_, exec_answered .tunerRelease [] hacc htag rfl (by decide) hrelease rfl, ?_, ?_⟩⟩
  · exact fun h => refusedWith_answered (tunerEngage_of_bad h)
  · rintro ⟨hmode, hmute⟩ m f
    have hset := tunerEngage_of_ok (s := accepted l s) hmode hmute
    have hR := raisesOnly_tunerMoved (s.tuner.engagedWith m f) (accepted l s)
    refine ⟨carriedOut_answered hset (hR.congr fun n => ?_)
      (changesOnly_tunerMoved.mono (by decide)), ?_, ?_⟩
    · rw [muteActive_engagedWith, bne_comm, Bool.and_comm]
      rfl
    · simp only [requestAnswered_tuner, deliver, hset, handTunerMute_tuner]
      rfl
    · simp only [requestAnswered_mixer, deliver, hset, handTunerMute_mixer]
      exact congrArg₂ (fun a b => { s.mixer with tunerMute := a, tunerSet := b }) (muteActive_engagedWith ..)
        (engagedWith_muteSet ..)
  · intro hoff
    have hrel : tunerRelease (accepted l s) = (.ok, accepted l s) :=
      congrArg (Prod.mk Result.ok) (tunerOff_of_off (s := accepted l s) (by simp [Tuner.engaged, hoff]))
    exact carriedOut_silently hrel (changesOnly.refl [] _) (by decide)
  · intro hon
    have hengaged : s.tuner.engaged = true := by simpa [Tuner.engaged] using hon
    have hR := raisesOnly_tunerOff (accepted l s)
    refine ⟨carriedOut_answered rfl (hR.congr fun n => ?_) (changesOnly_tunerOff.mono (by decide)), ?_, ?_⟩
    · simp [hengaged]
    · simp only [requestAnswered_tuner, deliver, tunerRelease]
      rw [tunerOff_of_engaged (s := accepted l s) hengaged, handTunerMute_tuner]
      rfl
    · simp only [requestAnswered_mixer, deliver, tunerRelease]
      rw [tunerOff_of_engaged (s := accepted l s) hengaged, handTunerMute_mixer]
      exact congrArg (fun a => { s.mixer with tunerMute := a, tunerSet := s.tuner.muteSet })
        (muteActive_of_off (t := { s.tuner.fresh with state := .off }) rfl)

/-- Settles O46: what the detector finds, case by case, and the two ends a reading has. -/
theorem decimatedSampleHandled : Obligations.DecimatedSampleHandled := by
  refine ⟨?_, ?_⟩
  · intro s hon hcount
    have hdue : due .decimatedSample s = true := by simp [due, Tuner.engaged, hon, hcount]
    have hR := raisesOnly_decimatedSample s
    refine ⟨_, exec_event hdue, changesOnly_decimatedSample.comp changesOnly_pumped (by decide) (by decide),
      hR.pumped.1, ?_⟩
    intro u d h presence rise time near made
    have hmade (total : Nat) : made total ↔ (u.found presence).2.2 = some total := found_total_iff.symm
    have htuner : (pump (effect .decimatedSample s)).tuner = u.sampled presence s.stores.activeProfile.notes :=
      decimatedSample_tuner_eq s
    rw [htuner]
    refine ⟨rfl, nextPolarity_high_iff u _ _, fun hp => ?_, fun hp hno => ?_, fun prev hp hrise hprev => ?_,
      fun total h => ?_, fun hnone => ?_⟩
    · simp only [Tuner.sampled, Tuner.found, hp, Bool.false_eq_true, if_false]
      exact ⟨trivial, trivial⟩
    · have hfound : u.found presence = (u.prevCrossing, u.group, none) := by
        rw [Tuner.found, hp, if_pos rfl, detect_of_no_rise (d := u.decimated) hno]
      simp only [Tuner.sampled, hfound]
      exact ⟨trivial, trivial⟩
    · obtain ⟨hpol, hd⟩ := hrise
      refine ⟨?_, fun hcross => ?_, fun before hcross => ?_⟩
      · change (u.found presence).1 = some (time prev)
        cases hcross : u.prevCrossing with
        | none => rw [Tuner.found, hp, if_pos rfl, detect_of_first_rise (d := u.decimated) hpol hd hprev hcross]; rfl
        | some before => rw [Tuner.found, hp, if_pos rfl, detect_of_rise (d := u.decimated) hpol hd hprev hcross]; rfl
      · change (u.found presence).2.1 = []
        rw [Tuner.found, hp, if_pos rfl, detect_of_first_rise (d := u.decimated) hpol hd hprev hcross]
      · intro p
        change (u.found presence).2.1 = _
        rw [Tuner.found, hp, if_pos rfl, detect_of_rise (d := u.decimated) hpol hd hprev hcross]
        exact addPeriod_group u.group p
    · have hfound := (hmade total).1 h
      have hclass : RaisesOnly (· == .tuner) s (decimatedSample s) := hR.congr fun n => by
        rw [handle_group, hfound]
        rfl
      simp only [Tuner.sampled, hfound]
      exact ⟨rfl, rfl, rfl, hclass.pumped.2⟩
    · have hfound : (u.found presence).2.2 = none := by
        cases htotal : (u.found presence).2.2 with
        | none => rfl
        | some total => exact absurd ((hmade total).2 htotal) (hnone total)
      have hclass : RaisesOnly noNotice s (decimatedSample s) := hR.congr fun n => by
        rw [handle_group, hfound]
        rfl
      simp only [Tuner.sampled, hfound]
      exact ⟨rfl, rfl, rfl, hclass.pumped.2⟩
  · intro s hreading hstale
    have hdue : due .tunerStale s = true := by simp [due, hreading, hstale, Config.staleEnd]
    obtain ⟨hkept, hann⟩ := (raisesOnly_tunerStale s).pumped
    exact ⟨_, exec_event hdue, changesOnly_tunerStale.comp changesOnly_pumped (by decide) (by decide), hkept, rfl, hann⟩

end Sys2Proof.TunerReadings

/-! A reading's string, frequency and band (R126, R128, R130, R131). -/

namespace Sys2Proof.Machine

/-! ### The nearest string (R128) -/

/-- The distance of f from a note, in octaves. -/
noncomputable def noteDistance (ref sum : Nat) (n : Nat) : ℝ := |pitchOctaves ref sum - ((n : ℝ) - 69) / 12|

/-- Of two notes in order, the lower is strictly nearer exactly where f lies below their middle. -/
theorem noteDistance_lt_iff {ref sum m n : Nat} (h : m < n) : noteDistance ref sum m < noteDistance ref sum n ↔
    24 * pitchOctaves ref sum < (m : ℝ) + n - 138 := by
  have hmn : (m : ℝ) < n := by exact_mod_cast h
  rw [noteDistance, noteDistance, ← sq_lt_sq]
  constructor
  · intro hsq
    nlinarith
  · intro hlt
    nlinarith

/-- The higher is strictly nearer exactly where f lies above their middle. -/
theorem noteDistance_gt_iff {ref sum m n : Nat} (h : m < n) : noteDistance ref sum n < noteDistance ref sum m ↔
    (m : ℝ) + n - 138 < 24 * pitchOctaves ref sum := by
  have hmn : (m : ℝ) < n := by exact_mod_cast h
  rw [noteDistance, noteDistance, ← sq_lt_sq]
  constructor
  · intro hsq
    nlinarith
  · intro hlt
    nlinarith

/-- Comparing a power of 2 with a power of a fraction compares a whole number with a logarithm. -/
theorem powLe_pow_iff {a b : Nat} (ha : 0 < a) (hb : 0 < b) (n : Nat) (e : Int) :
    powLe e (a ^ n) (b ^ n) = true ↔ (e : ℝ) ≤ n * Real.logb 2 ((a : ℝ) / b) := by
  have ha' : (0 : ℝ) < a := by exact_mod_cast ha
  have hb' : (0 : ℝ) < b := by exact_mod_cast hb
  rw [intCast_le_mul_logb_iff (div_pos ha' hb') n e, div_pow, le_div_iff₀' (pow_pos hb' n), powLe_iff]
  rify

section

variable {ref sum : Nat} (href : 0 < ref) (hsum : 0 < sum)

include href hsum

theorem strictlyNearer_iff (m n : Nat) :
    strictlyNearer ref sum m n = true ↔ noteDistance ref sum m < noteDistance ref sum n := by
  have hnum : 0 < pitchNumerator := by decide
  have hprod : 0 < sum * ref := Nat.mul_pos hsum href
  have hcast : (((m : Int) + n - 138 : Int) : ℝ) = (m : ℝ) + n - 138 := by push_cast; ring
  unfold strictlyNearer
  dsimp only
  split
  · next hlt =>
    rw [noteDistance_lt_iff hlt, Bool.not_eq_true', ← Bool.not_eq_true, powLe_pow_iff hnum hprod,
      ← pitchOctaves_eq_logb, hcast, not_le]
    push_cast
    rfl
  · split
    · next hgt =>
      have hpow : (sum * ref) ^ 24 * 2 ^ ((m : Int) + n - 138).toNat <
            pitchNumerator ^ 24 * 2 ^ (-((m : Int) + n - 138)).toNat ↔
          ¬powLe (-((m : Int) + n - 138)) ((sum * ref) ^ 24) (pitchNumerator ^ 24) = true := by
        rw [powLe, decide_eq_true_eq, neg_neg, not_le]
      have hinv : Real.logb 2 (((sum * ref : Nat) : ℝ) / pitchNumerator) = -pitchOctaves ref sum := by
        rw [pitchOctaves_eq_logb, ← Real.logb_inv, inv_div]
      rw [noteDistance_gt_iff hgt, decide_eq_true_eq, hpow, powLe_pow_iff hprod hnum, hinv, Int.cast_neg, hcast, not_le]
      push_cast
      constructor
      · intro h
        linarith
      · intro h
        linarith
    · next hge hle =>
      obtain rfl : m = n := by omega
      simp

/-- The string chosen from a list of notes: its number, and that no note is nearer and no earlier one as near. -/
def IsNearest (ref sum : Nat) (notes : List Nat) (best : Nat × Nat) : Prop :=
  ∃ k, best.1 = k + 1 ∧ notes[k]? = some best.2 ∧ (∀ n ∈ notes, noteDistance ref sum best.2 ≤ noteDistance ref sum n) ∧
    ∀ (j n : Nat), j < k → notes[j]? = some n → noteDistance ref sum best.2 < noteDistance ref sum n

/-- One more note: it is chosen where it is strictly nearer. -/
theorem isNearest_snoc {notes : List Nat} {best : Nat × Nat} (h : IsNearest ref sum notes best) (n : Nat) :
    IsNearest ref sum (notes ++ [n]) (if strictlyNearer ref sum n best.2 then (notes.length + 1, n) else best) := by
  obtain ⟨k, hk, hbest, hall, hearlier⟩ := h
  have hklt : k < notes.length := (List.getElem?_eq_some_iff.1 hbest).1
  have hmem {m j : Nat} (hj : (notes ++ [n])[j]? = some m) (hlt : j < notes.length) : notes[j]? = some m := by
    rwa [List.getElem?_append_left hlt] at hj
  split
  · next hnear =>
    have hlt := (strictlyNearer_iff href hsum n best.2).1 hnear
    refine ⟨notes.length, rfl, by simp, fun m hm => ?_, fun j m hj hjm => ?_⟩
    · rcases List.mem_append.1 hm with hm | hm
      · exact hlt.le.trans (hall m hm)
      · rw [List.mem_singleton.1 hm]
    · exact hlt.trans_le (hall m (List.mem_of_getElem? (hmem hjm hj)))
  · next hfar =>
    have hle : noteDistance ref sum best.2 ≤ noteDistance ref sum n :=
      not_lt.1 fun hlt => hfar ((strictlyNearer_iff href hsum n best.2).2 hlt)
    refine ⟨k, hk, by rw [List.getElem?_append_left hklt]; exact hbest, fun m hm => ?_, fun j m hj hjm => ?_⟩
    · rcases List.mem_append.1 hm with hm | hm
      · exact hall m hm
      · rw [List.mem_singleton.1 hm]
        exact hle
    · exact hearlier j m hj (hmem hjm (hj.trans hklt))

theorem isNearest_nearestString (rest : List Nat) {notes : List Nat} {best : Nat × Nat}
    (h : IsNearest ref sum notes best) :
    IsNearest ref sum (notes ++ rest) (nearestString ref sum best (notes.length + 1) rest) := by
  induction rest generalizing notes best with
  | nil => rwa [List.append_nil]
  | cons n rest ih =>
    have hnext := ih (isNearest_snoc href hsum h n)
    rwa [List.append_assoc, List.length_append] at hnext

end

theorem isNearest_first (ref sum n : Nat) : IsNearest ref sum [n] (1, n) :=
  ⟨0, rfl, rfl, fun m hm => by rw [List.mem_singleton.1 hm], fun j m hj => absurd hj (by omega)⟩

/-! ### Bands (R130) -/

/-- A reading with its target and its string. -/
def Tuner.readingAt (u : Tuner) (sum : Nat) (target : Int) (string : Option Nat) : Reading where
  mode := u.mode
  centihertz := centihertz sum
  note := target.toNat
  string := string
  deviation := deviation u.reference sum target
  band := bandOf u.wIn u.wNear (deviation u.reference sum target)

theorem readingAt_note (u : Tuner) (sum : Nat) (target : Int) (string : Option Nat) :
    (u.readingAt sum target string).note = target.toNat := rfl

theorem readingAt_deviation (u : Tuner) (sum : Nat) {target : Int} (h : 0 ≤ target) (string : Option Nat) :
    (u.readingAt sum target string).deviation = deviation u.reference sum (u.readingAt sum target string).note := by
  rw [readingAt_note, Int.toNat_of_nonneg h]
  rfl

theorem readingOf_of_free {u : Tuner} (h : u.mode = .free) (notes : List Nat) (sum : Nat) :
    readingOf u notes sum = u.readingAt sum (freeNote u.reference sum) none := by
  unfold readingOf Tuner.readingAt
  rw [h]

theorem readingOf_of_string {u : Tuner} (h : u.mode = .string) (n : Nat) (rest : List Nat) (sum : Nat) :
    readingOf u (n :: rest) sum = u.readingAt sum (nearestString u.reference sum (1, n) 2 rest).2
      (some (nearestString u.reference sum (1, n) 2 rest).1) := by
  unfold readingOf Tuner.readingAt
  rw [h]

section

variable {wIn wNear : Nat} (hin : 1 ≤ wIn) (hnear : wIn ≤ wNear) (dev : Int)

include hin hnear

theorem bandOf_iff :
    (bandOf wIn wNear dev = .inTune ↔ -(wIn : Int) ≤ dev ∧ dev ≤ wIn) ∧
    (bandOf wIn wNear dev = .nearFlat ↔ -(wNear : Int) ≤ dev ∧ dev < -(wIn : Int)) ∧
    (bandOf wIn wNear dev = .nearSharp ↔ (wIn : Int) < dev ∧ dev ≤ wNear) ∧
    (bandOf wIn wNear dev = .flat ↔ dev < -(wNear : Int)) ∧ (bandOf wIn wNear dev = .sharp ↔ (wNear : Int) < dev) := by
  unfold bandOf
  split_ifs
  all_goals
    simp only [true_iff, false_iff]
    omega

end

end Sys2Proof.Machine

namespace Sys2Proof.TunerReadings

open Sys2Proof.Machine

/-- Settles O48: the target by the mode, the nearest string by the list of notes, the band by its four bounds. -/
theorem readingRecord : Obligations.ReadingRecord := by
  intro u notes sum hrefLo hrefHi hsumLo hsumHi hne hnotes r f dist
  have href : 0 < u.reference := by omega
  have hsum : 0 < sum := by omega
  have hdist (n : Nat) : dist n = noteDistance u.reference sum n := by
    simp only [dist, f, logb_div_note href hsum, noteDistance]
  obtain ⟨hlow, -⟩ := freeNote_mem hrefLo hrefHi hsumLo hsumHi
  have hfree (hmode : u.mode = .free) : r = u.readingAt sum (freeNote u.reference sum) none := 
    readingOf_of_free hmode notes sum
  obtain ⟨n, rest, rfl⟩ := List.exists_cons_of_ne_nil hne
  have hstring (hmode : u.mode = .string) : r = u.readingAt sum (nearestString u.reference sum (1, n) 2 rest).2
      (some (nearestString u.reference sum (1, n) 2 rest).1) := 
    readingOf_of_string hmode n rest sum
  have hband : r.band = bandOf u.wIn u.wNear r.deviation := rfl
  refine ⟨rfl, rfl, ?_, fun hmode => ?_, fun hmode => ?_, fun hin hnear => ?_⟩
  · cases hmode : u.mode with
    | free =>
      rw [hfree hmode]
      exact readingAt_deviation u sum (by omega) none
    | string =>
      rw [hstring hmode]
      exact readingAt_deviation u sum (Int.natCast_nonneg _) _
  · rw [hfree hmode, readingAt_note, Int.toNat_of_nonneg (by omega)]
    exact ⟨rfl, rfl⟩
  · obtain ⟨k, hk, hget, hall, hearlier⟩ := isNearest_nearestString href hsum rest (isNearest_first u.reference sum n)
    rw [hstring hmode]
    simp only [hdist]
    exact ⟨k, congrArg some hk, hget, hall, hearlier⟩
  · rw [hband]
    exact bandOf_iff hin hnear _

end Sys2Proof.TunerReadings

/-! The mute mask and the safety timer (R144 to R146), DC windows, latches, ACK and FORCE (R158 to R166). -/

namespace Sys2Proof.Machine

/-! ### MUTE (R144, R145) -/

section

variable {s : State} {m : Byte}

/-- The mask of a MUTE byte. -/
def muteMask (m : Byte) : BusMask := ⟨m.toNat % 2 = 1, m.toNat / 2 % 2 = 1, 4 ≤ m.toNat⟩

theorem busMaskOf_of_lt (h : m.toNat < 8) : busMaskOf m.toNat = some (muteMask m) := by
  have hall : ∀ n ∈ List.range 8, busMaskOf n = some ⟨n % 2 = 1, n / 2 % 2 = 1, 4 ≤ n⟩ := by decide
  exact hall _ (List.mem_range.2 h)

theorem muteMask_isEmpty (h : m.toNat < 8) : (muteMask m).isEmpty = true ↔ m = 0 := by
  have hall : ∀ n ∈ List.range 8, (BusMask.mk (n % 2 = 1) (n / 2 % 2 = 1) (4 ≤ n)).isEmpty = true ↔ n = 0 := by decide
  rw [byte_eq_iff]
  exact hall _ (List.mem_range.2 h)

theorem BusMask.isEmpty_iff (m : BusMask) : m.isEmpty = true ↔ m = .none := by
  rcases m with ⟨_ | _, _ | _, _ | _⟩ <;> decide

/-- The safety timer after a MUTE (R145). -/
def Mixer.timerAfterMute (x : Mixer) (m : Byte) : Option Nat :=
  if m = 0 then none
  else if x.mask = .none then (if x.safetySetting = 0 then none else some (1000 * x.safetySetting))
  else x.timer

theorem mute_of_mask (h : m.toNat < 8) : mute [m] s = (.ok, raiseNotice .mute (s.withMixer
    { s.mixer with mask := muteMask m, expired := false, timer := s.mixer.timerAfterMute m })) := by
  simp only [mute, num_one, busMaskOf_of_lt h, muteMask_isEmpty h, BusMask.isEmpty_iff]
  rfl

theorem mute_of_bad (h : 8 ≤ m.toNat) : mute [m] s = (.badRequest, s) := by
  simp [mute, busMaskOf, Nat.not_lt.2 h]

end

/-! ### Pairs -/

theorem pair_setPair (p : Protection) (b b' : Bus) (c c' : ProtClass) (x : Pair) :
    (p.setPair b c x).pair b' c' = if b' = b ∧ c' = c then x else p.pair b' c' := by
  simp only [Protection.pair, Protection.setPair, PerBus.get_set]
  by_cases hb : b' = b
  · subst hb
    simp only [if_true, PerClass.get_set, true_and]
  · simp only [hb, if_false, false_and]

theorem judging_iff (p : Protection) :
    p.judging = true ↔ 4096 ≤ p.phase ∨ ∃ b c, (p.pair b c).latchDue = true := by
  have hbus (b : Bus) : b ∈ buses := by cases b <;> decide
  have hclass (c : ProtClass) : c ∈ protClasses := by cases c <;> decide
  simp only [Protection.judging, Bool.or_eq_true, decide_eq_true_eq, List.any_eq_true, hbus, hclass, true_and]
  rfl

/-! ### The end of a DC window (R158, R160, R161) -/

section

variable {s : State}

/-- The conditions a window's end judges. -/
def windowConditions (p : Protection) (b : Bus) (_ : ProtClass) : Bool :=
  dcHolds (p.windowEnded.mean.get b) p.dcThreshold

theorem dcWindowEnd_protection (s : State) : (dcWindowEnd s).protection =
    { s.protection.windowEnded.stepPairs (· == .dc) (windowConditions s.protection) with
      request := (s.protection.windowEnded.stepPairs (· == .dc) (windowConditions s.protection)).wanted } :=
  movePairs_protection _ _ (s.withProtection s.protection.windowEnded)

theorem dcWindowEnd_mixer (s : State) : (dcWindowEnd s).mixer =
    { s.mixer with monRequest := (dcWindowEnd s).protection.request } := by
  rw [dcWindowEnd_protection]
  exact movePairs_mixer (· == .dc) (windowConditions s.protection) (s.withProtection s.protection.windowEnded)

/-- The DC pairs move by the mean, the others stand still. -/
theorem dcWindowEnd_pair (s : State) (b : Bus) (c : ProtClass) : (dcWindowEnd s).protection.pair b c =
    if c = .dc then (s.protection.pair b .dc).step s.protection.timers.dc (windowConditions s.protection b .dc)
    else s.protection.pair b c := by
  rw [dcWindowEnd_protection]
  refine (pair_stepPairs s.protection.windowEnded (· == .dc) (windowConditions s.protection) b c).trans ?_
  cases c <;> rfl

theorem windowConditions_iff (p : Protection) (b : Bus) (c : ProtClass) :
    windowConditions p b c = true ↔ p.dcThreshold ≤ (p.sum.get b / 4096).natAbs := by
  simp [windowConditions, dcHolds, Protection.windowEnded, PerBus.get_map]

theorem dcWindowEnd_stepRaises (p : Protection) :
    p.windowEnded.stepRaises (· == .dc) (windowConditions p) =
      buses.any (fun b => p.timers.dc == 0 && (p.pair b .dc).flag != windowConditions p b .dc) := by
  refine congrArg buses.any (funext fun b => ?_)
  simp only [protClasses, List.any_cons, List.any_nil, show (ProtClass.overLevel == .dc) = false from rfl,
    show (ProtClass.loss == .dc) = false from rfl, show (ProtClass.dc == .dc) = true from rfl, Bool.false_and, Bool.true_and,
    Bool.false_or, Bool.or_false]
  rfl

end

/-! ### A latch (R160, R162), and the notice after it -/

section

variable {s : State} {b : Bus} {c : ProtClass}

/-- Bus Protection after a latch. -/
def Protection.latched (p : Protection) (b : Bus) (c : ProtClass) : Protection :=
  p.setPair b c { p.pair b c with flag := true, latchDue := false }

theorem flagLatch_protection (b : Bus) (c : ProtClass) (s : State) : (flagLatch b c s).protection =
    { s.protection.latched b c with request := (s.protection.latched b c).wanted } := rfl

theorem flagLatch_mixer (b : Bus) (c : ProtClass) (s : State) : (flagLatch b c s).mixer =
    { s.mixer with monRequest := (flagLatch b c s).protection.request } := rfl

theorem flagLatch_pair (b' : Bus) (c' : ProtClass) : (flagLatch b c s).protection.pair b' c' =
    if b' = b ∧ c' = c then { s.protection.pair b c with flag := true, latchDue := false }
    else s.protection.pair b' c' :=
  pair_setPair _ _ _ _ _ _

theorem flagLatch_link (k : Link) : (flagLatch b c s).link k = (s.link k).raised .guard := by
  simp [flagLatch, formRequest]

/-- A free transmitter starts no notice while its link is held. -/
theorem choose_of_held {x : LinkIf} (hfree : x.tx = .free) (hheld : x.held s = true) (n : NoticeClass) (frame : List Byte) :
    (x.choose s).tx ≠ .notice n frame := by
  rcases x.choose_cases s with ⟨-, h⟩ | ⟨-, m, rest, -, h⟩ | ⟨-, -, h, -⟩
  · rw [h, hfree]
    simp
  · rw [h]
    simp
  · rw [hheld] at h
    exact absurd h (by simp)

/-- A free transmitter with no response and GUARD pending starts that notice, unless its link is held. -/
theorem choose_guard {x : LinkIf} (hfree : x.tx = .free) (hqueue : x.queue = []) (hflag : x.flags.guard = true)
    (hheld : x.held s = false) : (x.choose s).tx = .notice .guard (frameBytes ⟨0xF0, 0, guardBody s.protection⟩) := by
  have hfirst : x.flags.first = some .guard := by
    simp [NoticeSet.first, noticeClasses, NoticeSet.has, hflag]
  rw [LinkIf.choose, hfree, hqueue, hfirst]
  simp only [hheld, Bool.false_eq_true, if_false]
  rfl

end

/-! ### ACK and FORCE (R164, R166) -/

theorem busOf_eq (b : Byte) : busOf b = [Bus.fohL, .fohR, .mon, .amp][b.toNat]? := by
  by_cases hb : b.toNat < 4
  · have hcases : b = 0 ∨ b = 1 ∨ b = 2 ∨ b = 3 := by
      simp only [byte_eq_iff]
      change b.toNat = 0 ∨ b.toNat = 1 ∨ b.toNat = 2 ∨ b.toNat = 3
      omega
    rcases hcases with rfl | rfl | rfl | rfl <;> rfl
  · have hne (n : Byte) (hn : n.toNat < 4) : b ≠ n := fun h => hb (h ▸ hn)
    rw [List.getElem?_eq_none (Nat.not_lt.1 hb), busOf, if_neg (hne 0 (by decide)), if_neg (hne 1 (by decide)),
      if_neg (hne 2 (by decide)), if_neg (hne 3 (by decide))]

theorem protClassOf_eq (b : Byte) : protClassOf b = [ProtClass.overLevel, .dc, .loss][b.toNat]? := by
  by_cases hb : b.toNat < 3
  · have hcases : b = 0 ∨ b = 1 ∨ b = 2 := by
      simp only [byte_eq_iff]
      change b.toNat = 0 ∨ b.toNat = 1 ∨ b.toNat = 2
      omega
    rcases hcases with rfl | rfl | rfl <;> rfl
  · have hne (n : Byte) (hn : n.toNat < 3) : b ≠ n := fun h => hb (h ▸ hn)
    rw [List.getElem?_eq_none (Nat.not_lt.1 hb), protClassOf, if_neg (hne 0 (by decide)), if_neg (hne 1 (by decide)),
      if_neg (hne 2 (by decide))]

section

variable {s : State} {b c on : Byte} {bus : Bus} {cls : ProtClass}

/-- Bus Protection after an ACK. -/
def Protection.acked (p : Protection) (b : Bus) (c : ProtClass) : Protection :=
  p.setPair b c { p.pair b c with flag := false, count := 0, latchDue := false }

/-- Bus Protection replaced, the request formed again, and GUARD raised. -/
def guarded (p : Protection) (s : State) : State := raiseNotice .guard (formRequest (s.withProtection p))

theorem changesOnly_acted {p : Protection} {s : State} : changesOnly [.links, .protection, .mixer] s (guarded p s) :=
  (changesOnly_withProtection.comp changesOnly_formRequest (ds := [.protection, .mixer]) (by decide) (by decide)).comp
    changesOnly_raiseNotice (by decide) (by decide)

theorem guarded_protection (p : Protection) (s : State) : (guarded p s).protection = { p with request := p.wanted } := rfl

theorem guarded_mixer (p : Protection) (s : State) : (guarded p s).mixer = { s.mixer with monRequest := p.wanted } := rfl

theorem ack_of_pair (hb : [Bus.fohL, .fohR, .mon, .amp][b.toNat]? = some bus)
    (hc : [ProtClass.overLevel, .dc, .loss][c.toNat]? = some cls) :
    ack [b, c] s = (.ok, guarded (s.protection.acked bus cls) s) := by
  simp only [ack, num_one, num_cons_succ, byte1_of_toNat, busOf_eq, protClassOf_eq, hb, hc]
  rfl

theorem ack_of_bad (h : 4 ≤ b.toNat ∨ 3 ≤ c.toNat) : ack [b, c] s = (.badRequest, s) := by
  simp only [ack, num_one, num_cons_succ, byte1_of_toNat, busOf_eq, protClassOf_eq]
  rcases h with h | h
  · rw [List.getElem?_eq_none h]
  · rw [List.getElem?_eq_none (l := [ProtClass.overLevel, .dc, .loss]) h]
    cases [Bus.fohL, .fohR, .mon, .amp][b.toNat]? <;> rfl

theorem flagOf_of_lt (h : on.toNat < 2) : flagOf on = some (decide (on = 1)) := by
  rw [flagOf_eq, if_pos ((byte_le_one_iff on).1 (by omega))]

theorem force_of_class (hc : [ProtClass.overLevel, .dc, .loss][c.toNat]? = some cls) (hon : on.toNat < 2) :
    force [c, on] s =
      (.ok, guarded { s.protection with forced := s.protection.forced.set cls (decide (on = 1)) } s) := by
  simp only [force, num_one, num_cons_succ, byte1_of_toNat, protClassOf_eq, hc, flagOf_of_lt hon]
  rfl

theorem force_of_bad (h : 3 ≤ c.toNat ∨ 2 ≤ on.toNat) : force [c, on] s = (.badRequest, s) := by
  simp only [force, num_one, num_cons_succ, byte1_of_toNat, protClassOf_eq]
  rcases h with h | h
  · rw [List.getElem?_eq_none h]
  · have hnone : flagOf on = none := by
      rw [flagOf_eq, if_neg fun hc => absurd ((byte_le_one_iff on).2 hc) (by omega)]
    rw [hnone]
    cases [ProtClass.overLevel, .dc, .loss][c.toNat]? <;> rfl

end

end Sys2Proof.Machine

namespace Sys2Proof.OutputProtection

open Sys2Proof.Machine

/-- Settles O49: the mask a byte names, and the timer by the mask before and after. -/
theorem muteAndSafetyTimer : Obligations.MuteAndSafetyTimer := by
  refine ⟨fun s l tag m hacc htag => ⟨_, exec_answered .mute [m] hacc htag rfl (by decide) rfl rfl, fun hm => ?_,
    fun hm => ?_⟩, fun s htimer => ?_⟩
  · exact refusedWith_answered (mute_of_bad hm)
  · have hmute := mute_of_mask (s := accepted l s) hm
    refine ⟨carriedOut_answered (R := (· == .mute)) hmute
      (raisesOnly_raised changesOnly_withMixer (by decide) fun _ => rfl)
      (changesOnly_withMixer.comp changesOnly_raiseNotice (by decide) (by decide)), ?_⟩
    simp only [requestAnswered_mixer, deliver, hmute]
    rfl
  · have hdue : due .safetyTimerExpiry s = true := by simp [due, htimer]
    obtain ⟨hkept, hann⟩ := (raisesOnly_safetyExpiry s).pumped
    exact ⟨_, exec_event hdue, changesOnly_safetyExpiry.comp changesOnly_pumped (by decide) (by decide), hkept, rfl, hann⟩

/-- Settles O50: the pairs after a window's end and after a latch, and what a free transmitter then starts. -/
theorem dcWindowEndAndFlagLatch : Obligations.DcWindowEndAndFlagLatch := by
  refine ⟨fun s hphase => ?_, fun s b c hlatch => ?_⟩
  · have hdue : due .dcWindowEnd s = true := decide_eq_true hphase
    have hR : RaisesOnly (fun n => s.protection.windowEnded.stepRaises (· == .dc) (windowConditions s.protection) &&
        n == .guard) s (dcWindowEnd s) :=
      .after (.of_changesOnly changesOnly_withProtection (by decide))
        (raisesOnly_movePairs _ _ (s.withProtection s.protection.windowEnded))
    refine ⟨_, exec_event hdue, changesOnly_dcWindowEnd.comp changesOnly_pumped (by decide) (by decide), hR.pumped.1, ?_⟩
    intro p q limit
    have hq : q = (dcWindowEnd s).protection := rfl
    have hdc (b : Bus) : q.pair b .dc = (p.pair b .dc).step p.timers.dc (windowConditions p b .dc) :=
      (dcWindowEnd_pair s b .dc).trans (if_pos rfl)
    have hcond (b : Bus) : (q.pair b .dc).cond = windowConditions p b .dc := by rw [hdc, Pair.step_cond]
    refine ⟨fun b => ⟨?_, ?_, fun ht => ?_, fun ht => ?_, ?_, ?_⟩, ?_, ?_, ?_, ?_⟩
    · rw [hq, dcWindowEnd_protection]
      exact PerBus.get_map ..
    · rw [hcond]
      exact windowConditions_iff p b .dc
    · rw [hcond, hdc, Pair.step_of_pos _ ht]
      exact ⟨rfl, rfl, by simp [limit, and_assoc]⟩
    · rw [hcond, hdc, ht, Pair.step_of_zero]
    · exact (dcWindowEnd_pair s b .overLevel).trans (if_neg (by decide))
    · exact (dcWindowEnd_pair s b .loss).trans (if_neg (by decide))
    · rw [hq, dcWindowEnd_protection]
      rfl
    · have hmon : (q.pair .mon .overLevel) = p.pair .mon .overLevel :=
        (dcWindowEnd_pair s .mon .overLevel).trans (if_neg (by decide))
      rw [← hmon, hq, dcWindowEnd_protection]
      rfl
    · exact dcWindowEnd_mixer s
    · refine (hR.congr fun n => ?_).pumped.2
      rw [dcWindowEnd_stepRaises, Bool.and_comm]
      congr 2
      funext b
      rw [hcond]
  · have hdue : due (.flagLatch b c) s = true := hlatch
    obtain ⟨hkept, hann⟩ := (raisesOnly_flagLatch b c s).pumped
    refine ⟨_, exec_event hdue, changesOnly_flagLatch.comp changesOnly_pumped (by decide) (by decide), hkept,
      (flagLatch_pair b c).trans (if_pos ⟨rfl, rfl⟩), fun b' c' h => (flagLatch_pair b' c').trans (if_neg h), rfl, rfl,
      rfl, hann, ?_⟩
    intro more k hfree
    have hmore : (flagLatch b c s).protection.judging = true ↔ more := judging_iff _
    have hlink := pump_link (flagLatch b c s) k
    rw [flagLatch_link] at hlink
    have hfree' : ((s.link k).raised .guard).tx = .free := by rw [LinkIf.raised_tx, hfree]
    refine ⟨fun hm n frame => ?_, fun hm hqueue hmask hreset hdrop => ?_⟩
    · change ((pump (flagLatch b c s)).link k).tx ≠ _
      rw [hlink]
      split
      · rw [hfree']
        simp
      · exact choose_of_held hfree' (by rw [LinkIf.held, hmore.2 hm, Bool.or_true]) n frame
    · change ((pump (flagLatch b c s)).link k).tx = _
      have hraised : (s.link k).raised .guard = { s.link k with flags := (s.link k).flags.put .guard true } := if_pos hmask
      have hnotDue : ¬(k = .crew ∧ (flagLatch b c s).resetDue = true) := fun h => by
        rw [show (flagLatch b c s).resetDue = s.resetDue from rfl, hreset] at h
        exact absurd h.2 (by simp)
      have hheld : ((s.link k).raised .guard).held (flagLatch b c s) = false := by
        have hjudged : (flagLatch b c s).protection.judging = false := by
          rw [← Bool.not_eq_true, hmore]
          exact hm
        have hdue : ((s.link k).raised .guard).dropDue = false := by
          rw [← Bool.not_eq_true, hraised]
          exact fun h => hdrop ((LinkIf.dropDue_iff _).1 h)
        rw [LinkIf.held, hjudged, hdue]
        rfl
      rw [hlink, if_neg hnotDue]
      refine (choose_guard hfree' (by rw [hraised]; exact hqueue) (by rw [hraised]; rfl) hheld).trans rfl

/-- Settles O51: the pair an ACK clears and the flag a FORCE writes; both form the request again and raise GUARD. -/
theorem ackAndForce : Obligations.AckAndForce := by
  intro s tag hacc htag
  refine ⟨fun b c => ⟨_, exec_answered .ack [b, c] hacc htag rfl (by decide) rfl rfl, fun h => ?_, fun bus cls hb hc => ?_⟩,
    fun c on => ⟨_, exec_answered .force [c, on] hacc htag rfl (by decide) rfl rfl, fun h => ?_, fun cls hc hon => ?_⟩⟩
  · exact refusedWith_answered (ack_of_bad h)
  · have hack := ack_of_pair (s := accepted .crew s) hb hc
    refine ⟨carriedOut_answered hack (raisesOnly_guarded _ _)
      changesOnly_acted, ?_⟩
    simp only [requestAnswered_protection, requestAnswered_mixer, deliver, hack, guarded_protection, guarded_mixer]
    exact ⟨(pair_setPair ..).trans (if_pos ⟨rfl, rfl⟩), fun b' c' h => (pair_setPair ..).trans (if_neg h), rfl, rfl, rfl⟩
  · exact refusedWith_answered (force_of_bad h)
  · have hforce := force_of_class (s := accepted .crew s) hc hon
    refine ⟨carriedOut_answered hforce (raisesOnly_guarded _ _) changesOnly_acted, ?_⟩
    simp only [requestAnswered_protection, requestAnswered_mixer, deliver, hforce, guarded_protection, guarded_mixer]
    exact ⟨rfl, rfl⟩

end Sys2Proof.OutputProtection

/-! The links (chapter 10): clearing, subscribing and RESET; the two resets; breaks, drops and control milliseconds. -/

namespace Sys2Proof.Machine

/-! ### The links after a response -/

section

variable {t : ReqType} {l k : Link} {tag : Byte} {o : Result × State} {s : State}

/-- The responding link, its reserved slot queued. -/
theorem requestAnswered_link_core : ((requestAnswered t l tag o).link l).core =
    { (o.2.link l).core with
      reserved := (o.2.link l).reserved - 1, queue := (o.2.link l).queue ++ [resultMessage t tag o.1] } := by
  rw [requestAnswered, pump_link_core, respond, queueMessage, State.link_setLink_self]
  rfl

theorem requestAnswered_link_core_of_ne (hk : k ≠ l) :
    ((requestAnswered t l tag o).link k).core = (o.2.link k).core := by
  rw [requestAnswered, pump_link_core, respond, queueMessage, State.link_setLink_other _ _ hk]

end

/-- A link with a response queued starts it where its transmitter is free, and goes on otherwise. -/
theorem LinkIf.choose_of_queued {s : State} {x : LinkIf} (hqueue : x.queue ≠ []) :
    (x.choose s).flags = x.flags ∧ (x.tx = .free → ∃ frame, (x.choose s).tx = .response frame) ∧
      (x.tx ≠ .free → (x.choose s).tx = x.tx) := by
  rcases x.choose_cases s with ⟨hrest, h⟩ | ⟨hfree, m, rest, -, h⟩ | ⟨-, hempty, -⟩
  · exact ⟨by rw [h], fun hfree => absurd (hrest.resolve_left (absurd hfree)).1 hqueue, fun _ => by rw [h]⟩
  · rw [h]
    exact ⟨rfl, fun _ => ⟨_, rfl⟩, absurd hfree⟩
  · exact absurd hempty hqueue

/-! ### SUBSCRIBE (R181) -/

/-- The class of each bit of a class mask. -/
theorem noticeSetOf_of_lt {n : Nat} (h : n < 128) : ∃ m, noticeSetOf n = some m ∧
    ∀ c : NoticeClass, m.has c = n.testBit ((noticeClasses.findIdx? (fun d => d == c)).getD 7) :=
  ⟨_, if_pos h, fun c => by cases c <;> rfl⟩

theorem has_resubscribe (old new flags : NoticeSet) (c : NoticeClass) :
    (old.resubscribe new flags).has c = (new.has c && (flags.has c || !old.has c)) := by
  cases c <;> rfl

theorem resetDue_of_accepting {l : Link} {s : State} (h : accepting l s = true) : s.resetDue = false :=
  not_due_of_quiet (quiet_of_listening (listening_of_accepting h)) (e := .softReset)

/-! ### The resets -/

/-- After a soft reset no transmitter has anything to send. -/
theorem served_softReset (s : State) : Served (softReset s) := by
  intro k
  exact .inr (.inl (by cases k <;> exact ⟨rfl, .inl rfl⟩))

theorem softReset_link (s : State) (k : Link) : (softReset s).link k = (s.link k).softReset := by
  cases k <;> rfl

/-- The soft reset and the transmitters' choice after it, block by block. -/
theorem softResetDone_pump (s : State) : softResetDone s (pump (softReset s)) := by
  rw [pump_of_served (served_softReset s)]
  exact ⟨rfl, rfl, rfl, rfl, rfl, rfl, rfl, rfl, rfl, rfl, rfl, rfl, softReset_link s⟩

/-! ### Breaks and drops (R189, R202, R203) -/

section

variable {l k : Link} {s t u : State}

/-- What a step raises is told by the transmitters, masks and pending flags it starts from, and by nothing else. -/
theorem raises_from {R : Link → NoticeClass → Bool} (h : raises R s u)
    (hlinks : ∀ k, (s.link k).tx = (t.link k).tx ∧ (s.link k).mask = (t.link k).mask ∧ (s.link k).flags = (t.link k).flags) :
    raises R t u := by
  intro k
  obtain ⟨htx, hmask, hflags⟩ := hlinks k
  obtain ⟨htx', hflags'⟩ := h k
  exact ⟨htx'.trans htx, fun c => by rw [hflags', hmask, hflags]⟩

/-- A change of one link that leaves its transmitter, its mask and its pending flags raises nothing. -/
theorem raises_setLink {x : LinkIf} (htx : x.tx = (s.link l).tx) (hflags : x.flags = (s.link l).flags) :
    raises noClass s (s.setLink l x) := by
  intro k
  by_cases hk : k = l
  · subst hk
    rw [State.link_setLink_self]
    exact ⟨htx, fun c => by simp [hflags, noClass]⟩
  · rw [State.link_setLink_other _ _ hk]
    exact ⟨rfl, fun c => by simp [noClass]⟩

theorem breakBegins_of_high (h : (s.link l).lineLow = false) :
    breakBegins l s = s.setLink l { s.link l with lineLow := true, breakPartial := true, breakCount := 0 } := by
  simp [breakBegins, h]

/-- A receiving line that has returned to idle. -/
def LinkIf.lineRaised (x : LinkIf) : LinkIf :=
  { x with lineLow := false, breakPartial := false, breakCount := 0, breakJudged := false }

theorem Receiver.assembling_iff (r : Receiver) : r.assembling = true ↔ r ≠ .hunt := by
  cases r <;> simp [Receiver.assembling]

theorem breakEnd_of_low (h : (s.link l).lineLow = true) :
    breakEnd l s = if (s.link l).rx = .hunt then s.setLink l (s.link l).lineRaised
      else discard l .badFrame (s.setLink l (s.link l).lineRaised) := by
  have hrx : (s.link l).lineRaised.rx = (s.link l).rx := rfl
  rw [breakEnd, if_pos h]
  change (if ((s.setLink l (s.link l).lineRaised).link l).rx.assembling = true then _ else _) = _
  rw [State.link_setLink_self, hrx]
  by_cases hhunt : (s.link l).rx = .hunt
  · rw [if_pos hhunt, if_neg (by rw [Receiver.assembling_iff]; exact not_not.mpr hhunt)]
    rfl
  · rw [if_neg hhunt, if_pos ((Receiver.assembling_iff _).2 hhunt)]
    rfl

/-- A link that has dropped starts nothing: it has kept no response but the one being sent, and no pending notice. -/
theorem LinkIf.dropped_choose (x : LinkIf) (s : State) : x.dropped.choose s = x.dropped := by
  rcases x.dropped.choose_cases s with ⟨-, h⟩ | ⟨hfree, m, rest, hqueue, -⟩ | ⟨-, -, -, c, hfirst, -⟩
  · exact h
  · have htx : x.tx = .free := hfree
    have hempty : x.dropped.queue = [] := by simp [LinkIf.dropped, LinkIf.keptQueue, htx]
    simp [hempty] at hqueue
  · rw [NoticeSet.first_eq_none.mpr (show x.dropped.flags = .none from rfl)] at hfirst
    simp at hfirst

/-- A drop of a link that is not the closing CREW link, and the transmitters' choice after it. -/
theorem pump_linkDrop_link (h : ¬(l = .crew ∧ (s.link l).closing = true)) :
    (pump (linkDrop l s)).link l = (s.link l).dropped := by
  rw [pump_link, linkDrop_eq, if_neg h]
  split
  · simp
  · simp [LinkIf.dropped_choose]

theorem linkDrop_changesOnly (h : ¬(l = .crew ∧ (s.link l).closing = true)) :
    changesOnly [.links, .arbiter] s (linkDrop l s) := by
  rw [linkDrop_eq, if_neg h]
  exact changesOnly_setLink.comp changesOnly_withArbiter (ds := [.links, .arbiter]) (by decide) (by decide)

/-- The soft reset leaves nothing of a drop of the CREW link but the break judged. -/
theorem softReset_dropped (s : State) :
    softReset ((s.setLink .crew (s.link .crew).dropped).withArbiter (s.arbiter.drop .crew)) =
      softReset (s.setLink .crew { s.link .crew with breakJudged := true }) := rfl

/-! ### Control milliseconds (R88, R145, R189, R202) -/

theorem LinkIf.millisecond_core (x : LinkIf) : x.millisecond.core =
    if x.lineLow = true then
      (if x.breakPartial = true then { x.core with breakPartial := false }
       else { x.core with breakCount := min 10 (x.breakCount + 1) })
    else if x.rx ≠ .hunt then { x.core with gap := min 3 (x.gap + 1) }
    else x.core := by
  simp only [LinkIf.millisecond, Receiver.assembling_iff, Config.breakEnd, Config.gapEnd, Nat.min_comm _ 10, Nat.min_comm _ 3]
  split_ifs <;> rfl

theorem raises_controlMillisecond (s : State) : raises noClass s (controlMillisecond s) := by
  intro k
  have hlink : (controlMillisecond s).link k = (s.link k).millisecond := by cases k <;> rfl
  have hkept : (s.link k).millisecond.tx = (s.link k).tx ∧ (s.link k).millisecond.flags = (s.link k).flags := by
    unfold LinkIf.millisecond
    split_ifs <;> exact ⟨rfl, rfl⟩
  rw [hlink]
  exact ⟨hkept.1, fun c => by simp [hkept.2, noClass]⟩

end

end Sys2Proof.Machine

namespace Sys2Proof.ControlLinks

open Sys2Proof.Machine

/-- Settles O52: each owner's answer on the accepted link; a link left alone has nothing to choose. -/
theorem clearSubscribeReset : Obligations.ClearSubscribeReset := by
  intro s tag htag
  refine ⟨fun hacc => ⟨_, exec_answered .captureClear [] hacc htag rfl (by decide) rfl rfl, ?clear, rfl⟩,
    fun l m hacc => ⟨_, exec_answered .subscribe [m] hacc htag rfl (by decide) (by cases l <;> rfl) rfl, fun hm => ?_, fun hm => ?_⟩,
    fun hacc => ⟨_, exec_answered .reset [] hacc htag rfl (by decide) rfl rfl, ?reset⟩⟩
  case clear => exact carriedOut_silently (u := (accepted .crew s).withCapture none) rfl changesOnly_withCapture (by decide)
  case refine_1 =>
    have hnone : noticeSetOf m.toNat = none := if_neg (Nat.not_lt.mpr hm)
    refine refusedWith_answered ?_
    rw [deliver, subscribe, num_one, hnone]
  case refine_2 =>
    obtain ⟨mask, hmask, hbits⟩ := noticeSetOf_of_lt hm
    have hanswer : deliver .subscribe l [m] (accepted l s) = (.ok, (accepted l s).setLink l
        { (accepted l s).link l with
          mask := mask, flags := (s.link l).mask.resubscribe mask (s.link l).flags }) := by
      rw [deliver, subscribe, num_one, hmask, accepted_link]
    rw [hanswer]
    set u := (accepted l s).setLink l _ with hu
    have hlink : u.link l = { (accepted l s).link l with
        mask := mask, flags := (s.link l).mask.resubscribe mask (s.link l).flags } := State.link_setLink_self ..
    have hqueued : (queueMessage l (resultMessage .subscribe tag .ok) u).link l =
        { s.link l with
          rx := .hunt, gap := 0, queue := (s.link l).queue ++ [resultMessage .subscribe tag .ok], mask := mask
          flags := (s.link l).mask.resubscribe mask (s.link l).flags } := by
      rw [queueMessage, State.link_setLink_self, hlink, accepted_link]
      rfl
    have hchosen : (requestAnswered .subscribe l tag (.ok, u)).link l =
        ((queueMessage l (resultMessage .subscribe tag .ok) u).link l).choose
          (queueMessage l (resultMessage .subscribe tag .ok) u) := by
      refine (pump_link ..).trans (if_neg fun h => ?_)
      exact absurd h.2 (by rw [show (respond l .subscribe tag .ok u).resetDue = s.resetDue from rfl, resetDue_of_accepting hacc]; simp)
    have hmask' : ((requestAnswered .subscribe l tag (.ok, u)).link l).mask = mask := by
      rw [hchosen, LinkIf.choose_mask, hqueued]
    obtain ⟨hflags, hstarts, hgoes⟩ := LinkIf.choose_of_queued
      (s := queueMessage l (resultMessage .subscribe tag .ok) u)
      (x := (queueMessage l (resultMessage .subscribe tag .ok) u).link l) (by rw [hqueued]; simp)
    rw [← hchosen, hqueued] at hflags hstarts hgoes
    have hother {k : Link} (hk : k ≠ l) : u.link k = s.link k :=
      (State.link_setLink_other _ _ hk).trans (accepted_link_other s hk)
    refine ⟨?frame, ?_, fun k hk => ?_, fun hserved k hk => ?_, hstarts, hgoes, fun n => ⟨?_, ?_⟩⟩
    case frame =>
      exact (changesOnly_accepted.trans (hu ▸ changesOnly_setLink)).trans changesOnly_queueMessage |>.pumped.mono (by decide)
    · rw [requestAnswered_link_core, hlink, hmask', accepted_link]
      rfl
    · rw [requestAnswered_link_core_of_ne hk, hother hk]
    · exact pump_link_of_served ((transmittersServed_iff s).1 hserved) rfl id
        ((State.link_setLink_other _ _ hk).trans (hother hk))
    · rw [hmask', hbits]
    · rw [hflags, hmask', has_resubscribe]
  case reset =>
    have hanswer : deliver .reset .crew [] (accepted .crew s) =
        (.ok, (accepted .crew s).setLink .crew { (accepted .crew s).link .crew with closing := true }) := rfl
    rw [hanswer]
    refine ⟨?_, ?_, fun k hk => ?_, ?_⟩
    · exact (changesOnly_accepted.trans changesOnly_setLink).trans changesOnly_queueMessage |>.pumped.mono (by decide)
    · rw [requestAnswered_link_core, State.link_setLink_self, accepted_link]
      rfl
    · rw [requestAnswered_link_core_of_ne hk, State.link_setLink_other _ _ hk, accepted_link_other s hk]
    · exact announces_request (raises_setLink rfl rfl)

/-- Settles O53: the blocks of the two resets; after a soft reset the transmitters have nothing to choose. -/
theorem resetsRestoreBlocks : Obligations.ResetsRestoreBlocks := by
  refine ⟨fun s => ⟨powerOn s, rfl, rfl, fun k => ?_, rfl⟩, fun s h => ⟨_, exec_event (e := .softReset) h, softResetDone_pump s⟩⟩
  cases k <;> rfl

/-- Settles O55: each of the four rows as the change of its links, and the transmitters' choice after it. -/
theorem breaksAndMilliseconds : Obligations.BreaksAndMilliseconds := by
  refine ⟨fun s l hquiet hhigh => ?_, fun s l hquiet hlow => ?_, fun s l hlow hcount hjudged hopen => ?_,
    fun s hlow hcount hjudged hclosing => ?_, fun s hquiet => ?_⟩
  · refine ⟨_, congrArg Host.Outcome.next (outside_of_quiet hquiet _), changesOnly_breakBegins.pumped.mono (by decide), ?_⟩
    rw [breakBegins_of_high hhigh]
    refine ⟨announces_pump (raises_setLink rfl rfl), ?_, fun k hk => ?_⟩
    · rw [pump_link_core, State.link_setLink_self]
      rfl
    · rw [pump_link_core, State.link_setLink_other _ _ hk]
  · refine ⟨_, congrArg Host.Outcome.next (beside_of_quiet hquiet _ _), ?_⟩
    rw [breakEnd_of_low hlow]
    have hraised : raises noClass s (s.setLink l (s.link l).lineRaised) := raises_setLink rfl rfl
    have hlinks : ∀ k, ((s.setLink l (s.link l).lineRaised).link k).tx = (s.link k).tx ∧
        ((s.setLink l (s.link l).lineRaised).link k).mask = (s.link k).mask ∧
        ((s.setLink l (s.link l).lineRaised).link k).flags = (s.link k).flags := fun k => by
      rw [State.link_setLink]
      split
      · next hk =>
        subst hk
        exact ⟨rfl, rfl, rfl⟩
      · exact ⟨rfl, rfl, rfl⟩
    by_cases hhunt : (s.link l).rx = .hunt
    · rw [if_pos hhunt]
      refine ⟨fun k hk => ?_, fun _ => ⟨changesOnly_setLink.pumped.mono (by decide), announces_pump hraised, ?_⟩, absurd hhunt⟩
      · rw [pump_link_core, State.link_setLink_other _ _ hk]
      · rw [pump_link_core, State.link_setLink_self]
        rfl
    · rw [if_neg hhunt]
      refine ⟨fun k hk => ?_, (absurd · hhunt), fun _ => ⟨?_, ?_, discard_capture .., ?_⟩⟩
      · rw [pump_link_core, discard_link_core_of_ne hk, State.link_setLink_other _ _ hk]
      · exact (changesOnly.comp (ds := [.links, .capture]) changesOnly_setLink (changesOnly_discard _ _ _) (by decide)
          (by decide)).pumped.mono (by decide)
      · rw [pump_link_core, discard_link_core_self, State.link_setLink_self]
        rfl
      · exact announces_pump (raises_from (raises_discard l .badFrame _) hlinks)
  · have hdue : due (.linkDrop l) s = true := (LinkIf.dropDue_iff _).2 ⟨hlow, hcount.ge, hjudged⟩
    have hlink := pump_linkDrop_link hopen
    refine ⟨_, exec_event hdue, (linkDrop_changesOnly hopen).pumped.mono (by decide), ?_, ?_, ?_, fun k hk => ?_, ?_⟩
    · rw [effect, hlink]
      rfl
    · rw [effect, hlink]
      rfl
    · rw [effect, hlink]
      rfl
    · rw [effect, pump_link_core, linkDrop_eq, if_neg hopen, State.link_withArbiter, State.link_setLink_other _ _ hk]
    · rw [effect, pump_arbiter, linkDrop_eq, if_neg hopen]
      rfl
  · have hdue : due (.linkDrop .crew) s = true := (LinkIf.dropDue_iff _).2 ⟨hlow, hcount.ge, hjudged⟩
    refine ⟨_, exec_event hdue, ?_⟩
    rw [effect, linkDrop_eq, if_pos ⟨rfl, hclosing⟩, softReset_dropped]
    exact softResetDone_pump _
  · refine ⟨_, congrArg Host.Outcome.next (outside_of_quiet hquiet _), changesOnly_controlMillisecond.pumped.mono (by decide),
      announces_pump (raises_controlMillisecond s), rfl, rfl, fun k => ?_⟩
    rw [pump_link_core, ← LinkIf.millisecond_core]
    cases k <;> rfl

end Sys2Proof.ControlLinks

/-! What a transmitter sends: the notices' bodies as bytes (R184, R211), and the choice at the end of a message (R182, R205). -/

namespace Sys2Proof.Machine

/-! ### Sets and indices as bytes (R207) -/

/-- A set as a byte: bit n is the n-th of the list. -/
def bitSet (xs : List Bool) : Byte := BitVec.ofNat 8 (xs.zipIdx.map (fun e => if e.1 then 2 ^ e.2 else 0)).sum

theorem bitSet_two (a b : Bool) : bitSet [a, b] = byte1 (bit a 0 + bit b 1) := by
  simp [bitSet, byte1, bit, List.zipIdx_cons]

theorem bitSet_three (a b c : Bool) : bitSet [a, b, c] = byte1 (bit a 0 + bit b 1 + bit c 2) := by
  simp [bitSet, byte1, bit, List.zipIdx_cons, Nat.add_assoc]

theorem bitSet_buses (f : PerBus Bool) : bitSet [f.fohL, f.fohR, f.mon, f.amp] = byte1 (busBits f 0) := by
  simp [bitSet, byte1, busBits, bit, List.zipIdx_cons, Nat.add_assoc]

theorem bitSet_buses_buses (f g : PerBus Bool) :
    bitSet [f.fohL, f.fohR, f.mon, f.amp, g.fohL, g.fohR, g.mon, g.amp] = byte1 (busBits f 0 + busBits g 4) := by
  simp [bitSet, byte1, busBits, bit, List.zipIdx_cons, Nat.add_assoc]

theorem indexByte_eq (o : Option Nat) : indexByte o = byte1 (o.getD 255) := by
  cases o <;> rfl

/-- The number of a link as a byte. -/
def linkByte (k : Link) : Byte := byte1 (linkNumber k)

theorem byte1_map_linkNumber (o : Option Link) : byte1 ((o.map linkNumber).getD 0) = (o.map linkByte).getD 0 := by
  cases o <;> rfl

theorem indexByte_map_linkNumber (o : Option Link) : indexByte (o.map linkNumber) = (o.map linkByte).getD 255 := by
  cases o <;> rfl

/-! ### The bodies of the notices (R184, R211) -/

/-- The two bytes of a bit of every pair. -/
theorem pairBytes_eq (p : Protection) (f : Pair → Bool) :
    pairBytes p f =
      [bitSet ([Bus.fohL, .fohR, .mon, .amp].map (fun b => f (p.pair b .overLevel)) ++
          [Bus.fohL, .fohR, .mon, .amp].map (fun b => f (p.pair b .dc))),
        bitSet ([Bus.fohL, .fohR, .mon, .amp].map (fun b => f (p.pair b .loss)))] :=
  congrArg₂ (fun a b => [a, b]) (bitSet_buses_buses ..).symm (bitSet_buses _).symm

theorem guardBody_eq (p : Protection) :
    guardBody p = pairBytes p (fun x => x.flag) ++ [bitSet [p.forced.overLevel, p.forced.dc, p.forced.loss]] := by
  rw [guardBody, bitSet_three]

theorem FaultClass.major_eq (c : FaultClass) : c.major = decide (c = .loadFail ∨ c = .powerOn ∨ c = .softReset) := by
  cases c <;> rfl

theorem faultBody_some (r : FaultRec) :
    faultBody (some r) = [1, r.cls.code, flagByte (decide (r.cls = .loadFail ∨ r.cls = .powerOn ∨ r.cls = .softReset)),
      bitSet [r.link.isSome, r.place.isSome, r.preset.isSome], (r.link.map linkByte).getD 0,
      byte1 ((r.place.map Prod.fst).getD 0), byte1 ((r.place.map Prod.snd).getD 0), byte1 (r.preset.getD 0)] := by
  rw [faultBody, FaultClass.major_eq, bitSet_three, byte1_map_linkNumber]

theorem sceneBody_eq (e : Engine) :
    sceneBody e = [byte1 ((e.scene.map (fun sc => sc.source)).getD 255), flagByte (e.scene.any (fun sc => sc.dirty)),
      byte1 ((e.shown.map (fun r => r.kind.code)).getD 255), flagByte e.transition.isSome,
      (e.shown.map (fun r => linkByte r.origin)).getD 255,
      bitSet [e.shown.any (fun r => r.tailCut), e.shown.any (fun r => r.editsDiscarded)]] := by
  have horigin : indexByte (e.shown.map (fun r => linkNumber r.origin)) = (e.shown.map (fun r => linkByte r.origin)).getD 255 := by
    cases e.shown <;> rfl
  rw [sceneBody, horigin, bitSet_two, indexByte_eq, indexByte_eq]

/-- A set of buses as a byte. -/
theorem byte1_busMask (m : BusMask) : byte1 m.number = bitSet [m.foh, m.mon, m.amp] := (bitSet_three ..).symm

theorem muteBody_eq (m : Mixer) :
    muteBody m = [bitSet [m.mask.foh, m.mask.mon, m.mask.amp], flagByte m.tunerMute,
      bitSet [m.heldSilent .fohL, m.heldSilent .mon, m.heldSilent .amp], flagByte m.timer.isSome, flagByte m.expired] := by
  rw [muteBody, byte1_busMask, byte1_busMask]

/-! ### The order of the notices (R179) -/

/-- The place of a class in the order of priority. -/
def NoticeClass.rank (c : NoticeClass) : Nat := (noticeClasses.findIdx? (fun d => d == c)).getD 7

/-- The pending class of the lowest rank is the one announced first. -/
theorem NoticeSet.first_eq_some {f : NoticeSet} {c : NoticeClass} (hc : f.has c = true)
    (hleast : ∀ d, f.has d = true → c.rank ≤ d.rank) : f.first = some c := by
  have hat : ∃ h : c.rank < noticeClasses.length, noticeClasses[c.rank] = c := by cases c <;> exact ⟨by decide, rfl⟩
  have hrank : ∀ (j : Nat) (h : j < noticeClasses.length), noticeClasses[j].rank = j := by decide
  obtain ⟨hlt, hget⟩ := hat
  refine List.find?_eq_some_iff_getElem.2 ⟨hc, c.rank, hlt, hget, fun j hj => ?_⟩
  rw [Bool.not_eq_true', ← Bool.not_eq_true]
  intro hpending
  have := hleast _ hpending
  rw [hrank] at this
  omega

/-! ### What a free transmitter chooses (R182) -/

section

variable {s : State} {x : LinkIf}

theorem LinkIf.choose_response (hfree : x.tx = .free) {m : Message} (hqueue : x.queue.head? = some m) :
    x.choose s = { x with tx := .response (frameBytes m) } := by
  obtain ⟨rest, hqueue⟩ := List.head?_eq_some_iff.1 hqueue
  rw [LinkIf.choose, hfree, hqueue]

theorem LinkIf.choose_notice (hfree : x.tx = .free) (hqueue : x.queue = []) (hheld : x.held s = false) {c : NoticeClass}
    (hfirst : x.flags.first = some c) :
    x.choose s = { x with
      tx := .notice c (frameBytes ⟨c.code, 0, noticeBody s x c⟩), flags := x.flags.put c false } := by
  rw [LinkIf.choose, hfree, hqueue, hfirst]
  simp only [hheld, Bool.false_eq_true, if_false]

theorem LinkIf.choose_nothing (hqueue : x.queue = []) (hflags : x.flags = .none) : x.choose s = x := by
  rcases x.choose_cases s with ⟨-, h⟩ | ⟨-, m, rest, hm, -⟩ | ⟨-, -, -, c, hfirst, -⟩
  · exact h
  · simp [hqueue] at hm
  · rw [NoticeSet.first_eq_none.mpr hflags] at hfirst
    simp at hfirst

/-- Where nothing is due, no link is held. -/
theorem held_of_quiet (h : quiet s = true) (l : Link) : (s.link l).held s = false := by
  have hdrop : (s.link l).dropDue = false := not_due_of_quiet h (.linkDrop l)
  have hjudging : s.protection.judging = false := by
    rw [← Bool.not_eq_true, judging_iff]
    rintro (hphase | ⟨b, c, hlatch⟩)
    · have := not_due_of_quiet h .dcWindowEnd
      simp only [due, decide_eq_false_iff_not] at this
      exact this hphase
    · have : (s.protection.pair b c).latchDue = false := not_due_of_quiet h (.flagLatch b c)
      simp [hlatch] at this
  rw [LinkIf.held, hdrop, hjudging]
  rfl

/-! ### The end of a message (R182, R205) -/

/-- The responses that are left when the message a link is sending ends. -/
def LinkIf.remaining (x : LinkIf) : List Message :=
  match x.tx with
  | .response _ => x.queue.drop 1
  | _ => x.queue

/-- A link whose message has ended. -/
def LinkIf.sent (x : LinkIf) : LinkIf := { x with tx := .free, queue := x.remaining }

/-- Whether the message that a link is sending is the OK of the RESET that closed it. -/
def LinkIf.sendsResetOk (x : LinkIf) : Prop :=
  x.closing = true ∧ (∃ frame, x.tx = .response frame) ∧ ∃ tag, x.queue.head? = some (resultMessage .reset tag .ok)

theorem isResetOk_iff (m : Message) : isResetOk m = true ↔ ∃ tag, m = resultMessage .reset tag .ok := by
  rw [isResetOk, Bool.and_eq_true, beq_iff_eq, beq_iff_eq]
  obtain ⟨type, tag, body⟩ := m
  constructor
  · rintro ⟨rfl, rfl⟩
    exact ⟨tag, rfl⟩
  · rintro ⟨_, h⟩
    cases h
    exact ⟨rfl, rfl⟩

theorem any_take_one_iff {α : Type} (p : α → Bool) (xs : List α) :
    (xs.take 1).any p = true ↔ ∃ a, xs.head? = some a ∧ p a = true := by
  cases xs <;> simp

theorem resetOk_queued_iff (x : LinkIf) :
    (x.queue.take 1).any isResetOk = true ↔ ∃ tag, x.queue.head? = some (resultMessage .reset tag .ok) := by
  simp only [any_take_one_iff, isResetOk_iff]
  exact ⟨fun ⟨_, hm, tag, heq⟩ => ⟨tag, heq ▸ hm⟩, fun ⟨tag, hm⟩ => ⟨_, hm, tag, rfl⟩⟩

theorem messageEnds_of_notice {l : Link} {c : NoticeClass} {frame : List Byte} (h : (s.link l).tx = .notice c frame) :
    messageEnds l s = s.setLink l (s.link l).sent := by
  simp only [messageEnds, LinkIf.sent, LinkIf.remaining, h]

theorem messageEnds_of_response {l : Link} {frame : List Byte} (h : (s.link l).tx = .response frame) :
    messageEnds l s =
      if l = .crew ∧ (s.link l).closing = true ∧ ((s.link l).queue.take 1).any isResetOk = true then
        (s.setLink l (s.link l).sent).withResetDue true
      else s.setLink l (s.link l).sent := by
  simp only [messageEnds, LinkIf.sent, LinkIf.remaining, h]

theorem messageEnds_links {l : Link} (h : (s.link l).tx ≠ .free) :
    (messageEnds l s).link l = (s.link l).sent ∧ ∀ k, k ≠ l → (messageEnds l s).link k = s.link k := by
  have hset : (s.setLink l (s.link l).sent).link l = (s.link l).sent ∧
      ∀ k, k ≠ l → (s.setLink l (s.link l).sent).link k = s.link k :=
    ⟨State.link_setLink_self .., fun k hk => State.link_setLink_other _ _ hk⟩
  cases htx : (s.link l).tx
  case free => exact absurd htx h
  case notice => rwa [messageEnds_of_notice htx]
  case response =>
    rw [messageEnds_of_response htx]
    split <;> exact hset

theorem messageEnds_resetDue_iff {l : Link} (h : s.resetDue = false) :
    (messageEnds l s).resetDue = true ↔ l = .crew ∧ (s.link l).sendsResetOk := by
  cases htx : (s.link l).tx
  case free => simp [messageEnds, LinkIf.sendsResetOk, htx, h]
  case notice => simp [messageEnds_of_notice htx, LinkIf.sendsResetOk, htx, h]
  case response =>
    rw [messageEnds_of_response htx]
    simp only [resetOk_queued_iff]
    split
    · next hends => simpa [LinkIf.sendsResetOk, htx] using hends
    · next hends => simpa [LinkIf.sendsResetOk, htx, h] using hends

end

end Sys2Proof.Machine

namespace Sys2Proof.ControlLinks

open Sys2Proof.Machine

/-- Settles O56: the bodies of the notices as bytes, and the choice of the freed transmitter by what the link has to send. -/
theorem messageSentChoosesNext : Obligations.MessageSentChoosesNext := by
  intro s l hquiet hserved hbusy
  have hreset : s.resetDue = false := not_due_of_quiet hquiet (e := .softReset)
  obtain ⟨hlink, hothers⟩ := messageEnds_links hbusy
  have hdue := messageEnds_resetDue_iff (l := l) hreset
  have hkept : changesOnly [.links, .resetDue] s (messageEnds l s) := changesOnly_messageEnds
  have hheld : (s.link l).sent.held (messageEnds l s) = false := by
    have hprotection : (messageEnds l s).protection = s.protection := hkept.same .protection (by decide)
    rw [LinkIf.held, hprotection]
    exact held_of_quiet hquiet l
  have hcontent : ∀ n, noticeBody (messageEnds l s) (s.link l).sent n = noticeBody s (s.link l) n := by
    intro n
    cases n <;> unfold noticeBody
    case guard => rw [hkept.same .protection (by decide)]
    case fault => rw [hkept.same .capture (by decide)]
    case scene => rw [hkept.same .engine (by decide)]
    case mute => rw [hkept.same .mixer (by decide)]
    case tuner => rw [hkept.same .tuner (by decide)]
    case tempo => rw [hkept.same .control (by decide)]
    case link => rfl
  refine ⟨_, congrArg Host.Outcome.next (outside_of_quiet hquiet _), hkept.pumped.mono (by decide), fun k hk => ?_, ?_⟩
  · exact pump_link_of_served ((transmittersServed_iff s).1 hserved) (hkept.same .protection (by decide))
      (fun h => absurd h (by rw [hreset]; simp)) (hothers k hk)
  intro x n1 flag bits linkNo all flagOf report silent type body rest ok
  have hno : linkNo = linkByte := funext fun k => by cases k <;> rfl
  have htype : ∀ n, type n = n.code := fun n => by cases n <;> rfl
  have hreport : report = s.engine.shown := by
    rcases htr : s.engine.transition with _ | tr <;> simp only [report, Engine.shown, htr]
  have hbody : ∀ n, body n = noticeBody s x n := by
    intro n
    cases n
    case guard => exact ((guardBody_eq _).trans (congrArg (· ++ _) (pairBytes_eq ..))).symm
    case fault =>
      simp only [body, hno, noticeBody]
      cases s.capture with
      | none => rfl
      | some r =>
        obtain ⟨cls, held, place, preset⟩ := r
        rw [faultBody_some]
        cases cls <;> rfl
    case scene =>
      simp only [body, hno, hreport, noticeBody, sceneBody_eq]
      cases s.engine.shown with
      | none => rfl
      | some r =>
        obtain ⟨origin, kind, cut, discarded⟩ := r
        cases kind <;> rfl
    case mute => exact (muteBody_eq _).symm
    case tuner =>
      simp only [body, noticeBody, tunerBody, indexByte_eq]
      cases s.tuner.state <;> cases s.tuner.mode <;> cases s.tuner.current <;> rfl
    case tempo =>
      simp only [body, noticeBody, tempoBody, tempoQuotient]
      cases s.control.source <;> rfl
    case link =>
      simp only [body, noticeBody]
      rcases x.cause with _ | _ | _ | _ <;> rfl
  have hrest : rest = x.remaining := by
    rcases htx : (s.link l).tx with _ | _ | _ <;> simp only [rest, LinkIf.remaining, x, htx]
  have hok : ok ↔ l = .crew ∧ (s.link l).sendsResetOk := Iff.rfl
  have hends : (l = .crew ∧ (messageEnds l s).resetDue = true) ↔ ok := by
    rw [hdue, hok]
    exact ⟨fun h => h.2, fun h => ⟨h.1, h⟩⟩
  have hstays (h : ok) : (pump (messageEnds l s)).link l = x.sent := by
    rw [pump_link, if_pos (hends.2 h), hlink]
  have hchooses (h : ¬ok) : (pump (messageEnds l s)).link l = x.sent.choose (messageEnds l s) := by
    rw [pump_link, if_neg (h ∘ hends.1), hlink]
  have hsent (h : x.remaining = []) : x.sent = { x with queue := [], tx := .free } := by rw [LinkIf.sent, h]
  rw [hrest]
  refine ⟨hdue, hstays, fun h m hm => ?_, fun h hempty n hn hleast => ?_, fun h hempty hnone => ?_⟩
  · rw [hchooses h, LinkIf.choose_response rfl hm]
    rfl
  · have hchosen := LinkIf.choose_notice (x := x.sent) rfl hempty hheld (NoticeSet.first_eq_some hn hleast)
    rw [hchooses h, hchosen, hcontent, htype, hbody, hsent hempty]
  · rw [hchooses h, LinkIf.choose_nothing (x := x.sent) hempty hnone, hsent hempty]

end Sys2Proof.ControlLinks

/-! Reception byte by byte (R187, R188): the bytes of a frame come to the command of the frame. -/

namespace Sys2Proof.Machine

/-! ### The codes of the settings and items (R212, R214) -/

theorem settingOf_code (x : Setting) : settingOf x.code = some x := by
  cases x
  case tenure k => cases k <;> decide
  all_goals decide

theorem settingOf_eq_some_iff {b : Byte} {x : Setting} : settingOf b = some x ↔ b = x.code := by
  constructor
  · intro h
    have hcode : (x.code == b) = true := List.find?_some (p := fun y : Setting => y.code == b) h
    exact (beq_iff_eq.1 hcode).symm
  · rintro rfl
    exact settingOf_code x

theorem itemOf_code (it : Item) : itemOf it.code = some it := by cases it <;> decide

theorem itemOf_eq_some_iff {b : Byte} {it : Item} : itemOf b = some it ↔ b = it.code := by
  constructor
  · intro h
    have hcodes : ∀ (i : Nat) (hi : i < items.length), items[i].code.toNat = i := by decide
    obtain ⟨hlt, rfl⟩ := List.getElem?_eq_some_iff.1 h
    exact BitVec.eq_of_toNat_eq (hcodes _ hlt).symm
  · rintro rfl
    exact itemOf_code it

/-! ### One byte (R188) -/

section

variable {l : Link} {b : Byte} {s : State}

theorem receive_sync (h : (s.link l).rx = .hunt) (hb : b = 0xE7) : receive l b s = setReceiver l .length s := by
  simp [receive, h, hb, Config.syncByte]

theorem receive_noise (h : (s.link l).rx = .hunt) (hb : b ≠ 0xE7) : receive l b s = s := by
  rw [receive, h]
  exact if_neg hb

theorem receive_length (h : (s.link l).rx = .length) (hlo : 2 ≤ b.toNat) (hhi : b.toNat ≤ 62) :
    receive l b s = setReceiver l (.content b.toNat []) s := by
  rw [receive, h]
  exact if_pos ⟨hlo, hhi⟩

theorem receive_badLength (h : (s.link l).rx = .length) (hb : b.toNat < 2 ∨ 62 < b.toNat) :
    receive l b s = discard l .badFrame s := by
  rw [receive, h]
  exact if_neg (by omega)

/-- The receiver with some bytes of a content of n bytes. -/
def contentReceiver (n : Nat) (bytes : List Byte) : Receiver := if bytes.length < n then .content n bytes else .check n bytes

theorem receive_content {n : Nat} {bytes : List Byte} (h : (s.link l).rx = .content n bytes) :
    receive l b s = setReceiver l (contentReceiver n (bytes ++ [b])) s := by
  rw [receive, h, contentReceiver]
  dsimp only
  by_cases hlt : (bytes ++ [b]).length < n
  · rw [if_neg (Nat.not_le.mpr hlt), if_pos hlt]
  · rw [if_pos (Nat.not_lt.mp hlt), if_neg hlt]

theorem receive_badCheck {n : Nat} {bytes : List Byte} (h : (s.link l).rx = .check n bytes)
    (hsum : (frameSum n bytes + b.toNat) % 256 ≠ 0) : receive l b s = discard l .badCheck s := by
  rw [receive, h]
  exact if_neg hsum

theorem receive_frame {n : Nat} {type tag : Byte} {body : List Byte} (h : (s.link l).rx = .check n (type :: tag :: body))
    (hsum : (frameSum n (type :: tag :: body) + b.toNat) % 256 = 0) :
    receive l b s = acceptFrame l type tag body (setReceiver l .hunt s) := by
  rw [receive, h]
  exact if_pos hsum

/-- A frame with a tag of 0 is a bad frame, whatever its length (R190). -/
theorem acceptFrame_tag_zero (type : Byte) (body : List Byte) :
    acceptFrame l type 0 body (setReceiver l .hunt s) = discard l .badFrame s := by
  rw [acceptFrame, acceptance, if_pos rfl, ite_self, discard_setReceiver]

theorem exec_byteReceived (h : listening l s = true) (b : Byte) : exec (.byteReceived l b) s = .next (pump (receive l b s)) :=
  congrArg Host.Outcome.next (byteArrives_of_listening h b)

theorem exec_badFrame (h : listening l s = true) : exec (.badFrame l) s = .next (pump (discard l .badFrame s)) := by
  refine congrArg Host.Outcome.next ?_
  rw [frameArrives_of_listening h, discard_setReceiver]

theorem exec_badCheck (h : listening l s = true) : exec (.badCheck l) s = .next (pump (discard l .badCheck s)) := by
  refine congrArg Host.Outcome.next ?_
  rw [frameArrives_of_listening h, discard_setReceiver]

/-- A byte that moves the receiver moves nothing else. -/
theorem moved_setReceiver (l : Link) (r : Receiver) (s : State) :
    changesOnly [.links] s (pump (setReceiver l r s)) ∧ announces noClass s (pump (setReceiver l r s)) ∧
      ((pump (setReceiver l r s)).link l).core = { (s.link l).core with rx := r, gap := 0 } ∧
      ∀ k : Link, k ≠ l → ((pump (setReceiver l r s)).link k).core = (s.link k).core := by
  refine ⟨changesOnly_setReceiver.pumped.mono (by decide), announces_pump (raises_setLink rfl rfl), ?_, fun k hk => ?_⟩
  · rw [pump_link_core, setReceiver, State.link_setLink_self]
    rfl
  · rw [pump_link_core, setReceiver, State.link_setLink_other _ _ hk]

/-! ### The bytes of a whole frame (R187) -/

theorem setReceiver_link (l : Link) (r : Receiver) (s : State) (k : Link) :
    (setReceiver l r s).link k = if k = l then { s.link l with rx := r, gap := 0 } else s.link k := State.link_setLink ..

theorem setReceiver_setReceiver (l : Link) (r r' : Receiver) (s : State) :
    setReceiver l r' (setReceiver l r s) = setReceiver l r' s := by
  simp only [setReceiver, State.link_setLink_self, State.setLink_setLink]

theorem setReceiver_rx (l : Link) (r : Receiver) (s : State) : ((setReceiver l r s).link l).rx = r := by
  rw [setReceiver_link, if_pos rfl]

/-- With its gap count at 0 a receiver's state brings no event about. -/
theorem due_setReceiver (h : quiet s = true) (l : Link) (r : Receiver) (e : Event) : due e (setReceiver l r s) = due e s := by
  cases e
  case gapTimeout k =>
    rw [not_due_of_quiet h]
    by_cases hk : k = l
    · simp [due, setReceiver_link, hk, Config.gapEnd]
    · have := not_due_of_quiet h (.gapTimeout k)
      simpa only [due, setReceiver_link, if_neg hk] using this
  case linkDrop k =>
    by_cases hk : k = l
    · subst hk
      rw [due, setReceiver_link, if_pos rfl]
      rfl
    · rw [due, setReceiver_link, if_neg hk]
      rfl
  all_goals rfl

theorem listening_setReceiver (h : listening l s = true) (r : Receiver) : listening l (setReceiver l r s) = true := by
  rw [listening, quiet_congr (due_setReceiver (quiet_of_listening h) l r), setReceiver_link, if_pos rfl]
  exact h

theorem exec_byteReceived_moves {r r' : Receiver} (hlisten : listening l s = true) (hserved : Served s)
    (hmoves : receive l b (setReceiver l r s) = setReceiver l r' (setReceiver l r s)) :
    exec (.byteReceived l b) (setReceiver l r s) = .next (setReceiver l r' s) := by
  rw [exec_byteReceived (listening_setReceiver hlisten r), hmoves, setReceiver_setReceiver,
    pump_of_served (served_setReceiver hserved)]

/-- One byte received, if what came before answered a next state. -/
def afterByte (l : Link) (o : Host.Outcome State Fault Refusal) (b : Byte) : Host.Outcome State Fault Refusal :=
  match o with
  | .next v => exec (.byteReceived l b) v
  | x => x

/-- The bytes of a content gather in the receiver. -/
theorem foldl_content (hlisten : listening l s = true) (hserved : Served s) (n : Nat) :
    ∀ (rest done : List Byte), done.length + rest.length = n →
      rest.foldl (afterByte l) (.next (setReceiver l (contentReceiver n done) s)) =
        .next (setReceiver l (.check n (done ++ rest)) s)
  | [], done, hlen => by
    have hdone : ¬done.length < n := by simp at hlen; omega
    rw [List.foldl_nil, contentReceiver, if_neg hdone, List.append_nil]
  | b :: rest, done, hlen => by
    have hdone : done.length < n := by simp at hlen; omega
    have hbyte : afterByte l (.next (setReceiver l (contentReceiver n done) s)) b =
        .next (setReceiver l (contentReceiver n (done ++ [b])) s) := by
      rw [contentReceiver, if_pos hdone]
      exact exec_byteReceived_moves hlisten hserved (receive_content (setReceiver_rx ..))
    rw [List.foldl_cons, hbyte, foldl_content hlisten hserved n rest (done ++ [b]) (by simp at hlen ⊢; omega),
      List.append_assoc, List.singleton_append]

/-- SYNC, LEN and the content bring the receiver to the CHECK byte. -/
theorem foldl_frame (hlisten : listening l s = true) (hserved : Served s) {content : List Byte} {r : Receiver} (hr : r = .hunt)
    (hlo : 2 ≤ content.length) (hhi : content.length ≤ 62) :
    ([0xE7, BitVec.ofNat 8 content.length] ++ content).foldl (afterByte l) (.next (setReceiver l r s)) =
      .next (setReceiver l (.check content.length content) s) := by
  subst hr
  have hlength : (BitVec.ofNat 8 content.length).toNat = content.length := by
    rw [BitVec.toNat_ofNat]
    omega
  have hsync : afterByte l (.next (setReceiver l .hunt s)) 0xE7 = .next (setReceiver l .length s) :=
    exec_byteReceived_moves hlisten hserved (receive_sync (setReceiver_rx ..) rfl)
  have hlen : afterByte l (.next (setReceiver l .length s)) (BitVec.ofNat 8 content.length) =
      .next (setReceiver l (contentReceiver content.length []) s) := by
    refine exec_byteReceived_moves hlisten hserved ?_
    rw [receive_length (setReceiver_rx ..) (by omega) (by omega), hlength, contentReceiver,
      if_pos (show ([] : List Byte).length < content.length from Nat.lt_of_lt_of_le (by decide) hlo)]
  rw [List.foldl_append, List.foldl_cons, List.foldl_cons, List.foldl_nil, hsync, hlen,
    foldl_content hlisten hserved _ content [] (by simp), List.nil_append]

end

/-! ### The check byte -/

theorem foldl_add_eq (bs : List Byte) (n : Byte) :
    bs.foldl (fun n b => n + b) n = n + BitVec.ofNat 8 (bs.map BitVec.toNat).sum := by
  induction bs generalizing n with
  | nil => simp
  | cons b bs ih => simp [ih, BitVec.ofNat_add, BitVec.add_assoc]

/-- The CHECK byte of a content. -/
def checkByte (content : List Byte) : Byte := 0 - (BitVec.ofNat 8 content.length + content.foldl (fun n b => n + b) 0)

theorem checkByte_eq (content : List Byte) : checkByte content = 0 - BitVec.ofNat 8 (frameSum content.length content) := by
  rw [checkByte, foldl_add_eq, frameSum, BitVec.ofNat_add]
  exact congrArg (fun n => 0 - (BitVec.ofNat 8 content.length + n)) (BitVec.zero_add _)

theorem checkByte_eq_byte1 (content : List Byte) :
    byte1 (256 - frameSum content.length content % 256) = checkByte content := by
  rw [checkByte_eq, byte1]
  apply BitVec.eq_of_toNat_eq
  have hzero : (0 : Byte).toNat = 0 := rfl
  rw [BitVec.toNat_ofNat, BitVec.toNat_sub, BitVec.toNat_ofNat, hzero]
  omega

theorem frameSum_checkByte (content : List Byte) :
    (frameSum content.length content + (checkByte content).toNat) % 256 = 0 := by
  have hzero : (0 : Byte).toNat = 0 := rfl
  rw [checkByte_eq, BitVec.toNat_sub, BitVec.toNat_ofNat, hzero]
  omega

/-! ### A sound frame is its row -/

theorem checkRequest_setting {x : Setting} {v : BitVec 24} {l : Link} {tag : Byte} {s : State} :
    checkRequest .setting l tag [x.code, v.extractLsb' 16 8, v.extractLsb' 8 8, v.extractLsb' 0 8] s =
      if !ReqType.setting.permitted l then respond l .setting tag .notPermitted s
      else respond l .setting tag (setting x v.toNat s).1 (setting x v.toNat s).2 := by
  have hvalue : num [x.code, v.extractLsb' 16 8, v.extractLsb' 8 8, v.extractLsb' 0 8] 1 3 = v.toNat := by
    rw [num_cons_succ, num_three, BitVec.extractLsb'_toNat, BitVec.extractLsb'_toNat, BitVec.extractLsb'_toNat,
      Nat.shiftRight_eq_div_pow, Nat.shiftRight_eq_div_pow, Nat.shiftRight_zero]
    have := v.isLt
    omega
  have hdeliver : deliver .setting l [x.code, v.extractLsb' 16 8, v.extractLsb' 8 8, v.extractLsb' 0 8] s =
      setting x v.toNat s := by
    rw [deliver, num_one, byte1_of_toNat, settingOf_code, hvalue]
  have hlength {f g : State} : (if !ReqType.setting.lengthOk 4 then f else g) = g := rfl
  exact if_congr Iff.rfl rfl (hlength.trans (by rw [carryOut_eq_respond (by decide), hdeliver]))

theorem checkRequest_query {it : Item} {l : Link} {tag part : Byte} {args : List Byte} {s : State} :
    checkRequest .query l tag (it.code :: part :: args) s =
      if 3 < args.length then respond l .query tag .badRequest s
      else queueMessage l ⟨ReqType.query.responseCode, tag,
        (queryItem l it part.toNat args s).1.code :: (queryItem l it part.toNat args s).2⟩ s := by
  have hpermitted : ReqType.query.permitted l = true := (ReqType.permitted_iff .query l).2 (.inl (by decide))
  have hlength : (!ReqType.query.lengthOk (it.code :: part :: args).length) = true ↔ 3 < args.length := by
    change (!(decide (2 ≤ args.length + 2) && decide (args.length + 2 ≤ 5))) = true ↔ 3 < args.length
    simp
  have hanswer : answerQuery l (it.code :: part :: args) s = queryItem l it part.toNat args s := by
    rw [answerQuery, num_one, byte1_of_toNat, itemOf_code, num_cons_succ, num_one]
    rfl
  rw [checkRequest, hpermitted, if_neg (show ¬(!true) = true by decide), carryOut, hanswer]
  exact if_congr hlength rfl rfl

/-- On a link that listens a sound frame's row does what acceptance does. -/
theorem exec_sound {l : Link} {type tag : Byte} {body : List Byte} {c : Instr} {s : State} (hlisten : listening l s = true)
    (hrow : (∃ ty : ReqType, ty.code = type ∧ ty.command l tag body = some c) ∨
      (∃ (x : Setting) (v : BitVec 24), type = 0x61 ∧
        body = [x.code, v.extractLsb' 16 8, v.extractLsb' 8 8, v.extractLsb' 0 8] ∧ c = x.command l tag v) ∨
      (∃ (it : Item) (part : Byte) (args : List Byte), type = 0x62 ∧ body = it.code :: part :: args ∧
        c = it.command l tag part args) ∨
      (reqTypeOf type = none ∧ c = .unknownRequest l type tag body)) :
    exec c s = .next (pump (acceptFrame l type tag body (setReceiver l .hunt s))) := by
  rcases hrow with ⟨ty, rfl, hc⟩ | ⟨x, v, rfl, rfl, rfl⟩ | ⟨it, part, args, rfl, rfl, rfl⟩ | ⟨hnone, rfl⟩
  · rw [exec_of_command hc, requestArrives, frameArrives_of_listening hlisten, acceptFrame, reqTypeOf_code]
  · have htype : reqTypeOf 0x61 = some .setting := reqTypeOf_code .setting
    rw [exec_settingCommand, settingArrives, frameArrives_of_listening hlisten, acceptFrame, htype]
    simp only [checkRequest_setting]
    rfl
  · have htype : reqTypeOf 0x62 = some .query := reqTypeOf_code .query
    rw [exec_itemCommand, queryArrives, frameArrives_of_listening hlisten, acceptFrame, htype]
    simp only [checkRequest_query]
  · have hunknown : ∀ ty : ReqType, ty.code ≠ type := fun ty hty => by
      rw [← hty, reqTypeOf_code] at hnone
      simp at hnone
    rw [exec_unknownRequest hunknown, frameArrives_of_listening hlisten, acceptFrame, hnone]

end Sys2Proof.Machine

namespace Sys2Proof.ControlLinks

open Sys2Proof.Machine

/-- Settles O57: the receiver's state decides what a byte does; over a frame's content the bytes gather in it, and the CHECK
byte brings the frame to acceptance as its row does. -/
theorem bytesMakeFrames : Obligations.BytesMakeFrames := by
  refine ⟨fun s l b hlisten => ⟨_, exec_byteReceived hlisten b, ?_⟩,
    fun s l type tag body c hlisten hserved hhunt hgap hbody htag hrow => ?_⟩
  · intro moved
    have hmoved {r : Receiver} (h : receive l b s = setReceiver l r s) : moved r := by
      simp only [moved, h]
      exact moved_setReceiver l r s
    refine ⟨fun h hb => hmoved (receive_sync h hb), fun h hb => ?_, fun h hlo hhi => hmoved (receive_length h hlo hhi),
      fun h hb => ?_, fun n bytes h => ?_, fun n bytes h hsum => ?_, fun n bytes type body h hsum hzero => ?_⟩
    · rw [receive_noise h hb]
      exact ⟨(changesOnly.refl [] s).pumped, (RaisesOnly.refl s).pumped⟩
    · rw [exec_badFrame hlisten, receive_badLength h hb]
    · have hcontent := hmoved (receive_content (b := b) h)
      rwa [contentReceiver, List.length_append, List.length_singleton] at hcontent
    · rw [exec_badCheck hlisten, receive_badCheck h hsum]
    · subst hzero
      rw [exec_badFrame hlisten, receive_frame h hsum, acceptFrame_tag_zero]
  · intro content check
    have hstart : setReceiver l .hunt s = s := by
      have hself : { s.link l with rx := .hunt, gap := 0 } = s.link l := by rw [← hhunt, ← hgap]
      rw [setReceiver, hself, State.setLink]
      exact congrArg s.withLinks (PerLink.set_get ..)
    have hsize : content.length = body.length + 2 := rfl
    have hserved' := (transmittersServed_iff s).1 hserved
    refine ⟨congrArg (fun b => [0xE7, BitVec.ofNat 8 content.length] ++ content ++ [b]) (checkByte_eq_byte1 content),
      setReceiver l (.check content.length content) s, ?_, ?_, ?_⟩
    · have hframe := foldl_frame hlisten hserved' (content := content) rfl (by omega) (by omega)
      rw [hstart] at hframe
      exact hframe
    · exact congrArg (fun g => s.setLink l { s.link l with rx := .check content.length content, gap := g }) hgap.symm
    · have hframe : receive l check (setReceiver l (.check content.length content) s) =
          acceptFrame l type tag body (setReceiver l .hunt s) := by
        rw [← setReceiver_setReceiver l (.check content.length content) .hunt s]
        exact receive_frame (setReceiver_rx ..) (frameSum_checkByte content)
      rw [exec_byteReceived (listening_setReceiver hlisten _), hframe, exec_sound hlisten hrow]

end Sys2Proof.ControlLinks

/-! The settings (R199, R214): what each owner does with the value it is given. -/

namespace Sys2Proof.Machine

section

variable {s : State} {x : Setting} {n : Nat}

/-! ### The checks (R199) -/

/-- A number kept to the range of a setting (R199, check 4). -/
def keptTo (range : Nat × Nat) (n : Nat) : Nat := max range.1 (min range.2 n)

theorem clamp_eq_keptTo {range : Nat × Nat} (h : range.1 ≤ range.2) : clamp range.1 range.2 n = keptTo range n := by
  unfold clamp keptTo
  split_ifs <;> omega

theorem setting_of_busy (hx : x.ofTuner = true) (h : s.tuner.engaged = true) : setting x n s = (.busy, s) := by
  rw [setting, if_pos (by rw [hx, h]; rfl)]

theorem setting_of_noBus (h : s.tuner.engaged = false) (hx : x = .tunerMuteSet) (hn : 8 ≤ n) :
    setting x n s = (.badRequest, s) := by
  rw [setting, if_neg (by simp [h]), if_pos ⟨hx, hn⟩]

theorem setting_of_stored (hfree : x.ofTuner = true → s.tuner.engaged = false) (hset : x = .tunerMuteSet → n < 8)
    (hrange : (settingRange s x).1 ≤ (settingRange s x).2) :
    setting x n s =
      (if keptTo (settingRange s x) n = n then .ok else .clamped, putSetting x (keptTo (settingRange s x) n) s) := by
  have htuner : ¬(x.ofTuner && s.tuner.engaged) = true := by
    rw [Bool.and_eq_true]
    exact fun h => absurd (hfree h.1) (by rw [h.2]; simp)
  rw [setting, if_neg htuner, if_neg fun h => Nat.not_le.mpr (hset h.1) h.2]
  simp only [inRange, clamp_eq_keptTo hrange, okOr, ne_eq, decide_not, Bool.not_eq_true', decide_eq_false_iff_not, ite_not]

/-! ### The tuner mute set (R133, log 14) -/

/-- The set of a number below 8. -/
theorem busMask_of_lt (h : n < 8) :
    (⟨n.testBit 0, n.testBit 1, n.testBit 2⟩ : BusMask) = ⟨n % 2 = 1, n / 2 % 2 = 1, 4 ≤ n⟩ := by
  have hall : ∀ n : Fin 8, (⟨n.val.testBit 0, n.val.testBit 1, n.val.testBit 2⟩ : BusMask) =
      ⟨n.val % 2 = 1, n.val / 2 % 2 = 1, 4 ≤ n.val⟩ := by decide
  exact hall ⟨n, h⟩

/-- A tuner mute set that is stored moves no notice where the mixer's copy of the request is up to date. -/
theorem raisesOnly_muteSet (h : tunerDerived s) (m : BusMask) :
    RaisesOnly noNotice s (handTunerMute (s.withTuner { s.tuner with muteSet := m })) := by
  have hactive : (s.withTuner { s.tuner with muteSet := m }).tuner.muteActive = s.tuner.muteActive := rfl
  have hsame : s.mixer.tunerMute = s.tuner.muteActive := h.1
  refine (RaisesOnly.trans (R := noNotice) (.of_changesOnly changesOnly_withTuner (by decide)) (raisesOnly_handTunerMute _)).congr
    fun k => ?_
  rw [hactive, State.withTuner_mixer, hsame, bne_self_eq_false]
  rfl

/-! ### The safety timer (R147) -/

theorem setSafetyTimer_mixer (v : Nat) (s : State) :
    (setSafetyTimer v s).mixer = { s.mixer with
      safetySetting := v
      timer := if s.mixer.mask = .none then s.mixer.timer else if v = 0 then none else some (1000 * v) } := by
  unfold setSafetyTimer
  simp only [BusMask.isEmpty_iff]
  split_ifs with hmask hv htimer
  · rfl
  · rw [State.withMixer_mixer, Option.isNone_iff_eq_none.1 htimer]
  · rfl
  · rfl

theorem Mixer.timerMoves_raises (m : Mixer) (v : Nat) (c : NoticeClass) :
    (c == .mute && !m.mask.isEmpty && !(v == 0 && m.timer.isNone)) = (m.timerMoves v && c == .mute) := by
  rw [Bool.eq_iff_iff]
  simp only [Mixer.timerMoves, Bool.and_eq_true, Bool.or_eq_true, Bool.not_eq_true', Bool.and_eq_false_iff, bne_iff_ne, ne_eq,
    beq_eq_false_iff_ne, Option.isNone_eq_false_iff]
  tauto

/-! ### The protection timers (R168) -/

/-- The pairs of a class with their counts at 0 and no latch due. -/
def clearedClass (c : ProtClass) (p : Protection) : Protection :=
  buses.foldl (fun q b => q.setPair b c { q.pair b c with count := 0, latchDue := false }) p

theorem pair_clearedClass (c : ProtClass) (p : Protection) (b : Bus) (c' : ProtClass) :
    (clearedClass c p).pair b c' = if c' = c then { p.pair b c' with count := 0, latchDue := false } else p.pair b c' := by
  simp only [clearedClass, buses, List.foldl_cons, List.foldl_nil, pair_setPair]
  by_cases hc : c' = c
  · subst hc
    cases b <;> simp
  · simp [hc]

/-- The protection after a class's timer has been set, short of the request. -/
def Protection.timed (p : Protection) (c : ProtClass) (v : Nat) : Protection :=
  if v = 0 then clearedClass c { p with timers := p.timers.set c v } else { p with timers := p.timers.set c v }

theorem setTimer_eq (c : ProtClass) (v : Nat) (s : State) :
    setTimer c v s = formRequest (s.withProtection (s.protection.timed c v)) := rfl

theorem timed_pair (p : Protection) (c : ProtClass) (v : Nat) (b : Bus) (c' : ProtClass) :
    (p.timed c v).pair b c' =
      if v = 0 ∧ c' = c then { p.pair b c' with count := 0, latchDue := false } else p.pair b c' := by
  unfold Protection.timed
  by_cases hv : v = 0
  · rw [if_pos hv, pair_clearedClass]
    exact if_congr (by simp [hv]) rfl rfl
  · rw [if_neg hv, if_neg fun h => hv h.1]
    rfl

/-- Nothing but the timer and the pairs is touched. -/
theorem timed_eq (p : Protection) (c : ProtClass) (v : Nat) :
    p.timed c v = { p with timers := p.timers.set c v, pairs := (p.timed c v).pairs } := by
  unfold Protection.timed
  split <;> rfl

/-- The request is formed from flags and force flags, which a timer leaves alone. -/
theorem timed_wanted (p : Protection) (c : ProtClass) (v : Nat) : (p.timed c v).wanted = p.wanted := by
  have hflag : ((p.timed c v).pair .mon .overLevel).flag = (p.pair .mon .overLevel).flag := by
    rw [timed_pair]
    split <;> rfl
  have hforced : (p.timed c v).forced = p.forced := by rw [timed_eq]
  rw [Protection.wanted, Protection.wanted, hflag, hforced]

/-- Where the request is up to date, a timer changes Bus Protection alone. -/
theorem setTimer_of_derived (h : requestDerived s) (c : ProtClass) (v : Nat) :
    setTimer c v s = s.withProtection (s.protection.timed c v) := by
  obtain ⟨hrequest, hmon⟩ := h
  have hprotection : { s.protection.timed c v with request := (s.protection.timed c v).wanted } = s.protection.timed c v := by
    have hkept : (s.protection.timed c v).request = s.protection.request := by rw [timed_eq]
    rw [timed_wanted, ← hrequest, ← hkept]
  have hmixer : { s.mixer with monRequest := (s.protection.timed c v).wanted } = s.mixer := by
    rw [timed_wanted, ← hmon]
  rw [setTimer_eq, formRequest]
  simp only [State.withProtection_protection, State.withProtection_mixer, hprotection, hmixer]
  rfl

end

end Sys2Proof.Machine

namespace Sys2Proof.ControlLinks

open Sys2Proof.Machine

/-- Settles O59: the checks in their order, and the owner's write of each setting with the value kept to its range. -/
theorem settingsAreStored : Obligations.SettingsAreStored := by
  refine ⟨fun x => ?_, fun x b => settingOf_eq_some_iff, fun s x tag value hacc htag hlaw hderived => ?_⟩
  · cases x
    case tenure k => cases k <;> decide
    all_goals decide
  obtain ⟨-, -, -, -, htuner⟩ := (rangeLaw_iff s).1 hlaw
  obtain ⟨⟨-, htunerDerived⟩, hrequest⟩ := (derivedLaw_iff s).1 hderived
  have hexec : exec (x.command .crew tag value) s =
      .next (requestAnswered .setting .crew tag (setting x value.toNat (accepted .crew s))) := by
    rw [exec_settingCommand, settingArrives_of_accepting hacc htag]
    rfl
  refine ⟨_, hexec, ?_⟩
  intro tunerOwns range v stored timer
  have howns : x.ofTuner = true ↔ tunerOwns := by cases x <;> simp [Setting.ofTuner, tunerOwns]
  have hengaged : s.tuner.engaged = false ↔ s.tuner.state = .off := by simp [Tuner.engaged]
  refine ⟨fun hx hon => ?_, fun hoff hx hn => ?_, fun hoff hset => ?_⟩
  · refine refusedWith_answered (setting_of_busy (howns.2 hx) ?_)
    rw [← Bool.not_eq_false]
    exact fun h => hon (hengaged.1 h)
  · exact refusedWith_answered (setting_of_noBus (s := accepted .crew s) (hengaged.2 hoff) hx hn)
  have hrange : settingRange (accepted .crew s) x = range := by cases x <;> rfl
  have hanswer : setting x value.toNat (accepted .crew s) =
      (if v = value.toNat then .ok else .clamped, putSetting x v (accepted .crew s)) := by
    have hstored := setting_of_stored (s := accepted .crew s) (n := value.toNat) (fun h => hengaged.2 (hoff (howns.1 h))) hset
      (settingRange_le htuner x)
    rwa [hrange] at hstored
  have htimer (c : ProtClass) (hc : putSetting x v (accepted .crew s) = setTimer c v (accepted .crew s)) : timer c := by
    rw [setTimer_of_derived (s := accepted .crew s) hrequest] at hc
    rw [hc] at hanswer
    have hprotection : (requestAnswered .setting .crew tag (setting x value.toNat (accepted .crew s))).protection =
        s.protection.timed c v := congrArg (fun o => o.2.protection) hanswer
    refine ⟨carriedOut_silently hanswer changesOnly_withProtection (by decide), ?_, fun b c' => ?_⟩
    · rw [hprotection]
      exact timed_eq ..
    · rw [hprotection]
      exact timed_pair ..
  cases x
  case presenceFloor =>
    exact ⟨carriedOut_silently hanswer changesOnly_withFrontEnd (by decide), congrArg (fun o => o.2.frontEnd) hanswer⟩
  case tenure k =>
    exact ⟨carriedOut_silently hanswer changesOnly_withArbiter (by decide), congrArg (fun o => o.2.arbiter) hanswer⟩
  case referencePitch | hysteresis | wIn | wNear =>
    exact ⟨carriedOut_silently hanswer changesOnly_withTuner (by decide), congrArg (fun o => o.2.tuner) hanswer⟩
  case tunerMuteSet =>
    have hv : v < 8 := by
      have h8 := hset rfl
      change max 0 (min 7 value.toNat) < 8
      omega
    have hput : putSetting .tunerMuteSet v (accepted .crew s) = handTunerMute ((accepted .crew s).withTuner
        { s.tuner with muteSet := ⟨v % 2 = 1, v / 2 % 2 = 1, 4 ≤ v⟩ }) := by
      rw [← busMask_of_lt hv]
      rfl
    rw [hput] at hanswer
    refine ⟨carriedOut_answered hanswer (raisesOnly_muteSet (s := accepted .crew s) htunerDerived _)
      ((changesOnly.comp (ds := [.links, .tuner, .mixer]) changesOnly_withTuner changesOnly_handTunerMute (by decide) (by decide)).mono
        (by decide)), ?_, ?_⟩
    · refine (congrArg (fun o => o.2.tuner) hanswer).trans ?_
      exact handTunerMute_tuner _
    · refine (congrArg (fun o => o.2.mixer) hanswer).trans ?_
      refine (handTunerMute_mixer _).trans ?_
      have hsame : s.mixer.tunerMute = s.tuner.muteActive := htunerDerived.1
      simp [hsame, Tuner.muteActive, Tuner.engaged]
  case safetyTimer =>
    refine ⟨carriedOut_answered hanswer ((raisesOnly_setSafetyTimer v (accepted .crew s)).congr fun n => ?_)
      (changesOnly_setSafetyTimer.mono (by decide)), (congrArg (fun o => o.2.mixer) hanswer).trans (setSafetyTimer_mixer ..)⟩
    exact s.mixer.timerMoves_raises v n
  case attenuation =>
    exact ⟨carriedOut_silently hanswer changesOnly_withMixer (by decide), congrArg (fun o => o.2.mixer) hanswer⟩
  case overThreshold | dcThreshold | lossFloor =>
    exact ⟨carriedOut_silently hanswer changesOnly_withProtection (by decide), congrArg (fun o => o.2.protection) hanswer⟩
  case tOver => exact htimer .overLevel rfl
  case tDc => exact htimer .dc rfl
  case tLoss => exact htimer .loss rfl

end Sys2Proof.ControlLinks

/-! The queries (R200, R212, R213): how an answer is given, and the bytes of each item. -/

namespace Sys2Proof.Machine

/-! ### Numbers and sets as bytes (R207) -/

theorem be_byte2 {n : Nat} (h : n < 65536) : be (byte2 n) = n :=
  (num_two (byte1 (n / 256)) (byte1 n) []).trans (twoBytes_toNat h)

theorem be_byte3 {n : Nat} (h : n < 16777216) : be (byte3 n) = n :=
  (num_three (byte1 (n / 65536)) (byte1 (n / 256)) (byte1 n) []).trans (threeBytes_read h)

theorem be_signed2 {v : Int} (hlo : -32768 ≤ v) (hhi : v < 32768) : (BitVec.ofNat 16 (be (signed2 v))).toInt = v := by
  rw [signed2, be_byte2 (BitVec.isLt _), BitVec.ofNat_toNat, BitVec.setWidth_eq]
  exact BitVec.toInt_ofInt_eq_self (by decide) hlo hhi

theorem bitSet_four (a b c d : Bool) : bitSet [a, b, c, d] = byte1 (bit a 0 + bit b 1 + bit c 2 + bit d 3) := by
  simp [bitSet, byte1, bit, List.zipIdx_cons, Nat.add_assoc]

theorem byte1_noticeSet (m : NoticeSet) :
    byte1 m.number = bitSet [m.guard, m.fault, m.scene, m.mute, m.tuner, m.tempo, m.link] := by
  simp [NoticeSet.number, bitSet, byte1, bit, List.zipIdx_cons, Nat.add_assoc]

theorem byte1_linkNumber_getD {α : Type} (f : α → Link) (o : Option α) :
    byte1 ((o.map (fun x => linkNumber (f x))).getD 0) = (o.map (fun x => linkByte (f x))).getD 0 := by
  cases o <;> rfl

theorem linkOf_linkByte (k : Link) : linkOf (linkByte k) = some k := by cases k <;> rfl

/-! ### How a query is answered (R200) -/

section

variable {l : Link} {it : Item} {tag part : Byte} {args : List Byte} {s : State}

/-- The answer a query comes to on a link that accepts it. -/
def queryAnswer (l : Link) (it : Item) (part : Byte) (args : List Byte) (s : State) : Answer :=
  if 3 < args.length then refusedAs .badRequest else queryItem l it part.toNat args s

/-- What an answered query does: the answer is queued, and nothing else happens. -/
theorem exec_query {r : Result} {bytes : List Byte} (hacc : accepting l s = true) (htag : tag ≠ 0) (hargs : args.length ≤ 58)
    (hanswer : queryAnswer l it part args (accepted l s) = (r, bytes)) :
    ∃ t, exec (it.command l tag part args) s = .next t ∧ changesOnly [.links] s t ∧
      respondsWith l ⟨0xE2, tag, r.code :: bytes⟩ s t ∧ announces noClass s t := by
  have harrives : queryArrives it l tag part args s =
      pump (queueMessage l ⟨0xE2, tag, r.code :: bytes⟩ (accepted l s)) := by
    have hbody : (it.code :: part :: args).length ≤ 60 := by simp; omega
    rw [queryArrives, frameArrives_acceptance_of_accepting hacc htag hbody]
    unfold queryAnswer at hanswer
    split at hanswer
    · next hlong =>
      rw [if_pos hlong]
      cases hanswer
      rfl
    · next hshort =>
      rw [if_neg hshort]
      simp only [hanswer]
      rfl
  refine ⟨_, exec_itemCommand .., ?_⟩
  rw [harrives]
  exact ⟨(changesOnly_accepted.trans changesOnly_queueMessage).pumped.mono (by decide), respondsWith_pump fun _ => rfl,
    announces_request (raises_refl _)⟩

/-- The least number of argument bytes of an item (R212). -/
def Item.arguments : Item → Nat
  | .libraryGroup => 3
  | .sceneGroup | .recordState | .mapEntry => 2
  | .profile | .window | .setting | .link => 1
  | _ => 0

theorem queryAnswer_of_long (h : 3 < args.length) : queryAnswer l it part args s = (.badRequest, []) := if_pos h

theorem queryAnswer_of_noPart (hargs : args.length ≤ 3) (h : it.parts ≤ part.toNat) :
    queryAnswer l it part args s = (.badRequest, []) := by
  rw [queryAnswer, if_neg (Nat.not_lt.mpr hargs), queryItem, if_pos h]
  rfl

theorem queryAnswer_of_part (hargs : args.length ≤ 3) (h : part.toNat < it.parts) :
    queryAnswer l it part args s = answerItem l it part.toNat args s := by
  rw [queryAnswer, if_neg (Nat.not_lt.mpr hargs), queryItem, if_neg (Nat.not_le.mpr h)]

theorem Item.parts_pos (it : Item) : 0 < it.parts := by cases it <;> decide

/-- Part 0, which every item has. -/
theorem queryAnswer_zero (hargs : args.length ≤ 3) : queryAnswer l it 0 args s = answerItem l it 0 args s :=
  queryAnswer_of_part hargs it.parts_pos

/-- An item without its arguments is refused. -/
theorem queryAnswer_of_short (h : args.length < it.arguments) : queryAnswer l it 0 args s = (.badRequest, []) := by
  have hmost : it.arguments ≤ 3 := by cases it <;> decide
  rw [queryAnswer_zero (by omega)]
  cases it
  case sceneGroup | recordState | mapEntry =>
    match args, h with
    | [], _ => rfl
    | [_], _ => rfl
  case libraryGroup =>
    match args, h with
    | [], _ => rfl
    | [_], _ => rfl
    | [_, _], _ => rfl
  case profile | window | setting | link =>
    match args, h with
    | [], _ => rfl
  all_goals exact absurd h (Nat.not_lt_zero _)

theorem args_one (h : 1 ≤ args.length) : args = args.getD 0 0 :: args.drop 1 := by
  match args, h with
  | _ :: _, _ => rfl

theorem args_two (h : 2 ≤ args.length) : args = args.getD 0 0 :: args.getD 1 0 :: args.drop 2 := by
  match args, h with
  | _ :: _ :: _, _ => rfl

theorem args_three (h : 3 ≤ args.length) : args = args.getD 0 0 :: args.getD 1 0 :: args.getD 2 0 :: args.drop 3 := by
  match args, h with
  | _ :: _ :: _ :: _, _ => rfl

end

/-! ### The items without arguments -/

section

variable {s : State}

theorem answerTuner_of_on (h : s.tuner.state ≠ .off) :
    answerTuner s = answered ([s.tuner.state.code, s.tuner.mode.code, flagByte s.tuner.muteFlag, flagByte s.tuner.muteFlag,
      flagByte s.tuner.current.isSome] ++ readingBytes s.tuner.current ++ [byte1 s.tuner.group.length] ++
      byte2 s.tuner.stale ++ byte2 s.tuner.reference ++ byte3 s.tuner.hysteresis ++ [byte1 s.tuner.wIn] ++
      byte2 s.tuner.wNear ++ [bitSet [s.tuner.muteSet.foh, s.tuner.muteSet.mon, s.tuner.muteSet.amp]]) := by
  have hengaged : s.tuner.engaged = true := by simpa [Tuner.engaged] using h
  have hactive : s.tuner.muteActive = s.tuner.muteFlag := by rw [Tuner.muteActive, hengaged, Bool.true_and]
  rw [answerTuner, if_pos hengaged]
  simp only [hactive, byte1_busMask]

theorem answerTuner_of_off (h : s.tuner.state = .off) :
    answerTuner s = answered ([0, s.tuner.mode.code, flagByte s.tuner.muteFlag, 0, 0] ++ readingBytes none ++ [0] ++
      byte2 0 ++ byte2 s.tuner.reference ++ byte3 s.tuner.hysteresis ++ [byte1 s.tuner.wIn] ++
      byte2 s.tuner.wNear ++ [bitSet [s.tuner.muteSet.foh, s.tuner.muteSet.mon, s.tuner.muteSet.amp]]) := by
  have hengaged : ¬s.tuner.engaged = true := by simp [Tuner.engaged, h]
  have hactive : s.tuner.fresh.muteActive = false := muteActive_of_off h
  have hstate : s.tuner.fresh.state = .off := h
  rw [answerTuner, if_neg hengaged]
  simp only [hactive, hstate, byte1_busMask]
  rfl

theorem answerMute_eq (s : State) :
    answerMute s = answered ([bitSet [s.mixer.mask.foh, s.mixer.mask.mon, s.mixer.mask.amp], flagByte s.mixer.tunerMute,
      bitSet [s.mixer.tunerSet.foh, s.mixer.tunerSet.mon, s.mixer.tunerSet.amp], byte1 s.mixer.ramps.fohL,
      byte1 s.mixer.ramps.fohR, byte1 s.mixer.ramps.mon, byte1 s.mixer.ramps.amp, byte1 s.mixer.monRamp,
      flagByte s.mixer.monRequest, flagByte s.mixer.timer.isSome] ++ byte3 (s.mixer.timer.getD 0) ++
      [flagByte s.mixer.expired] ++ byte2 s.mixer.safetySetting ++ byte2 s.mixer.attenuation) := by
  simp only [answerMute, byte1_busMask]
  rfl

theorem readingBytes_some (r : Reading) :
    readingBytes (some r) = [r.mode.code] ++ byte3 r.centihertz ++ [byte1 r.note, byte1 (r.string.getD 255)] ++
      signed2 r.deviation ++ [r.band.code] := by
  rw [readingBytes, indexByte_eq]

/-! ### The items of a link -/

variable {k l : Link} {a : Byte} {rest : List Byte}

theorem answerWindow_of_link (h : linkOf a = some k) :
    answerWindow (a :: rest) s = answered
      ([a, byte1 (s.arbiter.windows.get k).base, byte1 (s.arbiter.windows.get k).size, byte1 (s.arbiter.tenureSetting.get k),
        bitSet [(s.arbiter.slots.get k).isSome, ((s.arbiter.slots.get k).bind (fun x => x.place)).isSome,
          s.arbiter.tenure.isSome, s.arbiter.grant.isSome],
        byte1 (((s.arbiter.slots.get k).map (fun x => x.index)).getD 0),
        byte1 ((((s.arbiter.slots.get k).bind (fun x => x.place)).map Prod.fst).getD 0),
        byte1 ((((s.arbiter.slots.get k).bind (fun x => x.place)).map Prod.snd).getD 0),
        (s.arbiter.tenure.map (fun x => linkByte x.owner)).getD 0] ++
        byte2 ((s.arbiter.tenure.map (fun x => x.count)).getD 0) ++
        [(s.arbiter.grant.map (fun x => linkByte x.origin)).getD 0]) := by
  simp only [answerWindow, h, bitSet_four, byte1_linkNumber_getD]

theorem answerLink_of_link (h : linkOf a = some k) :
    answerLink l (a :: rest) (accepted l s) = answered
      [a, bitSet [(s.link k).mask.guard, (s.link k).mask.fault, (s.link k).mask.scene, (s.link k).mask.mute,
          (s.link k).mask.tuner, (s.link k).mask.tempo, (s.link k).mask.link],
        bitSet [(s.link k).flags.guard, (s.link k).flags.fault, (s.link k).flags.scene, (s.link k).flags.mute,
          (s.link k).flags.tuner, (s.link k).flags.tempo, (s.link k).flags.link],
        byte1 (s.link k).reserved, byte1 ((s.link k).queue.length + if k = l then 1 else 0), causeByte (s.link k).cause,
        flagByte (s.link k).lineLow, flagByte (s.link k).breakJudged, flagByte (decide (k = .crew) && (s.link k).closing)] := by
  have hcrew : (k == Link.crew) = decide (k = .crew) := rfl
  by_cases hk : k = l
  · subst hk
    simp only [answerLink, h, accepted_link, if_true, byte1_noticeSet, Nat.add_sub_cancel, hcrew]
  · simp only [answerLink, h, accepted_link_other s hk, if_neg hk, byte1_noticeSet, Nat.sub_zero, hcrew]

/-- A set of buses as a number. -/
theorem busMask_number (m : BusMask) : m.number = (bitSet [m.foh, m.mon, m.amp]).toNat := by
  obtain ⟨_ | _, _ | _, _ | _⟩ := m <;> rfl

/-! ### The groups -/

theorem Kind.code_eq (kind : Kind) : kind.code = if kind = .single then 0 else 1 := by cases kind <;> rfl

theorem isGroup_iff (code : Nat) : isGroup code = true ↔ code ≤ 12 := decide_eq_true_iff

/-- The chain that a group query names. -/
def queriedChain (code : Nat) (ch : Byte) : ChainId := if (4 ≤ code ∧ code ≤ 12) ∧ ch = 1 then .b else .a

theorem isChainGroup_of_queriedChain {code : Nat} {ch : Byte} (h : queriedChain code ch = .b) : isChainGroup code = true := by
  rw [isChainGroup_iff]
  by_contra hnot
  rw [queriedChain, if_neg fun hc => hnot hc.1] at h
  cases h

theorem chainByte_queriedChain (code : Nat) (ch : Byte) :
    chainByte code (queriedChain code ch) = if queriedChain code ch = .b then 1 else 0 := by
  rw [chainByte]
  by_cases h : queriedChain code ch = .b
  · rw [if_pos (isChainGroup_of_queriedChain h), if_pos h, h]
    rfl
  · have ha : queriedChain code ch = .a := by
      cases hq : queriedChain code ch
      · rfl
      · exact absurd hq h
    rw [if_neg h, ha]
    split <;> rfl

/-- Chain B of a SINGLE preset, as the model asks for it. -/
theorem noSuchChain_iff {code : Nat} {ch : Byte} {kind : Kind} :
    (isChainGroup code = true ∧ queriedChain code ch = .b ∧ kind = .single) ↔ queriedChain code ch = .b ∧ kind = .single :=
  ⟨fun h => h.2, fun h => ⟨isChainGroup_of_queriedChain h.1, h⟩⟩

variable {g ch i : Byte}

theorem groupQuery_of_bad (h : ¬(g.toNat ≤ 12 ∧ (4 ≤ g.toNat ∧ g.toNat ≤ 12 → ch = 0 ∨ ch = 1))) :
    isGroup g.toNat = false ∨ groupChainOf g.toNat ch = none := by
  by_cases hg : g.toNat ≤ 12
  · have hchain : ¬(4 ≤ g.toNat ∧ g.toNat ≤ 12 → ch = 0 ∨ ch = 1) := fun hc => h ⟨hg, hc⟩
    rw [Classical.not_imp, not_or] at hchain
    exact .inr (groupChainOf_of_unknown hchain.1 hchain.2.1 hchain.2.2)
  · exact .inl (by rw [← Bool.not_eq_true, isGroup_iff]; exact hg)

theorem answerSceneGroup_of_bad (h : ¬(g.toNat ≤ 12 ∧ (4 ≤ g.toNat ∧ g.toNat ≤ 12 → ch = 0 ∨ ch = 1))) :
    answerSceneGroup (g :: ch :: rest) s = refusedAs .badRequest := by
  rcases groupQuery_of_bad h with hg | hc
  · simp only [answerSceneGroup, hg]
  · simp only [answerSceneGroup, hc]
    cases isGroup g.toNat <;> rfl

section

variable (hg : g.toNat ≤ 12) (hch : 4 ≤ g.toNat ∧ g.toNat ≤ 12 → ch = 0 ∨ ch = 1)

include hg hch

theorem answerSceneGroup_of_none (h : s.engine.scene = none) :
    answerSceneGroup (g :: ch :: rest) s = refusedAs .noScene := by
  simp only [answerSceneGroup, (isGroup_iff _).2 hg, groupChainOf_of_known hch, h]

theorem answerSceneGroup_of_scene {sc : Scene} (h : s.engine.scene = some sc) :
    answerSceneGroup (g :: ch :: rest) s =
      if queriedChain g.toNat ch = .b ∧ sc.preset.kind = .single then refusedAs .badRequest
      else answered ([byte1 sc.source, flagByte sc.dirty, g, if queriedChain g.toNat ch = .b then 1 else 0] ++
        sc.preset.groupBytes g.toNat (queriedChain g.toNat ch)) := by
  have hchain : groupChainOf g.toNat ch = some (queriedChain g.toNat ch) := groupChainOf_of_known hch
  simp only [answerSceneGroup, (isGroup_iff _).2 hg, hchain, h, noSuchChain_iff, chainByte_queriedChain]

theorem answerLibraryGroup_of_empty (hi : i.toNat < 128) (h : s.stores.preset i.toNat = .empty) :
    answerLibraryGroup (i :: g :: ch :: rest) s = answered [0, 255, g, if queriedChain g.toNat ch = .b then 1 else 0] := by
  have hchain : groupChainOf g.toNat ch = some (queriedChain g.toNat ch) := groupChainOf_of_known hch
  simp only [answerLibraryGroup, (isGroup_iff _).2 hg, hchain, decide_eq_true hi, Bool.true_and, h, PresetRec.content,
    chainByte_queriedChain]
  rfl

theorem answerLibraryGroup_of_content (hi : i.toNat < 128) {p : Preset} {r : PresetRec} (h : s.stores.preset i.toNat = r)
    (hr : r.content = some p) :
    answerLibraryGroup (i :: g :: ch :: rest) s =
      if queriedChain g.toNat ch = .b ∧ p.kind = .single then refusedAs .badRequest
      else answered ([r.code, if p.kind = .single then 0 else 1, g, if queriedChain g.toNat ch = .b then 1 else 0] ++
        p.groupBytes g.toNat (queriedChain g.toNat ch)) := by
  have hchain : groupChainOf g.toNat ch = some (queriedChain g.toNat ch) := groupChainOf_of_known hch
  have hkind : r.kindByte = if p.kind = .single then 0 else 1 := by
    simp only [PresetRec.kindByte, hr, Kind.code_eq]
  simp only [answerLibraryGroup, (isGroup_iff _).2 hg, hchain, decide_eq_true hi, Bool.true_and, h, hr, hkind, noSuchChain_iff,
    chainByte_queriedChain]

end

theorem answerLibraryGroup_of_bad
    (h : ¬(i.toNat < 128 ∧ g.toNat ≤ 12 ∧ (4 ≤ g.toNat ∧ g.toNat ≤ 12 → ch = 0 ∨ ch = 1))) :
    answerLibraryGroup (i :: g :: ch :: rest) s = refusedAs .badRequest := by
  by_cases hi : i.toNat < 128
  · rcases groupQuery_of_bad fun hok => h ⟨hi, hok⟩ with hg | hc
    · simp only [answerLibraryGroup, hg, Bool.and_false]
    · simp only [answerLibraryGroup, hc]
      cases decide (i.toNat < 128) && isGroup g.toNat <;> rfl
  · simp only [answerLibraryGroup, decide_eq_false hi, Bool.false_and]

end

end Sys2Proof.Machine

namespace Sys2Proof.ControlLinks

open Sys2Proof.Machine

/-- Settles O60: an answer is queued as it stands; the refusals in their order, and the layout of each item. -/
theorem queriesAnswer : Obligations.QueriesAnswer := by
  refine ⟨fun it => by cases it <;> decide, fun it b => itemOf_eq_some_iff, fun n h => ⟨rfl, be_byte2 h⟩,
    fun n h => ⟨rfl, be_byte3 h⟩, fun n => be_signed2, fun s l tag part args hacc htag h58 => ?_⟩
  intro answer n1 flag bits busSet noticeSet linkNo a b c
  have hanswer {it : Item} {r : Result} {bytes : List Byte}
      (h : queryAnswer l it part args (accepted l s) = (r, bytes)) : answer it r bytes := exec_query hacc htag h58 h
  have hno : linkNo = linkByte := funext fun k => by cases k <;> rfl
  have hparts (it : Item) : it.parts = if it = .protection then 3 else 1 := by cases it <;> rfl
  refine ⟨fun it h => hanswer (queryAnswer_of_long h), fun it h hpart => ?noPart, fun it hpart h => ?short,
    fun h3 hpart => ?plain, fun h3 hpart => ?protectionItem, fun h1 h3 hpart => ?one, fun h2 h3 hpart => ?two,
    fun h3 hpart => ?three⟩
  case noPart =>
    rw [← hparts] at hpart
    exact hanswer (queryAnswer_of_noPart h hpart)
  case short =>
    subst hpart
    refine hanswer (queryAnswer_of_short ?_)
    cases it <;> exact h
  case plain =>
    subst hpart
    have hgives {it : Item} {bytes : List Byte} (h : answerItem l it 0 args (accepted l s) = answered bytes) :
        answer it .ok bytes := hanswer ((queryAnswer_zero h3).trans h)
    refine ⟨hgives rfl, hgives ?tempoItem, ?tunerItem, hgives (answerMute_eq s), hgives ?captureItem, ?laneItem⟩
    case tempoItem =>
      change answerTempo s = _
      simp only [answerTempo, tempoQuotient]
      cases s.control.source <;> rfl
    case tunerItem =>
      intro u on
      refine hgives ?_
      change answerTuner s = _
      by_cases hon : s.tuner.state = .off
      · have hoff : ¬on := not_not.2 hon
        rw [answerTuner_of_off hon]
        simp only [hoff, u, hon, if_false, decide_false, Bool.false_and]
        cases s.tuner.mode <;> cases s.tuner.current <;> rfl
      · have hon' : on := hon
        rw [answerTuner_of_on hon]
        simp only [hon', u, if_true, decide_true, Bool.true_and]
        have hstate (x : TunerState) : x.code = match x with
            | .off => 0
            | .listening => 1
            | .reading => 2 := by cases x <;> rfl
        have hmode (x : TunerMode) : x.code = if x = .free then 0 else 1 := by cases x <;> rfl
        rw [hstate, hmode]
        cases s.tuner.current with
        | none => rfl
        | some r =>
          obtain ⟨mode, centihertz, note, string, deviation, band⟩ := r
          rw [readingBytes_some, hmode]
          cases band <;> rfl
    case captureItem =>
      change answered (faultBody s.capture) = _
      rw [hno]
      cases s.capture with
      | none => rfl
      | some r =>
        obtain ⟨cls, held, place, preset⟩ := r
        rw [faultBody_some]
        cases cls <;> rfl
    case laneItem =>
      intro lane
      have hlane (x : Lane) : lane x = laneBytes x := by
        simp only [lane, laneBytes]
        cases x.state <;> cases x.role <;> cases x.gateState <;> rfl
      refine hgives ?_
      rw [hlane, hlane]
      rfl
  case protectionItem =>
    intro p head all two
    have hgives {bytes : List Byte} (h : answerProtection part.toNat s = answered bytes) : answer .protection .ok bytes :=
      hanswer ((queryAnswer_of_part h3 hpart).trans h)
    have hhead : [byte1 part.toNat, 3] ++ byte2 s.protection.phase = head := by rw [byte1_of_toNat]
    refine hgives ?_
    rw [answerProtection, hhead]
    by_cases hzero : part = 0
    · have hzero' : part.toNat = 0 := by rw [hzero]; rfl
      rw [if_pos hzero', if_pos hzero, guardBody_eq, pairBytes_eq, pairBytes_eq, ← List.append_assoc]
      rfl
    have hzero' : ¬part.toNat = 0 := fun h => hzero (BitVec.eq_of_toNat_eq h)
    rw [if_neg hzero', if_neg hzero]
    by_cases hone : part = 1
    · have hone' : part.toNat = 1 := by rw [hone]; rfl
      rw [if_pos hone', if_pos hone]
      rfl
    · have hone' : ¬part.toNat = 1 := fun h => hone (BitVec.eq_of_toNat_eq h)
      rw [if_neg hone', if_neg hone]
      rfl
  case one =>
    subst hpart
    have hargs := args_one h1
    have hgives {it : Item} {r : Result} {bytes : List Byte}
        (h : answerItem l it 0 (a :: args.drop 1) (accepted l s) = (r, bytes)) : answer it r bytes := by
      rw [← hargs] at h
      exact hanswer ((queryAnswer_zero h3).trans h)
    refine ⟨fun ha => hgives ?_, fun ha => hgives ?_, fun ha => ?_, fun k hk => ?_, fun hx => hgives ?_, fun x hx => hgives ?_⟩
    · exact if_neg (Nat.not_lt.mpr ha)
    · exact (if_pos ha).trans rfl
    · have hnone : linkOf a = none := linkOf_of_two_lt (by omega)
      refine ⟨hgives ?_, hgives ?_⟩
      · change answerWindow (a :: args.drop 1) (accepted l s) = _
        simp only [answerWindow, hnone]
        rfl
      · change answerLink l (a :: args.drop 1) (accepted l s) = _
        simp only [answerLink, hnone]
        rfl
    · have hlink : linkOf a = some k := by rw [← hk, hno, linkOf_linkByte]
      refine ⟨hgives (it := .window) ((answerWindow_of_link (rest := args.drop 1) hlink).trans ?_),
        hgives (it := .link) ((answerLink_of_link (rest := args.drop 1) hlink).trans ?_)⟩
      · rw [hno]
        rfl
      · rcases (s.link k).cause with _ | _ | _ | _ <;> rfl
    · have hnone : settingOf a = none := by
        rw [Option.eq_none_iff_forall_ne_some]
        exact fun x h => hx x (settingOf_eq_some_iff.1 h).symm
      change answerSetting (a :: args.drop 1) (accepted l s) = _
      simp only [answerSetting, hnone]
      rfl
    · have hsome : settingOf a = some x := settingOf_eq_some_iff.2 hx.symm
      change answerSetting (a :: args.drop 1) (accepted l s) = _
      simp only [answerSetting, hsome]
      cases x
      case tunerMuteSet => exact congrArg (fun n => answered ([a] ++ byte3 n)) (busMask_number s.tuner.muteSet)
      all_goals rfl
  case two =>
    subst hpart
    have hargs := args_two h2
    have hgives {it : Item} {r : Result} {bytes : List Byte}
        (h : answerItem l it 0 (a :: b :: args.drop 2) (accepted l s) = (r, bytes)) : answer it r bytes := by
      rw [← hargs] at h
      exact hanswer ((queryAnswer_zero h3).trans h)
    refine ⟨fun h => hgives ?_, fun h => hgives (if_neg h), ?_, ?_⟩
    · refine (if_pos h).trans ?_
      rw [indexByte_eq]
      rfl
    · intro state
      have hstate (x : LoadState) : x.code = state x := by cases x <;> rfl
      refine ⟨fun ha hb => hgives ?_, fun ha hb => hgives ?_, fun ha hb => hgives ?_, fun h0 h1 h2 => hgives ?_⟩
      · refine (if_pos ⟨ha, hb⟩).trans ?_
        rw [hstate]
        rfl
      · refine ((if_neg fun h => ?_).trans (if_pos ⟨ha, hb⟩)).trans ?_
        · exact absurd (ha.symm.trans h.1) (by decide)
        · rw [hstate]
          rfl
      · refine ((if_neg fun h => ?_).trans (if_neg fun h => ?_)).trans ((if_pos ⟨ha, hb⟩).trans ?_)
        · exact absurd (ha.symm.trans h.1) (by decide)
        · exact absurd (ha.symm.trans h.1) (by decide)
        · change answered [a, b, (s.stores.preset b.toNat).code, 0, 0, 0, (s.stores.preset b.toNat).kindByte] = _
          rcases s.stores.preset b.toNat with _ | p | p
          · rfl
          · exact congrArg (fun k => answered [a, b, 1, 0, 0, 0, k]) p.kind.code_eq
          · exact congrArg (fun k => answered [a, b, 2, 0, 0, 0, k]) p.kind.code_eq
      · exact (if_neg h0).trans ((if_neg h1).trans (if_neg h2))
    · intro chainGroup ok chain
      refine ⟨fun h => hgives (it := .sceneGroup) (answerSceneGroup_of_bad (rest := args.drop 2) h),
        fun h hnone => hgives (it := .sceneGroup) (answerSceneGroup_of_none (s := accepted l s) (rest := args.drop 2) h.1 h.2 hnone),
        fun sc h hsc => ⟨fun hb hkind => hgives ?_, fun hfits => hgives ?_⟩⟩
      · exact (answerSceneGroup_of_scene (s := accepted l s) (rest := args.drop 2) h.1 h.2 hsc).trans (if_pos ⟨hb, hkind⟩)
      · exact (answerSceneGroup_of_scene (s := accepted l s) (rest := args.drop 2) h.1 h.2 hsc).trans (if_neg hfits)
  case three =>
    subst hpart
    have hargs := args_three h3.ge
    have hgives {it : Item} {r : Result} {bytes : List Byte}
        (h : answerItem l it 0 (a :: b :: c :: args.drop 3) (accepted l s) = (r, bytes)) : answer it r bytes := by
      rw [← hargs] at h
      exact hanswer ((queryAnswer_zero h3.le).trans h)
    intro chainGroup ok chain
    refine ⟨fun h => hgives (it := .libraryGroup) (answerLibraryGroup_of_bad (rest := args.drop 3) h),
      fun h hempty => hgives (it := .libraryGroup)
        (answerLibraryGroup_of_empty (s := accepted l s) (rest := args.drop 3) h.2.1 h.2.2 h.1 hempty), fun p code h hp => ?_⟩
    obtain ⟨r, hr, hcontent, hcode⟩ : ∃ r, s.stores.preset a.toNat = r ∧ r.content = some p ∧ r.code = code := by
      rcases hp with ⟨hp, rfl⟩ | ⟨hp, rfl⟩
      · exact ⟨_, hp, rfl, rfl⟩
      · exact ⟨_, hp, rfl, rfl⟩
    have hfound := answerLibraryGroup_of_content (s := accepted l s) (rest := args.drop 3) h.2.1 h.2.2 h.1 hr hcontent
    rw [hcode] at hfound
    exact ⟨fun hb hkind => hgives (hfound.trans (if_pos ⟨hb, hkind⟩)), fun hfits => hgives (hfound.trans (if_neg hfits))⟩

end Sys2Proof.ControlLinks

/-! Recalls on arrival (R79, R80, R82, R83): what the checks find, and a recall that cannot be granted. -/

namespace Sys2Proof.Machine

section

variable {l : Link} {tag : Byte} {s : State}

/-- What an accepted request finds announced is what stood before it. -/
theorem accepted_announced (k : Link) : ((accepted l s).link k).tx = (s.link k).tx ∧
    ((accepted l s).link k).mask = (s.link k).mask ∧ ((accepted l s).link k).flags = (s.link k).flags := by
  by_cases hk : k = l
  · subst hk
    rw [accepted_link]
    exact ⟨rfl, rfl, rfl⟩
  · rw [accepted_link_other s hk]
    exact ⟨rfl, rfl, rfl⟩

/-! ### The rows of the recalls -/

theorem exec_recall {pos slot flags : Byte} (hacc : accepting l s = true) (htag : tag ≠ 0) :
    exec (.recall l tag [pos, slot, flags]) s = .next (pump (takeRecall l tag [pos, slot, flags] (accepted l s))) := by
  have hrow : ReqType.recall.command l tag [pos, slot, flags] = some (.recall l tag [pos, slot, flags]) := rfl
  rw [exec_of_command hrow, requestArrives_of_accepting hacc htag (by cases l <;> rfl) rfl (by simp)]
  rfl

theorem exec_recallIndex {i : Byte} (hacc : accepting .crew s = true) (htag : tag ≠ 0) :
    exec (.recallIndex .crew tag [i]) s = .next (pump (takeRecallIndex .crew tag [i] (accepted .crew s))) := by
  have hrow : ReqType.recallIndex.command .crew tag [i] = some (.recallIndex .crew tag [i]) := rfl
  rw [exec_of_command hrow, requestArrives_of_accepting hacc htag rfl rfl (by simp)]
  rfl

/-! ### Refusals (R79, R173) -/

/-- A MINOR fault is taken by an empty capture alone (R174). -/
theorem captureTakes_minor {held : Option FaultRec} {r : FaultRec} (h : r.cls.major = false) :
    captureTakes held r = held.isNone := by
  cases held <;> simp [captureTakes, h]

/-- A refusal on arrival that writes a MINOR fault. -/
theorem carriedOut_refuseRecall (byIndex : Bool) (r : Result) {f : FaultRec} (hf : f.cls.major = false) :
    carriedOut (recallType byIndex) l tag r [.capture] (fun _ n => n == .fault && s.capture.isNone) s
        (pump (refuseRecall l byIndex tag r (some f) (accepted l s))) ∧
      (pump (refuseRecall l byIndex tag r (some f) (accepted l s))).capture = if s.capture = none then some f else s.capture := by
  have htakes : captureTakes (accepted l s).capture f = s.capture.isNone := captureTakes_minor hf
  refine ⟨((raisesOnly_writeFault f (accepted l s)).congr fun n => ?_).carriedOut
    ((changesOnly_writeFault f (accepted l s)).mono (by decide)), ?_⟩
  · rw [htakes, Bool.and_comm]
  · change (writeFault f (accepted l s)).capture = _
    rw [writeFault_capture, htakes]
    exact if_congr Option.isNone_iff_eq_none rfl rfl

theorem refusedWith_refuseRecall (byIndex : Bool) (r : Result) :
    refusedWith (recallType byIndex) l tag r s (pump (refuseRecall l byIndex tag r none (accepted l s))) :=
  refusedWith_respond ..

section

variable {pos slot : Nat}

theorem recallCheck_outside (h : (s.arbiter.windows.get l).size ≤ pos) :
    recallCheck l pos slot s = .error (.outOfWindow, some ⟨.outOfWindow, some l, some (pos, slot), none⟩) := if_pos h

theorem recallCheck_badSlot (h : pos < (s.arbiter.windows.get l).size) (hslot : 4 ≤ slot) :
    recallCheck l pos slot s = .error (.badRequest, none) := by
  rw [recallCheck]
  exact (if_neg (Nat.not_le.mpr h)).trans (if_pos hslot)

/-- Where position and slot are good, the Bank Map decides. -/
theorem recallCheck_inside (h : pos < (s.arbiter.windows.get l).size) (hslot : slot < 4) :
    recallCheck l pos slot s =
      match s.stores.mapEntry ((s.arbiter.windows.get l).base + pos) slot with
      | none => .error (.emptySlot, some ⟨.emptySlot, some l, some ((s.arbiter.windows.get l).base + pos, slot), none⟩)
      | some i =>
        match s.stores.preset i with
        | .valid _ => .ok i
        | _ => .error (.noPreset, some ⟨.noPreset, some l, none, some i⟩) := by
  rw [recallCheck]
  exact (if_neg (Nat.not_le.mpr h)).trans (if_neg (Nat.not_le.mpr hslot))

theorem recallCheck_empty (h : pos < (s.arbiter.windows.get l).size) (hslot : slot < 4)
    (hentry : s.stores.mapEntry ((s.arbiter.windows.get l).base + pos) slot = none) :
    recallCheck l pos slot s =
      .error (.emptySlot, some ⟨.emptySlot, some l, some ((s.arbiter.windows.get l).base + pos, slot), none⟩) := by
  rw [recallCheck_inside h hslot, hentry]

theorem recallCheck_noPreset {i : Nat} (h : pos < (s.arbiter.windows.get l).size) (hslot : slot < 4)
    (hentry : s.stores.mapEntry ((s.arbiter.windows.get l).base + pos) slot = some i)
    (hpreset : ∀ p, s.stores.preset i ≠ .valid p) :
    recallCheck l pos slot s = .error (.noPreset, some ⟨.noPreset, some l, none, some i⟩) := by
  cases hrec : s.stores.preset i
  case valid p => exact absurd hrec (hpreset p)
  all_goals simp only [recallCheck_inside h hslot, hentry, hrec]

theorem recallCheck_valid {i : Nat} {p : Preset} (h : pos < (s.arbiter.windows.get l).size) (hslot : slot < 4)
    (hentry : s.stores.mapEntry ((s.arbiter.windows.get l).base + pos) slot = some i)
    (hpreset : s.stores.preset i = .valid p) : recallCheck l pos slot s = .ok i := by
  simp only [recallCheck_inside h hslot, hentry, hpreset]

end

theorem takeRecall_error {pos slot flags : Byte} {e : Result × Option FaultRec}
    (h : recallCheck l pos.toNat slot.toNat s = .error e) :
    takeRecall l tag [pos, slot, flags] s = refuseRecall l false tag e.1 e.2 s := by
  simp only [takeRecall, num_cons_succ, num_one, h]

theorem takeRecall_ok {pos slot flags : Byte} {i : Nat} (h : recallCheck l pos.toNat slot.toNat s = .ok i) :
    takeRecall l tag [pos, slot, flags] s =
      if flags.toNat % 2 = 1 ∧ cannotGrantNow l s = true then respond l .recall tag .heldOff s
      else enterSlot l ⟨i, some (pos.toNat, slot.toNat), tag⟩ s := by
  simp only [takeRecall, num_cons_succ, num_one, h, Nat.testBit_zero, Bool.and_eq_true, decide_eq_true_eq]

theorem takeRecallIndex_ok {i : Byte} {p : Preset} (hi : i.toNat < 128) (h : s.stores.preset i.toNat = .valid p) :
    takeRecallIndex l tag [i] s = enterSlot l ⟨i.toNat, none, tag⟩ s := by
  simp only [takeRecallIndex, num_one, if_neg (Nat.not_le.mpr hi), h]

theorem takeRecallIndex_bad {i : Byte} (hi : 128 ≤ i.toNat) :
    takeRecallIndex l tag [i] s = refuseRecall l true tag .badRequest none s := by
  simp only [takeRecallIndex, num_one, if_pos hi]

theorem takeRecallIndex_noPreset {i : Byte} (hi : i.toNat < 128) (h : ∀ p, s.stores.preset i.toNat ≠ .valid p) :
    takeRecallIndex l tag [i] s =
      refuseRecall l true tag .noPreset (some ⟨.noPreset, some l, none, some i.toNat⟩) s := by
  cases hrec : s.stores.preset i.toNat
  case valid p => exact absurd hrec (h p)
  all_goals simp only [takeRecallIndex, num_one, if_neg (Nat.not_le.mpr hi), hrec]

/-! ### A recall that has passed its checks (R82, R83) -/

/-- The recall that a command asks for, as it waits in a slot. -/
def askedBy (i : Nat) (tag : Byte) (byIndex : Bool) (c : Instr) (w : Waiting) : Prop :=
  w.index = i ∧ w.tag = tag ∧ (w.place = none ↔ byIndex = true) ∧
    ∀ (l : Link) (pos slot flags : Byte), c = .recall l tag [pos, slot, flags] → w.place = some (pos.toNat, slot.toNat)

/-- Whether a command is a RECALL with IMMEDIATE. -/
def asksImmediate (l : Link) (tag : Byte) (c : Instr) : Prop :=
  ∃ pos slot flags : Byte, c = .recall l tag [pos, slot, flags] ∧ flags.toNat % 2 = 1

/-- A recall of a VALID record enters its slot, but for one with IMMEDIATE that cannot be granted at once. -/
theorem exec_recallOf {i : Nat} {byIndex : Bool} {c : Instr} {p : Preset} (hacc : accepting l s = true) (htag : tag ≠ 0)
    (hc : recallOf l tag i byIndex c s) (hp : s.stores.preset i = .valid p) :
    ∃ w, askedBy i tag byIndex c w ∧
      (asksImmediate l tag c → cannotGrantNow l (accepted l s) = true →
        exec c s = .next (pump (respond l .recall tag .heldOff (accepted l s)))) ∧
      (¬(asksImmediate l tag c ∧ cannotGrantNow l (accepted l s) = true) →
        exec c s = .next (pump (enterSlot l w (accepted l s)))) := by
  rcases hc with ⟨rfl, pos, slot, flags, rfl, hpos, hslot, hentry⟩ | ⟨rfl, rfl, b, rfl, hi, rfl⟩
  · have himmediate : asksImmediate l tag (.recall l tag [pos, slot, flags]) ↔ flags.toNat % 2 = 1 := by
      constructor
      · rintro ⟨pos', slot', flags', hc, hbit⟩
        cases hc
        exact hbit
      · exact fun h => ⟨pos, slot, flags, rfl, h⟩
    refine ⟨⟨i, some (pos.toNat, slot.toNat), tag⟩, ⟨rfl, rfl, by simp, ?_⟩, fun h hcannot => ?_, fun h => ?_⟩
    · intro l' pos' slot' flags' hc
      cases hc
      rfl
    · rw [exec_recall hacc htag, takeRecall_ok (recallCheck_valid (s := accepted l s) hpos hslot hentry hp),
        if_pos ⟨himmediate.1 h, hcannot⟩]
    · rw [himmediate] at h
      rw [exec_recall hacc htag, takeRecall_ok (recallCheck_valid (s := accepted l s) hpos hslot hentry hp), if_neg h]
  · have himmediate : ¬asksImmediate .crew tag (.recallIndex .crew tag [b]) := by
      rintro ⟨pos, slot, flags, hc, -⟩
      cases hc
    refine ⟨⟨b.toNat, none, tag⟩, ⟨rfl, rfl, by simp, ?_⟩, fun h => absurd h himmediate, fun _ => ?_⟩
    · intro l' pos' slot' flags' hc
      cases hc
    · rw [exec_recallIndex hacc htag, takeRecallIndex_ok (s := accepted .crew s) hi hp]

/-- The state in which a recall has entered its slot, one that waited there answered SUPERSEDED. -/
def slotEntered (l : Link) (w : Waiting) (s : State) : State :=
  (match s.arbiter.slots.get l with
    | some old => respond l (recallType old.place.isNone) old.tag .superseded s
    | none => s).withArbiter { s.arbiter with slots := s.arbiter.slots.set l (some w) }

theorem enterSlot_eq (l : Link) (w : Waiting) (s : State) : enterSlot l w s = arbiterLook (slotEntered l w s) := by
  unfold enterSlot slotEntered
  cases s.arbiter.slots.get l <;> rfl

theorem slotEntered_of_empty {w : Waiting} (h : s.arbiter.slots.get l = none) :
    slotEntered l w s = s.withArbiter { s.arbiter with slots := s.arbiter.slots.set l (some w) } := by
  rw [slotEntered, h]

theorem slotEntered_of_full {w old : Waiting} (h : s.arbiter.slots.get l = some old) :
    slotEntered l w s = (respond l (recallType old.place.isNone) old.tag .superseded s).withArbiter
      { s.arbiter with slots := s.arbiter.slots.set l (some w) } := by
  rw [slotEntered, h]

theorem recallType_eq (w : Waiting) : recallType w.place.isNone = if w.place = none then .recallIndex else .recall := by
  cases w.place <;> rfl

/-- Where the arbiter is at rest and the link is barred or a transition is in flight, the look grants nothing. -/
theorem arbiterLook_slotEntered {w : Waiting} (hrest : AtRest s)
    (hbarred : s.engine.transition.isSome = true ∨ s.arbiter.barred l = true) :
    arbiterLook (slotEntered l w s) = slotEntered l w s := by
  have hengine : (slotEntered l w s).engine = s.engine := by
    unfold slotEntered
    split <;> rfl
  have harbiter : (slotEntered l w s).arbiter = { s.arbiter with slots := s.arbiter.slots.set l (some w) } := by
    unfold slotEntered
    split <;> rfl
  by_cases htr : s.engine.transition.isSome = true
  · exact arbiterLook_of_transition (by rw [hengine]; exact htr)
  · refine arbiterLook_of_no_choice (Arbiter.choice_eq_none.2 fun k => ?_)
    have hkept : (slotEntered l w s).arbiter.barred k = s.arbiter.barred k := by rw [harbiter]; rfl
    rw [Arbiter.grantable, hkept, harbiter, PerLink.get_set]
    split
    · next hk => rw [hk, hbarred.resolve_left htr, Bool.not_true, Bool.and_false]
    · exact hrest.resolve_left htr k

end

end Sys2Proof.Machine

namespace Sys2Proof.RecallArbitration

open Sys2Proof.Machine

/-- Settles O31: the check that fails decides the result and the fault. -/
theorem recallRefusedOnArrival : Obligations.RecallRefusedOnArrival := by
  intro s l tag hacc htag refused
  refine ⟨fun pos slot flags => ⟨_, exec_recall hacc htag, fun hout => ?_, fun hin hslot => ?_, fun hin hslot hentry => ?_,
    fun i hin hslot hentry hpreset => ?_⟩, ?_⟩
  · rw [takeRecall_error (recallCheck_outside (s := accepted l s) hout)]
    exact carriedOut_refuseRecall false .outOfWindow rfl
  · rw [takeRecall_error (recallCheck_badSlot (s := accepted l s) hin hslot)]
    exact refusedWith_refuseRecall false .badRequest
  · rw [takeRecall_error (recallCheck_empty (s := accepted l s) hin hslot hentry)]
    exact carriedOut_refuseRecall false .emptySlot rfl
  · rw [takeRecall_error (recallCheck_noPreset (s := accepted l s) hin hslot hentry hpreset)]
    exact carriedOut_refuseRecall false .noPreset rfl
  · rintro rfl i
    refine ⟨_, exec_recallIndex hacc htag, fun hi => ?_, fun hi hpreset => ?_⟩
    · rw [takeRecallIndex_bad hi]
      exact refusedWith_refuseRecall true .badRequest
    · rw [takeRecallIndex_noPreset (s := accepted .crew s) hi hpreset]
      exact carriedOut_refuseRecall true .noPreset rfl

/-- Settles O32: the recall enters its slot, and at a look that finds nothing to grant that is all. -/
theorem recallWaits : Obligations.RecallWaits := by
  intro s l tag i byIndex c p hacc htag hc hp hrest hbarred immediate
  obtain ⟨w, ⟨hindex, hwtag, hbyIndex, hplace⟩, hheldOff, henters⟩ := exec_recallOf hacc htag hc hp
  have hcannot : cannotGrantNow l (accepted l s) = true := by
    change (s.engine.transition.isSome || s.arbiter.barred l || _) = true
    rw [Bool.or_eq_true, Bool.or_eq_true]
    exact .inl hbarred
  by_cases himmediate : immediate
  · refine ⟨_, hheldOff himmediate hcannot, fun _ => ?_, (absurd himmediate)⟩
    exact refusedWith_respond ..
  · refine ⟨_, henters fun h => himmediate h.1, (absurd · himmediate), fun _ => ?_⟩
    rw [enterSlot_eq, arbiterLook_slotEntered (s := accepted l s) ((restLaw_iff s).1 hrest) hbarred]
    have hasked : ∀ pos slot flags : Byte, c = .recall l tag [pos, slot, flags] → w.place = some (pos.toNat, slot.toNat) :=
      fun pos slot flags => hplace l pos slot flags
    rcases hslot : s.arbiter.slots.get l with _ | old
    · rw [slotEntered_of_empty (s := accepted l s) hslot]
      refine ⟨?_, announces_pump (raises_from (raises_refl (accepted l s)) accepted_announced),
        ⟨w, hindex, hwtag, hbyIndex, hasked, rfl⟩, fun k hk => ?_, fun _ => ?_, fun old hold => by simp at hold⟩
      · exact (changesOnly.comp (ds := [.links, .arbiter]) changesOnly_accepted changesOnly_withArbiter (by decide)
          (by decide)).pumped.mono (by decide)
      · rw [pump_link_core, State.link_withArbiter, accepted_link_other s hk]
      · rw [pump_link_core, State.link_withArbiter, accepted_link]
        rfl
    · rw [slotEntered_of_full (s := accepted l s) hslot]
      refine ⟨?_, announces_pump (raises_from (s := accepted l s) (raises_setLink rfl rfl) accepted_announced),
        ⟨w, hindex, hwtag, hbyIndex, hasked, rfl⟩, fun k hk => ?_, fun hnone => by simp at hnone, fun old' hold => ?_⟩
      · exact (changesOnly.comp (ds := [.links, .arbiter]) (changesOnly_accepted.trans changesOnly_respond)
          changesOnly_withArbiter (by decide) (by decide)).pumped.mono (by decide)
      · rw [pump_link_core, State.link_withArbiter, respond, queueMessage, State.link_setLink_other _ _ hk,
          accepted_link_other s hk]
      · obtain rfl : old = old' := Option.some.inj hold
        rw [pump_link_core, State.link_withArbiter, respond, queueMessage, State.link_setLink_self, accepted_link,
          recallType_eq]
        rfl

end Sys2Proof.RecallArbitration

/-! What a grant does (R56 to R61, R65, R66, R85, R86, R92): a result at once, or the transition that begins. -/

namespace Sys2Proof.Machine

section

variable {l : Link} {w : Waiting} {s u : State}

/-! ### The state in which the engine is asked (R85, R92) -/

theorem grantAsked_arbiter (l : Link) (s : State) :
    (grantAsked l s).arbiter = { s.arbiter with slots := s.arbiter.slots.set l none } := by
  unfold grantAsked
  dsimp only
  split
  · rw [changesOnly_tunerOff.same .arbiter (by decide)]
    rfl
  · rfl

theorem tunerAfterGrant_grantAsked (l : Link) (s : State) : tunerAfterGrant l s (grantAsked l s) := by
  unfold tunerAfterGrant grantAsked
  dsimp only
  by_cases hl : l = .player
  · rw [if_pos hl]
    by_cases hoff : s.tuner.state = .off
    · rw [if_neg fun h => h.2 hoff, tunerOff_of_off (by simp [Tuner.engaged, hoff])]
      exact ⟨rfl, rfl⟩
    · rw [if_pos ⟨hl, hoff⟩, tunerOff_of_engaged (by simpa [Tuner.engaged] using hoff)]
      refine ⟨handTunerMute_tuner _, ?_⟩
      rw [handTunerMute_mixer]
      rfl
  · rw [if_neg hl, if_neg fun h => hl h.1]
    exact ⟨rfl, rfl⟩

theorem grantAsked_same (l : Link) (s : State) :
    (grantAsked l s).engine = s.engine ∧ (grantAsked l s).lanes = s.lanes ∧ (grantAsked l s).control = s.control ∧
      (grantAsked l s).frontEnd = s.frontEnd ∧ (grantAsked l s).stores = s.stores ∧ (grantAsked l s).capture = s.capture := by
  have hkept : changesOnly [.links, .arbiter, .tuner, .mixer] s (grantAsked l s) := changesOnly_grantAsked
  exact ⟨hkept.same .engine (by decide), hkept.same .lanes (by decide), hkept.same .control (by decide),
    hkept.same .frontEnd (by decide), hkept.same .stores (by decide), hkept.same .capture (by decide)⟩

/-! ### The engine's answer (R56, R57, R58) -/

variable {i : Nat} {p : Preset}

theorem Engine.same_iff (e : Engine) (i : Nat) :
    e.same i = true ↔ ¬∀ sc, e.scene = some sc → sc.source ≠ i ∨ sc.dirty = true := by
  unfold Engine.same
  cases e.scene <;> simp

theorem Engine.dual_iff (e : Engine) (p : Preset) :
    (e.dual || p.kind == .dual) = true ↔ p.kind = .dual ∨ ∃ sc, e.scene = some sc ∧ sc.preset.kind = .dual := by
  unfold Engine.dual
  cases e.scene <;> simp [or_comm]

theorem engineGrant_noPreset (h : ∀ p, s.stores.preset i ≠ .valid p) :
    engineGrant l i s = (some .noPreset, writeFault ⟨.noPreset, some l, none, some i⟩ s) := by
  cases hrec : s.stores.preset i
  case valid p => exact absurd hrec (h p)
  all_goals simp only [engineGrant, hrec]

theorem engineGrant_loadFail (hp : s.stores.preset i = .valid p) (hready : s.stores.presetReady p = false) :
    engineGrant l i s = (some .loadFail, writeFault ⟨.loadFail, some l, none, some i⟩ s) := by
  simp only [engineGrant, hp, hready, Bool.not_false, if_true]

theorem engineGrant_same (hp : s.stores.preset i = .valid p) (hready : s.stores.presetReady p = true)
    (hsame : s.engine.same i = true) : engineGrant l i s = (some .same, s) := by
  simp only [engineGrant, hp, hready, hsame, Bool.not_true, Bool.false_eq_true, if_false, if_true]

theorem engineGrant_begins (hp : s.stores.preset i = .valid p) (hready : s.stores.presetReady p = true)
    (hsame : s.engine.same i = false) : engineGrant l i s = (none, beginTransition l i p s) := by
  simp only [engineGrant, hp, hready, hsame, Bool.not_true, Bool.false_eq_true, if_false]

/-! ### A grant that ends at once (R56, R57) -/

/-- A grant of the recall in a link's slot that ends with a result, its changes and what it raises. -/
def GrantEnded (l : Link) (w : Waiting) (r : Result) (bs : List Block) (raised : NoticeClass → Bool) (s t : State) : Prop :=
  changesOnly ([.links, .arbiter, .tuner, .mixer] ++ bs) s t ∧
    t.arbiter = { s.arbiter with slots := s.arbiter.slots.set l none } ∧ tunerAfterGrant l s t ∧
    (t.link l).core = { (s.link l).core with
      reserved := (s.link l).reserved - 1
      queue := (s.link l).queue ++ [resultMessage (if w.place = none then .recallIndex else .recall) w.tag r] } ∧
    (∀ k : Link, k ≠ l → (t.link k).core = (s.link k).core) ∧ announces (fun _ n => grantRaises l s n || raised n) s t

/-- A response moves no notice. -/
theorem raises_respond {R : Link → NoticeClass → Bool} (h : raises R s u) (l : Link) (ty : ReqType) (tag : Byte) (r : Result) :
    raises R s (respond l ty tag r u) := by
  intro k
  rw [respond, queueMessage, State.link_setLink]
  split
  · next hk =>
    subst hk
    exact h k
  · exact h k

/-- What a queued response makes of a link, transmitter and pending flags aside. -/
theorem queued_core_congr {x y : LinkIf} (h : x.core = y.core) (m : Message) :
    { x.core with reserved := x.reserved - 1, queue := x.queue ++ [m] } =
      { y.core with reserved := y.reserved - 1, queue := y.queue ++ [m] } := by
  have hreserved : x.core.reserved = y.core.reserved := by rw [h]
  have hqueue : x.core.queue = y.core.queue := by rw [h]
  change x.reserved = y.reserved at hreserved
  change x.queue = y.queue at hqueue
  rw [h, hreserved, hqueue]

theorem grantEnded_of {r : Result} {bs : List Block} {R : NoticeClass → Bool}
    (h : engineGrant l w.index (grantAsked l s) = (some r, u)) (hR : RaisesOnly R (grantAsked l s) u)
    (hc : changesOnly (.links :: bs) (grantAsked l s) u) (hbs : ∀ b ∈ bs, b = .capture) :
    GrantEnded l w r bs R s (pump (grantRecall l w s)) := by
  have hraised := (raisesOnly_grantAsked l s).trans hR
  have hother (b : Block) (hb : b ≠ .capture) (hlinks : b ≠ .links) : b ∉ .links :: bs := by
    rw [List.mem_cons, not_or]
    exact ⟨hlinks, fun hmem => hb (hbs b hmem)⟩
  have hgrant : pump (grantRecall l w s) = requestAnswered (recallType w.place.isNone) l w.tag (r, u) := by
    rw [grantRecall_eq, h]
    rfl
  have hcore : (u.link l).core = (s.link l).core := hraised.core l
  rw [hgrant]
  refine ⟨?_, ?_, ?_, ?_, fun k hk => ?_, announces_pump (raises_respond hraised.raised l _ _ _)⟩
  · refine changesOnly_pump (bs := [.arbiter, .tuner, .mixer] ++ bs)
      ((changesOnly_grantAsked.mono ?_).trans ((hc.mono ?_).trans (changesOnly_respond.mono ?_)))
    all_goals
      intro b hb
      simp only [List.mem_cons, List.mem_append, List.not_mem_nil, or_false] at hb ⊢
      tauto
  · rw [requestAnswered_arbiter, hc.same .arbiter (hother .arbiter (by decide) (by decide)), grantAsked_arbiter]
  · have hasked := tunerAfterGrant_grantAsked l s
    rw [tunerAfterGrant, requestAnswered_tuner, requestAnswered_mixer,
      hc.same .tuner (hother .tuner (by decide) (by decide)), hc.same .mixer (hother .mixer (by decide) (by decide))]
    exact hasked
  · rw [requestAnswered_link_core, recallType_eq]
    exact queued_core_congr hcore _
  · rw [requestAnswered_link_core_of_ne hk]
    exact hraised.core k

variable (hp : s.stores.preset w.index = .valid p)

/-- NO_PRESET (R56). -/
theorem grantEnded_noPreset (h : ∀ p, s.stores.preset w.index ≠ .valid p) :
    GrantEnded l w .noPreset [.capture] (fun n => n == .fault && s.capture.isNone) s (pump (grantRecall l w s)) ∧
      (pump (grantRecall l w s)).capture =
        if s.capture = none then some ⟨.noPreset, some l, none, some w.index⟩ else s.capture := by
  obtain ⟨-, -, -, -, hstores, hcapture⟩ := grantAsked_same l s
  have hengine := engineGrant_noPreset (l := l) (s := grantAsked l s) (i := w.index) (by rwa [hstores])
  have htakes : captureTakes (grantAsked l s).capture ⟨.noPreset, some l, none, some w.index⟩ = s.capture.isNone := by
    rw [captureTakes_minor rfl, hcapture]
  refine ⟨grantEnded_of hengine ((raisesOnly_writeFault _ _).congr fun n => ?_)
    ((changesOnly_writeFault _ _).mono (by decide)) (by simp), ?_⟩
  · rw [htakes, Bool.and_comm]
  · have hfault : (pump (grantRecall l w s)).capture =
        (writeFault ⟨.noPreset, some l, none, some w.index⟩ (grantAsked l s)).capture := by
      rw [grantRecall_eq, hengine]
      rfl
    rw [hfault, writeFault_capture, htakes, hcapture]
    exact if_congr Option.isNone_iff_eq_none rfl rfl

include hp

/-- LOAD_FAIL (R56). -/
theorem grantEnded_loadFail (hready : s.stores.presetReady p = false) :
    GrantEnded l w .loadFail [.capture] (fun n => n == .fault && !captureLocked s) s (pump (grantRecall l w s)) ∧
      (pump (grantRecall l w s)).capture =
        if captureLocked s = true then s.capture else some ⟨.loadFail, some l, none, some w.index⟩ := by
  obtain ⟨-, -, -, -, hstores, hcapture⟩ := grantAsked_same l s
  have hengine := engineGrant_loadFail (l := l) (s := grantAsked l s) (i := w.index) (by rwa [hstores]) (by rwa [hstores])
  have htakes : captureTakes (grantAsked l s).capture ⟨.loadFail, some l, none, some w.index⟩ = !captureLocked s := by
    rw [hcapture, captureLocked]
    cases s.capture <;> simp [captureTakes, FaultClass.major]
  refine ⟨grantEnded_of hengine ((raisesOnly_writeFault _ _).congr fun n => ?_)
    ((changesOnly_writeFault _ _).mono (by decide)) (by simp), ?_⟩
  · rw [htakes, Bool.and_comm]
  · have hfault : (pump (grantRecall l w s)).capture =
        (writeFault ⟨.loadFail, some l, none, some w.index⟩ (grantAsked l s)).capture := by
      rw [grantRecall_eq, hengine]
      rfl
    rw [hfault, writeFault_capture, htakes, hcapture]
    cases captureLocked s <;> rfl

/-- SAME (R57). -/
theorem grantEnded_same (hready : s.stores.presetReady p = true)
    (hsame : ¬∀ sc, s.engine.scene = some sc → sc.source ≠ w.index ∨ sc.dirty = true) :
    GrantEnded l w .same [] (fun _ => false) s (pump (grantRecall l w s)) := by
  obtain ⟨hengine, -, -, -, hstores, -⟩ := grantAsked_same l s
  have hanswer := engineGrant_same (l := l) (s := grantAsked l s) (i := w.index) (by rwa [hstores]) (by rwa [hstores])
    ((Engine.same_iff _ _).2 (by rwa [hengine]))
  exact grantEnded_of hanswer (.refl _) (.refl _ _) (by simp)

end

/-! ### A grant that begins a transition (R58 to R61, R65, R66) -/

/-- A grant of the recall in a link's slot that begins a transition, its changes and what it raises. -/
def GrantBegun (l : Link) (w : Waiting) (bs : List Block) (raised : NoticeClass → Bool) (s t : State) : Prop :=
  changesOnly ([.links, .arbiter, .tuner, .mixer, .engine] ++ bs) s t ∧
    t.arbiter = { s.arbiter with
      slots := s.arbiter.slots.set l none, grant := some ⟨l, w.tag, decide (w.place = none), true⟩ } ∧
    tunerAfterGrant l s t ∧ linksKept s t ∧ announces (fun _ n => grantRaises l s n || n == .scene || raised n) s t

section

variable {l : Link} {w : Waiting} {s t u v : State} {tr : Transition} {x : LaneId}

/-- What a scene's replacement is told by. -/
theorem sceneReplaced_congr (h : sceneReplaced tr u v) (hengine : u.engine = s.engine) (hcontrol : u.control = s.control)
    (hengine' : t.engine = v.engine) (hcontrol' : t.control = v.control) : sceneReplaced tr s t := by
  rw [sceneReplaced, hengine, hcontrol] at h
  rwa [sceneReplaced, hengine', hcontrol']

theorem fadeLoaded_congr (h : fadeLoaded x u v) (hlanes : u.lanes = s.lanes) (hfront : u.frontEnd = s.frontEnd)
    (hengine' : t.engine = v.engine) (hcontrol' : t.control = v.control) (hlanes' : t.lanes = v.lanes) : fadeLoaded x s t := by
  rw [fadeLoaded, hlanes, hfront] at h
  rwa [fadeLoaded, hengine', hcontrol', hlanes']

theorem dipLoaded_congr (h : dipLoaded u v) (hlanes : u.lanes = s.lanes) (hfront : u.frontEnd = s.frontEnd)
    (hengine' : t.engine = v.engine) (hcontrol' : t.control = v.control) (hlanes' : t.lanes = v.lanes) : dipLoaded s t := by
  intro sc hsc
  rw [hengine'] at hsc
  have hloaded := h sc hsc
  rwa [hlanes, hfront, ← hcontrol', ← hlanes'] at hloaded

theorem grantBegun_of {bs : List Block} {R : NoticeClass → Bool}
    (h : engineGrant l w.index (grantAsked l s) = (none, u)) (hR : RaisesOnly (fun n => n == .scene || R n) (grantAsked l s) u)
    (hc : changesOnly ([.links, .engine] ++ bs) (grantAsked l s) u) (hbs : ∀ b ∈ bs, b = .lanes ∨ b = .control) :
    GrantBegun l w bs R s (pump (grantRecall l w s)) ∧
      (pump (grantRecall l w s)).engine = u.engine ∧ (pump (grantRecall l w s)).lanes = u.lanes ∧
      (pump (grantRecall l w s)).control = u.control := by
  have hraised := (raisesOnly_grantAsked l s).trans hR
  have hother (b : Block) (hb : b ∉ [.links, .engine, .lanes, .control]) : b ∉ [.links, .engine] ++ bs := by
    simp only [List.mem_cons, List.mem_append, List.not_mem_nil, or_false, not_or] at hb ⊢
    exact ⟨⟨hb.1, hb.2.1⟩, fun hmem => (hbs b hmem).elim hb.2.2.1 hb.2.2.2⟩
  have hgrant : grantRecall l w s = u.withArbiter { u.arbiter with grant := some ⟨l, w.tag, w.place.isNone, true⟩ } := by
    rw [grantRecall_eq, h]
    rfl
  have hnone : w.place.isNone = decide (w.place = none) := by cases w.place <;> rfl
  rw [hgrant]
  refine ⟨⟨?_, ?_, ?_, fun k => ?_, ?_⟩, rfl, rfl, rfl⟩
  · refine changesOnly_pump (bs := [.arbiter, .tuner, .mixer, .engine] ++ bs)
      ((changesOnly_grantAsked.mono ?_).trans ((hc.mono ?_).trans (changesOnly_withArbiter.mono ?_)))
    all_goals
      intro b hb
      simp only [List.mem_cons, List.mem_append, List.not_mem_nil, or_false] at hb ⊢
      tauto
  · rw [pump_arbiter, State.withArbiter_arbiter, hc.same .arbiter (hother .arbiter (by decide)), grantAsked_arbiter, hnone]
  · have hasked := tunerAfterGrant_grantAsked l s
    rw [tunerAfterGrant, pump_tuner, pump_mixer, State.withArbiter_tuner, State.withArbiter_mixer,
      hc.same .tuner (hother .tuner (by decide)), hc.same .mixer (hother .mixer (by decide))]
    exact hasked
  · rw [pump_link_core, State.link_withArbiter]
    exact hraised.core k
  · have hannounced := (hraised.rest (u := u.withArbiter { u.arbiter with grant := some ⟨l, w.tag, w.place.isNone, true⟩ })
      (.of_changesOnly changesOnly_withArbiter (by decide))).pumped.2
    simpa only [Bool.or_assoc] using hannounced

theorem enterPrepare_of_idle (h : (s.lanes.get x).state = .idle) : enterPrepare tr x s = loadStep tr s := by
  rw [enterPrepare, h]

theorem enterPrepare_of_tailing (h : (s.lanes.get x).state = .tailing) :
    enterPrepare tr x s =
      (s.setLane x (s.lanes.get x).cut).withEngine { s.engine with transition := some { tr with tailCut := true } } := by
  rw [enterPrepare, h]

theorem enterPrepare_of_cutting (h : (s.lanes.get x).state = .cutting) :
    enterPrepare tr x s = s.withEngine { s.engine with transition := some tr } := by
  rw [enterPrepare, h]

theorem changesOnly_retargeted {y : Lane} {e : Engine} : changesOnly [.engine, .lanes] s ((s.setLane x y).withEngine e) :=
  changesOnly_setLane.comp changesOnly_withEngine (by decide) (by decide)

theorem dipOutOver_iff (lanes : PerLane Lane) :
    dipOutOver lanes = true ↔ ∀ y : LaneId, (lanes.get y).state = .idle ∨ (lanes.get y).outRamp = 0 := by
  simp only [dipOutOver, Bool.and_eq_true, Bool.or_eq_true, beq_iff_eq]
  exact ⟨fun h y => by cases y; exacts [h.1, h.2], fun h => ⟨h .a, h .b⟩⟩

/-- The record of a DIP as DIP_OUT begins, with TAIL_CUT where a lane is TAILING (R65). -/
def dipRecord (l : Link) (i : Nat) (p : Preset) (lanes : PerLane Lane) : Transition :=
  { grantedRecord l i p .dip none with tailCut := decide (lanes.a.state = .tailing ∨ lanes.b.state = .tailing) }

theorem enterDipOut_eq (l : Link) (i : Nat) (p : Preset) (s : State) :
    enterDipOut (grantedRecord l i p .dip none) s =
      if dipOutOver s.lanes = true then dipOutEnd (dipRecord l i p s.lanes) s
      else s.withEngine { s.engine with transition := some (dipRecord l i p s.lanes) } := by
  have hcut : (false || s.lanes.a.state == .tailing || s.lanes.b.state == .tailing) =
      decide (s.lanes.a.state = .tailing ∨ s.lanes.b.state = .tailing) := by
    rw [Bool.false_or, Bool.eq_iff_iff]
    simp
  have hrecord : dipRecord l i p s.lanes = { grantedRecord l i p .dip none with
      tailCut := false || s.lanes.a.state == .tailing || s.lanes.b.state == .tailing } := by
    rw [dipRecord, hcut]
  rw [hrecord]
  rfl

/-- The state in which a granted transition begins (R58). -/
def sceneRaised (l : Link) (s : State) : State := raiseNotice .scene (grantAsked l s)

theorem sceneRaised_same (l : Link) (s : State) :
    (sceneRaised l s).engine = s.engine ∧ (sceneRaised l s).lanes = s.lanes ∧ (sceneRaised l s).control = s.control ∧
      (sceneRaised l s).frontEnd = s.frontEnd := by
  obtain ⟨hengine, hlanes, hcontrol, hfront, -, -⟩ := grantAsked_same l s
  exact ⟨hengine, hlanes, hcontrol, hfront⟩

/-- A grant whose transition goes on from that state. -/
theorem grantBegun_of_sceneRaised {bs : List Block} {R : NoticeClass → Bool}
    (h : engineGrant l w.index (grantAsked l s) = (none, u)) (hR : RaisesOnly R (sceneRaised l s) u)
    (hc : changesOnly ([.links, .engine] ++ bs) (sceneRaised l s) u) (hbs : ∀ b ∈ bs, b = .lanes ∨ b = .control) :
    GrantBegun l w bs R s (pump (grantRecall l w s)) ∧
      (pump (grantRecall l w s)).engine = u.engine ∧ (pump (grantRecall l w s)).lanes = u.lanes ∧
      (pump (grantRecall l w s)).control = u.control :=
  grantBegun_of h ((raisesOnly_raiseNotice .scene (grantAsked l s)).trans hR)
    ((changesOnly_raiseNotice.mono (by simp)).trans hc) hbs

/-- A granted transition that loads lanes at once. -/
theorem grantBegun_of_loaded (hgrant : engineGrant l w.index (grantAsked l s) = (none, u))
    (hR : RaisesOnly (loadRaises tr.copied (sceneRaised l s)) (sceneRaised l s) u)
    (hc : changesOnly [.links, .engine, .control, .lanes] (sceneRaised l s) u) (hscene : sceneReplaced tr (sceneRaised l s) u) :
    GrantBegun l w [.lanes, .control] (loadRaises tr.copied s) s (pump (grantRecall l w s)) ∧
      sceneReplaced tr s (pump (grantRecall l w s)) ∧
      (fadeLoaded x (sceneRaised l s) u → fadeLoaded x s (pump (grantRecall l w s))) ∧
      (dipLoaded (sceneRaised l s) u → dipLoaded s (pump (grantRecall l w s))) := by
  obtain ⟨hengine, hlanes, hcontrol, hfront⟩ := sceneRaised_same l s
  obtain ⟨hbegun, hengine', hlanes', hcontrol'⟩ := grantBegun_of_sceneRaised (bs := [.lanes, .control]) hgrant
    (hR.congr (R' := loadRaises tr.copied s) fun n => by rw [loadRaises, loadRaises, hcontrol]) (hc.mono (by decide)) (by simp)
  exact ⟨hbegun, sceneReplaced_congr hscene hengine hcontrol hengine' hcontrol',
    fun h => fadeLoaded_congr h hlanes hfront hengine' hcontrol' hlanes',
    fun h => dipLoaded_congr h hlanes hfront hengine' hcontrol' hlanes'⟩

variable {p : Preset} (hp : s.stores.preset w.index = .valid p) (hready : s.stores.presetReady p = true)
  (hother : ∀ sc, s.engine.scene = some sc → sc.source ≠ w.index ∨ sc.dirty = true)

include hp hready hother

/-- The engine's answer to such a grant. -/
theorem engineGrant_grantAsked :
    engineGrant l w.index (grantAsked l s) = (none, beginTransition l w.index p (grantAsked l s)) := by
  obtain ⟨hengine, -, -, -, hstores, -⟩ := grantAsked_same l s
  refine engineGrant_begins (by rwa [hstores]) (by rwa [hstores]) ?_
  rw [← Bool.not_eq_true, Engine.same_iff, hengine]
  exact not_not.2 hother

section

variable (hdual : ¬(p.kind = .dual ∨ ∃ sc, s.engine.scene = some sc ∧ sc.preset.kind = .dual))

include hdual

/-- A FADE begins in PREPARE (R58, R59). -/
theorem engineGrant_fade :
    engineGrant l w.index (grantAsked l s) =
      (none, enterPrepare (grantedRecord l w.index p .fade (some (fadeTarget s.lanes))) (fadeTarget s.lanes)
        (sceneRaised l s)) := by
  obtain ⟨hengine, hlanes, -, -, -, -⟩ := grantAsked_same l s
  rw [engineGrant_grantAsked hp hready hother, beginTransition_eq, hengine, hlanes,
    if_neg (by rw [Engine.dual_iff]; exact hdual)]
  rfl

/-- An IDLE target is loaded at once (R59, R61). -/
theorem grantBegun_fade_idle (hidle : (s.lanes.get (fadeTarget s.lanes)).state = .idle) :
    GrantBegun l w [.lanes, .control] (loadRaises p s) s (pump (grantRecall l w s)) ∧
      sceneReplaced (grantedRecord l w.index p .fade (some (fadeTarget s.lanes))) s (pump (grantRecall l w s)) ∧
      fadeLoaded (fadeTarget s.lanes) s (pump (grantRecall l w s)) := by
  obtain ⟨-, hlanes, -, -⟩ := sceneRaised_same l s
  have hgrant := engineGrant_fade (l := l) hp hready hother hdual
  rw [enterPrepare_of_idle (by rwa [hlanes])] at hgrant
  obtain ⟨hbegun, hscene, hfade, -⟩ := grantBegun_of_loaded (x := fadeTarget s.lanes) hgrant (raisesOnly_loadStep _ _)
    changesOnly_loadStep (sceneReplaced_loadStep _ _)
  exact ⟨hbegun, hscene, hfade (fadeLoaded_loadStep rfl rfl _)⟩

/-- A TAILING target is cut, with TAIL_CUT (R59). -/
theorem grantBegun_fade_tailing (htailing : (s.lanes.get (fadeTarget s.lanes)).state = .tailing) :
    GrantBegun l w [.lanes] (fun _ => false) s (pump (grantRecall l w s)) ∧
      (pump (grantRecall l w s)).engine = { s.engine with
        transition := some { grantedRecord l w.index p .fade (some (fadeTarget s.lanes)) with tailCut := true } } ∧
      (pump (grantRecall l w s)).lanes =
        s.lanes.set (fadeTarget s.lanes) { s.lanes.get (fadeTarget s.lanes) with state := .cutting } := by
  obtain ⟨hengine, hlanes, -, -⟩ := sceneRaised_same l s
  have hgrant := engineGrant_fade (l := l) hp hready hother hdual
  rw [enterPrepare_of_tailing (by rwa [hlanes]), hengine, hlanes] at hgrant
  obtain ⟨hbegun, hengine', hlanes', -⟩ := grantBegun_of_sceneRaised (bs := [.lanes]) hgrant
    (.of_changesOnly (bs := [.engine, .lanes]) changesOnly_retargeted (by decide)) (changesOnly_retargeted.mono (by decide))
    (by simp)
  refine ⟨hbegun, hengine', hlanes'.trans ?_⟩
  rw [State.withEngine_lanes, State.setLane_lanes, hlanes]
  rfl

/-- A CUTTING target is left to its cut (R59). -/
theorem grantBegun_fade_cutting (hcutting : (s.lanes.get (fadeTarget s.lanes)).state = .cutting) :
    GrantBegun l w [] (fun _ => false) s (pump (grantRecall l w s)) ∧
      (pump (grantRecall l w s)).engine = { s.engine with
        transition := some (grantedRecord l w.index p .fade (some (fadeTarget s.lanes))) } := by
  obtain ⟨hengine, hlanes, -, -⟩ := sceneRaised_same l s
  have hgrant := engineGrant_fade (l := l) hp hready hother hdual
  rw [enterPrepare_of_cutting (by rwa [hlanes]), hengine] at hgrant
  obtain ⟨hbegun, hengine', -, -⟩ := grantBegun_of_sceneRaised (bs := []) hgrant
    (.of_changesOnly changesOnly_withEngine (by decide)) (changesOnly_withEngine.mono (by decide)) (by simp)
  exact ⟨hbegun, hengine'⟩

end

section

variable (hdual : p.kind = .dual ∨ ∃ sc, s.engine.scene = some sc ∧ sc.preset.kind = .dual)

include hdual

/-- A DIP begins in DIP_OUT (R58, R65). -/
theorem engineGrant_dip :
    engineGrant l w.index (grantAsked l s) = (none, enterDipOut (grantedRecord l w.index p .dip none) (sceneRaised l s)) := by
  obtain ⟨hengine, -, -, -, -, -⟩ := grantAsked_same l s
  rw [engineGrant_grantAsked hp hready hother, beginTransition_eq, hengine, if_pos (by rw [Engine.dual_iff]; exact hdual)]
  rfl

/-- While a lane sounds DIP_OUT waits (R65). -/
theorem grantBegun_dip_waits (hsounds : ¬∀ y : LaneId, (s.lanes.get y).state = .idle ∨ (s.lanes.get y).outRamp = 0) :
    GrantBegun l w [] (fun _ => false) s (pump (grantRecall l w s)) ∧
      (pump (grantRecall l w s)).engine = { s.engine with transition := some (dipRecord l w.index p s.lanes) } := by
  obtain ⟨hengine, hlanes, -, -⟩ := sceneRaised_same l s
  have hgrant := engineGrant_dip (l := l) hp hready hother hdual
  rw [enterDipOut_eq, hlanes, if_neg (by rwa [dipOutOver_iff]), hengine] at hgrant
  obtain ⟨hbegun, hengine', -, -⟩ := grantBegun_of_sceneRaised (bs := []) hgrant
    (.of_changesOnly changesOnly_withEngine (by decide)) (changesOnly_withEngine.mono (by decide)) (by simp)
  exact ⟨hbegun, hengine'⟩

/-- With every lane IDLE or silent the new scene is loaded at once (R65, R66). -/
theorem grantBegun_dip_silent (hsilent : ∀ y : LaneId, (s.lanes.get y).state = .idle ∨ (s.lanes.get y).outRamp = 0) :
    GrantBegun l w [.lanes, .control] (loadRaises p s) s (pump (grantRecall l w s)) ∧
      sceneReplaced (dipRecord l w.index p s.lanes) s (pump (grantRecall l w s)) ∧
      dipLoaded s (pump (grantRecall l w s)) := by
  obtain ⟨-, hlanes, -, -⟩ := sceneRaised_same l s
  have hgrant := engineGrant_dip (l := l) hp hready hother hdual
  rw [enterDipOut_eq, hlanes, if_pos (by rwa [dipOutOver_iff])] at hgrant
  obtain ⟨hbegun, hscene, -, hdip⟩ := grantBegun_of_loaded (x := .a) hgrant (raisesOnly_dipOutEnd _ _)
    changesOnly_dipOutEnd (sceneReplaced_loadStep (dipRecord l w.index p s.lanes)
      ((sceneRaised l s).withLanes ((sceneRaised l s).lanes.map Lane.toIdle)))
  exact ⟨hbegun, hscene, hdip (dipLoaded_dipOutEnd rfl _)⟩

end

end

end Sys2Proof.Machine

/-! The look that grants (R84, R85): a recall granted on its arrival or at a look, and the obligations on grants. -/

namespace Sys2Proof.Machine

section

variable {l : Link} {w : Waiting} {s t : State}

/-! ### The look that grants -/

theorem linkRank_injective {k l : Link} (h : linkRank k = linkRank l) : k = l := by
  revert h
  cases k <;> cases l <;> decide

/-- The arbiter chooses a slot that can be granted where none of a higher rank can (R84). -/
theorem Arbiter.choice_eq_some {a : Arbiter} (hl : a.grantable l = true)
    (hhigher : ∀ k, linkRank k < linkRank l → a.grantable k = false) : a.choice = some l := by
  cases hchoice : a.choice with
  | none => simp [Arbiter.choice_eq_none.1 hchoice l] at hl
  | some k =>
    have hspec := a.choice_spec
    rw [hchoice] at hspec
    obtain ⟨hk, hbest⟩ := hspec
    rcases Nat.lt_trichotomy (linkRank k) (linkRank l) with hlt | heq | hgt
    · simp [hhigher k hlt] at hk
    · rw [linkRank_injective heq]
    · simp [hbest l hgt] at hl

/-- A look that grants, and finds nothing more to grant. -/
theorem arbiterLook_grants (htr : s.engine.transition = none) (hw : s.arbiter.slots.get l = some w)
    (hchoice : s.arbiter.choice = some l)
    (hrest : (grantRecall l w s).engine.transition.isSome = true ∨ (grantRecall l w s).arbiter.choice = none) :
    arbiterLook s = grantRecall l w s := by
  have hlook : arbiterLook s = look 2 (grantRecall l w s) := by simp [arbiterLook, look, htr, hchoice, hw]
  rw [hlook]
  rcases hrest with h | h <;> simp [look, h]

/-- After a grant that gives no result at once a transition is in flight. -/
theorem grantRecall_transition (h : (engineGrant l w.index (grantAsked l s)).1 = none) :
    (grantRecall l w s).engine.transition.isSome = true := by
  have hbegun := engineGrant_transition h
  rw [grantRecall_eq]
  generalize engineGrant l w.index (grantAsked l s) = o at h hbegun
  obtain ⟨_ | r, u⟩ := o
  · exact hbegun
  · cases h

/-- After a grant with no other slot that can be granted, a transition is in flight or nothing is left to grant. -/
theorem grantRecall_rests (halone : ∀ k, k ≠ l → s.arbiter.grantable k = false) :
    (grantRecall l w s).engine.transition.isSome = true ∨ (grantRecall l w s).arbiter.choice = none := by
  cases hresult : (engineGrant l w.index (grantAsked l s)).1 with
  | none => exact .inl (grantRecall_transition hresult)
  | some r =>
    refine .inr (Arbiter.choice_eq_none.2 fun k => ?_)
    have harbiter : (grantRecall l w s).arbiter = { s.arbiter with slots := s.arbiter.slots.set l none } := by
      rw [grantRecall_arbiter, hresult]
    rw [harbiter, Arbiter.grantable, PerLink.get_set]
    split
    · rfl
    · next hk => exact halone k hk

/-- Where one recall alone can be granted, the look is its grant. -/
theorem arbiterLook_of_one (htr : s.engine.transition = none) (hw : s.arbiter.slots.get l = some w)
    (hl : s.arbiter.barred l = false) (halone : ∀ k, k ≠ l → s.arbiter.grantable k = false) :
    arbiterLook s = grantRecall l w s := by
  refine arbiterLook_grants htr hw (Arbiter.choice_eq_some ?_ fun k hk => halone k ?_) (grantRecall_rests halone)
  · rw [Arbiter.grantable, hw, hl]
    rfl
  · rintro rfl
    exact Nat.lt_irrefl _ hk

theorem grantable_of_empty {k : Link} (h : s.arbiter.slots.get k = none) : s.arbiter.grantable k = false := by
  rw [Arbiter.grantable, h]
  rfl

/-- What every grant that begins a transition does, whatever the lanes do (R85, R86, R92). -/
theorem grantBegun_some {p : Preset} (hp : s.stores.preset w.index = .valid p) (hready : s.stores.presetReady p = true)
    (hother : ∀ sc, s.engine.scene = some sc → sc.source ≠ w.index ∨ sc.dirty = true) :
    ∃ R, GrantBegun l w [.lanes, .control] R s (pump (grantRecall l w s)) := by
  obtain ⟨R, hR⟩ := raisesOnly_beginTransition l w.index p (grantAsked l s)
  obtain ⟨hbegun, -⟩ := grantBegun_of (bs := [.lanes, .control]) (engineGrant_grantAsked hp hready hother) hR
    (changesOnly_beginTransition.mono (by decide)) (by simp)
  exact ⟨R, hbegun⟩

/-! ### What a look that grants comes to -/

/-- A state that is the grant's wherever the claim speaks of it is what the claim says. -/
theorem grantTaken_of (halone : (∀ k : Link, k ≠ l → s.arbiter.slots.get k = none) → t = pump (grantRecall l w s))
    (hbegins : (engineGrant l w.index (grantAsked l s)).1 = none → t = pump (grantRecall l w s)) : grantTaken l w s t := by
  unfold grantTaken
  intro slots ended begun alone x silent
  refine ⟨fun h hno => ?_, fun p hp => ?_⟩
  · obtain rfl := halone h
    exact grantEnded_noPreset (l := l) hno
  · intro fade dip dual other
    have hgrant (hready : s.stores.presetReady p = true) (hother : other) : t = pump (grantRecall l w s) :=
      hbegins (by rw [engineGrant_grantAsked hp hready hother])
    refine ⟨fun h hready => ?_, fun h hready hsame => ?_, fun hready hother hdual => ?_, fun hready hother hdual => ?_⟩
    · obtain rfl := halone h
      exact grantEnded_loadFail (l := l) hp hready
    · obtain rfl := halone h
      exact grantEnded_same (l := l) hp hready hsame
    · obtain rfl := hgrant hready hother
      exact ⟨grantBegun_fade_idle (l := l) hp hready hother hdual, grantBegun_fade_tailing (l := l) hp hready hother hdual,
        grantBegun_fade_cutting (l := l) hp hready hother hdual⟩
    · obtain rfl := hgrant hready hother
      exact ⟨grantBegun_dip_waits (l := l) hp hready hother hdual, grantBegun_dip_silent (l := l) hp hready hother hdual⟩

/-- The look at a state in which a recall is chosen, in the claims' terms. -/
theorem grantTaken_look (htr : s.engine.transition = none) (hw : s.arbiter.slots.get l = some w)
    (hchoice : s.arbiter.choice = some l) : grantTaken l w s (pump (arbiterLook s)) :=
  grantTaken_of
    (fun h => congrArg pump (arbiterLook_grants htr hw hchoice (grantRecall_rests fun k hk => grantable_of_empty (h k hk))))
    fun h => congrArg pump (arbiterLook_grants htr hw hchoice (.inl (grantRecall_transition h)))

/-! ### A recall granted on its arrival (R84) -/

/-- The state in which a recall has arrived in its empty slot. -/
def recallArrived (l : Link) (w : Waiting) (s : State) : State :=
  (accepted l s).withArbiter { s.arbiter with slots := s.arbiter.slots.set l (some w) }

theorem grantsAtOnce_iff (l : Link) (s : State) :
    grantsAtOnce l s = true ↔
      accepting l s = true ∧ AtRest s ∧ s.engine.transition = none ∧ s.arbiter.barred l = false := by
  simp only [grantsAtOnce, Bool.and_eq_true, restLaw_iff, Option.isNone_iff_eq_none, Bool.not_eq_true', and_assoc]

/-- Where the arbiter is at rest and the link is not barred, nothing holds its recall back (R83). -/
theorem cannotGrantNow_of_rest (hrest : ∀ k, s.arbiter.grantable k = false) (htr : s.engine.transition = none)
    (hl : s.arbiter.barred l = false) : cannotGrantNow l s = false := by
  have hhigher (k : Link) : (decide (linkRank k < linkRank l) && (s.arbiter.slots.get k).isSome) = false := by
    rw [← Bool.not_eq_true, Bool.and_eq_true, decide_eq_true_eq]
    rintro ⟨hrank, hslot⟩
    have hbarred := hrest k
    rw [Arbiter.grantable, hslot, Bool.true_and, Bool.not_eq_false'] at hbarred
    unfold Arbiter.barred at hbarred hl
    cases htenure : s.arbiter.tenure with
    | none => simp [htenure] at hbarred
    | some r =>
      simp only [htenure, decide_eq_true_eq, decide_eq_false_iff_not] at hbarred hl
      omega
  simp only [cannotGrantNow, htr, hl, List.any_cons, List.any_nil, hhigher, Option.isSome_none, Bool.or_false]

/-- Such a recall is granted in the handling in which it arrives. -/
theorem exec_recall_granted {tag : Byte} {i : Nat} {byIndex : Bool} {c : Instr} {p : Preset} (hgrants : grantsAtOnce l s = true)
    (htag : tag ≠ 0) (hc : recallOf l tag i byIndex c s) (hp : s.stores.preset i = .valid p) :
    ∃ w, askedBy i tag byIndex c w ∧ s.arbiter.slots.get l = none ∧
      exec c s = .next (pump (grantRecall l w (recallArrived l w s))) := by
  obtain ⟨hacc, hrest, htr, hbarred⟩ := (grantsAtOnce_iff l s).1 hgrants
  have hgrantable : ∀ k, s.arbiter.grantable k = false := hrest.resolve_left (by simp [htr])
  have hempty : s.arbiter.slots.get l = none := by
    have hl := hgrantable l
    rw [Arbiter.grantable, hbarred, Bool.not_false, Bool.and_true] at hl
    exact Option.isSome_eq_false_iff.1 hl |> Option.isNone_iff_eq_none.1
  obtain ⟨w, hw, -, henters⟩ := exec_recallOf hacc htag hc hp
  have hcan : ¬(asksImmediate l tag c ∧ cannotGrantNow l (accepted l s) = true) := by
    rw [cannotGrantNow_of_rest (s := accepted l s) hgrantable htr hbarred]
    simp
  have hlook : arbiterLook (recallArrived l w s) = grantRecall l w (recallArrived l w s) := by
    refine arbiterLook_of_one htr (PerLink.get_set_self ..) hbarred fun k hk => ?_
    have hslot : (recallArrived l w s).arbiter.slots.get k = s.arbiter.slots.get k := PerLink.get_set_other _ _ hk
    have hk' := hgrantable k
    rw [Arbiter.grantable] at hk' ⊢
    rw [hslot]
    exact hk'
  refine ⟨w, hw, hempty, ?_⟩
  rw [henters hcan, enterSlot_eq, slotEntered_of_empty (s := accepted l s) hempty]
  exact congrArg (fun u => Host.Outcome.next (pump u)) hlook

/-! ### From the arrival to the grant -/

section

variable {bs : List Block} {R : NoticeClass → Bool} {tag : Byte} {i : Nat} {byIndex : Bool} {c : Instr} {r : Result}

/-- What is announced is told by transmitters, masks and pending flags. -/
theorem announces_from {R : Link → NoticeClass → Bool} {v : State} (h : announces R v t)
    (hlinks : ∀ k, (v.link k).tx = (s.link k).tx ∧ (v.link k).mask = (s.link k).mask ∧ (v.link k).flags = (s.link k).flags) :
    announces R s t := by
  intro k
  obtain ⟨htx, hmask, hflags⟩ := hlinks k
  have hk := h k
  simp only [startedNotice, htx, hmask, hflags] at hk
  exact hk

theorem recallArrived_emptied (h : s.arbiter.slots.get l = none) :
    { (recallArrived l w s).arbiter with slots := (recallArrived l w s).arbiter.slots.set l none } = s.arbiter := by
  have hslots : (s.arbiter.slots.set l (some w)).set l none = s.arbiter.slots := by
    refine PerLink.ext_get fun k => ?_
    rw [PerLink.get_set]
    split
    · next hk => rw [hk, h]
    · next hk => exact PerLink.get_set_other _ _ hk
  exact congrArg (fun slots => { s.arbiter with slots := slots }) hslots

theorem changesOnly_recallArrived : changesOnly [.links, .arbiter] s (recallArrived l w s) :=
  changesOnly_accepted.comp changesOnly_withArbiter (by decide) (by decide)

/-- A grant on arrival that ends at once, seen from before the arrival. -/
theorem GrantEnded.on_arrival (h : GrantEnded l w r bs R (recallArrived l w s) t) (hempty : s.arbiter.slots.get l = none)
    (hw : askedBy i tag byIndex c w) :
    changesOnly ([.links, .tuner, .mixer] ++ bs) s t ∧
      respondsWith l (resultMessage (if byIndex then .recallIndex else .recall) tag r) s t ∧ tunerAfterGrant l s t ∧
      announces (fun _ n => grantRaises l s n || R n) s t := by
  obtain ⟨hc, harbiter, htuner, hself, hothers, hannounces⟩ := h
  obtain ⟨-, rfl, hbyIndex, -⟩ := hw
  rw [recallArrived_emptied hempty] at harbiter
  have htype : (if w.place = none then ReqType.recallIndex else .recall) = if byIndex then .recallIndex else .recall :=
    if_congr hbyIndex rfl rfl
  refine ⟨fun b hb => ?_, ⟨?_, fun k hk => ?_⟩, htuner, announces_from hannounces accepted_announced⟩
  · by_cases hbarb : b = .arbiter
    · rw [hbarb]
      exact harbiter
    · have hb' : b ∉ [.links, .arbiter, .tuner, .mixer] ++ bs := by
        simp only [List.mem_append, List.mem_cons, List.not_mem_nil, or_false, not_or] at hb ⊢
        tauto
      refine (changesOnly_recallArrived.mono (cs := [.links, .arbiter, .tuner, .mixer] ++ bs) ?_).trans hc b hb'
      intro b hb
      simp only [List.mem_append, List.mem_cons, List.not_mem_nil, or_false] at hb ⊢
      tauto
  · rw [hself, htype, recallArrived, State.link_withArbiter, accepted_link]
    rfl
  · rw [hothers k hk, recallArrived, State.link_withArbiter, accepted_link_other s hk]

/-- A grant on arrival that begins a transition, seen from before the arrival. -/
theorem GrantBegun.on_arrival (h : GrantBegun l w bs R (recallArrived l w s) t) (hempty : s.arbiter.slots.get l = none)
    (hw : askedBy i tag byIndex c w) :
    grantMade l tag byIndex s t ∧ tunerAfterGrant l s t ∧ changesOnly ([.links, .arbiter, .tuner, .mixer, .engine] ++ bs) s t ∧
      announces (fun _ n => grantRaises l s n || n == .scene || R n) s t := by
  obtain ⟨hc, harbiter, htuner, hkept, hannounces⟩ := h
  obtain ⟨-, rfl, hbyIndex, -⟩ := hw
  have hplace : decide (w.place = none) = byIndex := by
    rw [Bool.eq_iff_iff, decide_eq_true_eq]
    exact hbyIndex
  have hmade : t.arbiter = { s.arbiter with grant := some ⟨l, w.tag, byIndex, true⟩ } := by
    rw [harbiter, hplace]
    exact congrArg (fun a : Arbiter => { a with grant := some ⟨l, w.tag, byIndex, true⟩ }) (recallArrived_emptied hempty)
  refine ⟨⟨hmade, ?_, fun k hk => ?_⟩, htuner, ?_, announces_from hannounces accepted_announced⟩
  · rw [hkept l, recallArrived, State.link_withArbiter, accepted_link]
    rfl
  · rw [hkept k, recallArrived, State.link_withArbiter, accepted_link_other s hk]
  · refine (changesOnly_recallArrived.mono ?_).trans hc
    intro b hb
    simp only [List.mem_append, List.mem_cons, List.not_mem_nil, or_false] at hb ⊢
    tauto

end

/-- What READY means for a preset, curve by curve and impulse by impulse (R56). -/
theorem presetReady_spelled {st : Stores} {p : Preset} :
    st.presetReady p = true ↔ ∀ x : Chain, (x = p.chainA ∨ p.chainB = some x) →
      (st.curve x.drive.curve).state = .ready ∧ (st.curve x.power.curve).state = .ready ∧
        ∀ k, x.cab = some k → (st.impulse k).state = .ready := by
  have hchain (x : Chain) : st.chainReady x = true ↔ (st.curve x.drive.curve).state = .ready ∧
      (st.curve x.power.curve).state = .ready ∧ ∀ k, x.cab = some k → (st.impulse k).state = .ready := by
    unfold Stores.chainReady
    cases x.cab <;> simp [and_assoc]
  rw [presetReady_iff, hchain]
  exact ⟨fun ⟨ha, hb⟩ x hx => hx.elim (fun h => h ▸ ha) fun h => (hchain x).1 (hb x h),
    fun h => ⟨h _ (.inl rfl), fun c hc => (hchain c).2 (h c (.inr hc))⟩⟩

end

end Sys2Proof.Machine

namespace Sys2Proof.RecallArbitration

open Sys2Proof.Machine

/-- Settles O33: the grant on arrival, which ends with LOAD_FAIL or with SAME. -/
theorem grantEndsAtOnce : Obligations.GrantEndsAtOnce := by
  intro s l tag i byIndex c p hgrants htag hc hp ty ready
  obtain ⟨w, hw, hempty, hexec⟩ := exec_recall_granted hgrants htag hc hp
  have hready : s.stores.presetReady p = true ↔ ready := presetReady_spelled
  have hpw : (recallArrived l w s).stores.preset w.index = .valid p := by
    rw [hw.1]
    exact hp
  refine ⟨_, hexec, fun hnot => ?_, fun hyes sc hsc hsource hclean => ?_⟩
  · obtain ⟨hended, hcapture⟩ := grantEnded_loadFail (l := l) hpw (Bool.eq_false_iff.2 fun h => hnot (hready.1 h))
    obtain ⟨hchanges, hresponds, htuner, hannounces⟩ := hended.on_arrival hempty hw
    rw [hw.1] at hcapture
    exact ⟨hchanges, hresponds, htuner, hcapture, hannounces⟩
  · have hsame : ¬∀ sc, s.engine.scene = some sc → sc.source ≠ w.index ∨ sc.dirty = true := fun h => by
      rcases h sc hsc with hne | hdirty
      · exact hne (hsource.trans hw.1.symm)
      · simp [hclean] at hdirty
    obtain ⟨hchanges, hresponds, htuner, hannounces⟩ :=
      (grantEnded_same (l := l) hpw (hready.2 hyes) hsame).on_arrival hempty hw
    exact ⟨hchanges, hresponds, htuner, by simpa only [Bool.or_false] using hannounces⟩

/-- Settles O34: the grant on arrival, which begins a FADE by what its target lane does. -/
theorem grantBeginsFade : Obligations.GrantBeginsFade := by
  intro s l tag i byIndex c p hgrants htag hc hp hready hsingle hscene x tr
  obtain ⟨w, hw, hempty, hexec⟩ := exec_recall_granted hgrants htag hc hp
  obtain rfl : w.index = i := hw.1
  have hother : ∀ sc, (recallArrived l w s).engine.scene = some sc → sc.source ≠ w.index ∨ sc.dirty = true :=
    fun sc hsc => (hscene sc hsc).2
  have hdual : ¬(p.kind = .dual ∨ ∃ sc, (recallArrived l w s).engine.scene = some sc ∧ sc.preset.kind = .dual) := by
    rintro (hkind | ⟨sc, hsc, hkind⟩)
    · simp [hsingle] at hkind
    · simp [(hscene sc hsc).1] at hkind
  obtain ⟨R, hbegun⟩ := grantBegun_some (l := l) (s := recallArrived l w s) hp hready hother
  obtain ⟨hmade, htuner, -, -⟩ := hbegun.on_arrival hempty hw
  refine ⟨_, hexec, hmade, htuner, fun hx => ?_, fun hx => ?_, fun hx => ?_⟩
  · obtain ⟨hgrant, hreplaced, hloaded⟩ := grantBegun_fade_idle (l := l) (s := recallArrived l w s) hp hready hother hdual hx
    obtain ⟨-, -, hchanges, hannounces⟩ := hgrant.on_arrival hempty hw
    exact ⟨hreplaced, hloaded, hchanges, hannounces⟩
  · obtain ⟨hgrant, hengine, hlanes⟩ := grantBegun_fade_tailing (l := l) (s := recallArrived l w s) hp hready hother hdual hx
    obtain ⟨-, -, hchanges, hannounces⟩ := hgrant.on_arrival hempty hw
    exact ⟨hengine, hlanes, hchanges, by simpa only [Bool.or_false] using hannounces⟩
  · obtain ⟨hgrant, hengine⟩ := grantBegun_fade_cutting (l := l) (s := recallArrived l w s) hp hready hother hdual hx
    obtain ⟨-, -, hchanges, hannounces⟩ := hgrant.on_arrival hempty hw
    exact ⟨hengine, hchanges, by simpa only [Bool.or_false] using hannounces⟩

/-- Settles O35: the grant on arrival, which begins a DIP by whether the lanes are silent. -/
theorem grantBeginsDip : Obligations.GrantBeginsDip := by
  intro s l tag i byIndex c p hgrants htag hc hp hready hdual hother tr silent
  obtain ⟨w, hw, hempty, hexec⟩ := exec_recall_granted hgrants htag hc hp
  obtain rfl : w.index = i := hw.1
  obtain ⟨R, hbegun⟩ := grantBegun_some (l := l) (s := recallArrived l w s) hp hready hother
  obtain ⟨hmade, htuner, -, -⟩ := hbegun.on_arrival hempty hw
  refine ⟨_, hexec, hmade, htuner, fun hsounds => ?_, fun hsilent => ?_⟩
  · obtain ⟨hgrant, hengine⟩ := grantBegun_dip_waits (l := l) (s := recallArrived l w s) hp hready hother hdual hsounds
    obtain ⟨-, -, hchanges, hannounces⟩ := hgrant.on_arrival hempty hw
    exact ⟨hengine, hchanges, by simpa only [Bool.or_false] using hannounces⟩
  · obtain ⟨hgrant, hreplaced, hloaded⟩ :=
      grantBegun_dip_silent (l := l) (s := recallArrived l w s) hp hready hother hdual hsilent
    obtain ⟨-, -, hchanges, hannounces⟩ := hgrant.on_arrival hempty hw
    exact ⟨hreplaced, hloaded, hchanges, hannounces⟩

end Sys2Proof.RecallArbitration

/-! The events of the Scene Engine and the Recall Arbiter (R59, R63 to R69, R84 to R88): the ends of DIP_OUT, of tails and cuts,
of a transition and of a tenure. -/

namespace Sys2Proof.Machine

section

variable {s : State} {tr : Transition} {x : LaneId}

theorem onTransition_of (f : Transition → State → State) (h : s.engine.transition = some tr) : onTransition f s = f tr s := by
  simp only [onTransition, h]

/-! ### The end of a lane's tail or cut (R59, R64) -/

/-- A PREPARE that waits for the lane which becomes IDLE takes the load step (R59). -/
theorem laneIdle_of_waiting (htr : s.engine.transition = some tr) (hphase : tr.phase = .prepare) (htarget : tr.target = some x) :
    laneIdle x s = loadStep tr (s.setLane x (s.lanes.get x).toIdle) := by
  simp only [laneIdle, State.setLane_engine, htr, hphase, htarget, and_self, if_true]

theorem laneIdle_of_none_waiting (h : ¬∃ tr, s.engine.transition = some tr ∧ tr.phase = .prepare ∧ tr.target = some x) :
    laneIdle x s = s.setLane x (s.lanes.get x).toIdle := by
  cases htr : s.engine.transition with
  | none => simp only [laneIdle, State.setLane_engine, htr]
  | some tr =>
    have hwaits : ¬(tr.phase = .prepare ∧ tr.target = some x) := fun hwaits => h ⟨tr, htr, hwaits⟩
    simp only [laneIdle, State.setLane_engine, htr, if_neg hwaits]

/-- A load takes no more of the lane's past than which delay half it uses, so that the lane was made IDLE first is not seen. -/
theorem fadeLoaded_of_setIdle {t : State} (h : fadeLoaded x (s.setLane x (s.lanes.get x).toIdle) t) : fadeLoaded x s t := by
  obtain ⟨hloaded, hothers⟩ := h
  refine ⟨fun sc hsc => ?_, fun y hy => ?_⟩
  · rw [hloaded sc hsc, State.setLane_lanes, PerLane.get_set_self]
    rfl
  · have hother : (s.setLane x (s.lanes.get x).toIdle).lanes.get y = s.lanes.get y := by
      rw [State.setLane_lanes, PerLane.get_set, if_neg hy]
    have hy := hothers y hy
    simp only [hother] at hy
    exact hy

end

end Sys2Proof.Machine

namespace Sys2Proof.SceneEngine

open Sys2Proof.Machine

/-- Settles O36: the event is due, and is the load step on IDLE lanes. -/
theorem dipOutEndLoads : Obligations.DipOutEndLoads := by
  intro s tr htr hkind hphase hsilent
  have hdue : due .dipOutEnd s = true := by
    rw [due, (dipOutOver_iff _).2 hsilent, Bool.and_true]
    simp only [Engine.dipping, htr, hphase, beq_self_eq_true]
  have heffect : effect .dipOutEnd s = dipOutEnd tr s := onTransition_of dipOutEnd htr
  obtain ⟨hkept, hannounces⟩ := (raisesOnly_dipOutEnd tr s).pumped
  refine ⟨pump (dipOutEnd tr s), heffect ▸ exec_event hdue, ?_, ?_, ?_, hkept, hannounces⟩
  · exact sceneReplaced_congr (sceneReplaced_loadStep tr (s.withLanes (s.lanes.map Lane.toIdle))) rfl rfl rfl rfl
  · exact dipLoaded_congr (dipLoaded_dipOutEnd hkind s) rfl rfl rfl rfl rfl
  · exact (changesOnly_pump changesOnly_dipOutEnd).mono (by decide)

/-- Settles O38: each event is due, and its lane is cut or becomes IDLE. -/
theorem tailsAndCutsEnd : Obligations.TailsAndCutsEnd := by
  intro s x
  refine ⟨fun htailing htimer => ?_, fun c hc => ?_⟩
  · have hdue : due (.tailTimerExpiry x) s = true := by simp [due, htailing, htimer]
    have hcut : changesOnly [.lanes] s (s.setLane x (s.lanes.get x).cut) := changesOnly_setLane
    obtain ⟨hkept, hannounces⟩ := (RaisesOnly.of_changesOnly hcut (by decide)).pumped
    exact ⟨_, exec_event hdue, rfl, hcut.pumped, hkept, hannounces⟩
  · have hexec : exec c s = .next (pump (laneIdle x s)) := by
      rcases hc with ⟨rfl, htailing, hfloor⟩ | ⟨rfl, hcutting, hramp⟩
      · exact exec_event (e := .tailFloorEnd x) (by simp [due, htailing, hfloor, Config.tailFloorEnd])
      · exact exec_event (e := .cutEnd x) (by simp [due, hcutting, hramp])
    obtain ⟨R, hraises⟩ := raisesOnly_laneIdle x s
    refine ⟨_, hexec, hraises.pumped.1, fun hnone => ?_, fun tr htr hphase hkind htarget => ?_⟩
    · have hidle : changesOnly [.lanes] s (s.setLane x (s.lanes.get x).toIdle) := changesOnly_setLane
      rw [laneIdle_of_none_waiting hnone]
      exact ⟨rfl, hidle.pumped, (RaisesOnly.of_changesOnly hidle (by decide)).pumped.2⟩
    · have hidle : changesOnly [.lanes] s (s.setLane x (s.lanes.get x).toIdle) := changesOnly_setLane
      have hload := raisesOnly_loadStep tr (s.setLane x (s.lanes.get x).toIdle)
      have hchanges : changesOnly [.links, .engine, .control, .lanes] s (pump (laneIdle x s)) :=
        changesOnly_pump changesOnly_laneIdle
      rw [laneIdle_of_waiting htr hphase htarget] at hchanges ⊢
      refine ⟨sceneReplaced_congr (sceneReplaced_loadStep tr (s.setLane x (s.lanes.get x).toIdle)) rfl rfl rfl rfl,
        fadeLoaded_of_setIdle ?_,
        hchanges.mono (by decide), ((RaisesOnly.of_changesOnly hidle (by decide)).after hload).pumped.2⟩
      exact fadeLoaded_congr (fadeLoaded_loadStep hkind htarget _) rfl rfl rfl rfl rfl

end Sys2Proof.SceneEngine

namespace Sys2Proof.RecallArbitration

open Sys2Proof.Machine

/-- Settles O40: the event is due, and is the look with no tenure. -/
theorem tenureExpiryGrants : Obligations.TenureExpiryGrants := by
  intro s o htenure
  have hdue : due .tenureExpiry s = true := by simp only [due, Arbiter.tenureOver, htenure, beq_self_eq_true]
  refine ⟨_, exec_event hdue, fun hnothing => ?_, fun l w htr hw hhigher => ?_⟩
  · have hlook : tenureExpiry s = s.withArbiter { s.arbiter with tenure := none } := by
      rcases hnothing with hempty | hflight
      · exact arbiterLook_of_no_choice (Arbiter.choice_eq_none.2 fun k => grantable_of_empty (hempty k))
      · exact arbiterLook_of_transition hflight
    have hchanges : changesOnly [.arbiter] s (s.withArbiter { s.arbiter with tenure := none }) := changesOnly_withArbiter
    obtain ⟨hkept, hannounces⟩ := (RaisesOnly.of_changesOnly hchanges (by decide)).pumped
    rw [effect, hlook]
    exact ⟨rfl, hchanges.pumped, hkept, hannounces⟩
  · refine grantTaken_look (s := s.withArbiter { s.arbiter with tenure := none }) htr hw
      (Arbiter.choice_eq_some ?_ fun k hk => grantable_of_empty (hhigher k hk))
    rw [Arbiter.grantable, State.withArbiter_arbiter, hw]
    rfl

end Sys2Proof.RecallArbitration

/-! The completion of a transition (R63, R68, R69, R86): what it does before the arbiter looks, and the look. -/

namespace Sys2Proof.Machine

section

variable {s t : State} {tr : Transition} {lanes : PerLane Lane}

/-- The part at a completion when the arbiter is about to look (R69, R86): the lanes moved, the engine READY, SCENE raised, the
recall answered and the tenure begun. -/
def completionTaken (tr : Transition) (lanes : PerLane Lane) (s : State) : State :=
  (grantDone (raiseNotice .scene (completed tr (s.withLanes lanes)))).withArbiter
    { s.arbiter with tenure := s.arbiter.tenureAfter tr.origin, grant := none }

theorem completeTransition_eq : completeTransition tr (s.withLanes lanes) = arbiterLook (completionTaken tr lanes s) :=
  arbiterCompletion_eq _ _

theorem completionTaken_kept : changesOnly [.links] (raiseNotice .scene (completed tr (s.withLanes lanes)))
    (grantDone (raiseNotice .scene (completed tr (s.withLanes lanes)))) := changesOnly_grantDone

theorem completionTaken_engine : (completionTaken tr lanes s).engine = { s.engine with
    transition := none, report := some ⟨tr.origin, tr.kind, tr.tailCut, tr.editsDiscarded⟩ } :=
  completionTaken_kept.same .engine (by decide)

theorem completionTaken_lanes : (completionTaken tr lanes s).lanes = lanes := completionTaken_kept.same .lanes (by decide)

theorem changesOnly_completionTaken : changesOnly [.links, .engine, .lanes, .arbiter] s (completionTaken tr lanes s) :=
  (changesOnly_completed.comp changesOnly_raiseNotice (ds := [.lanes, .engine, .links]) (by decide) (by decide)).comp
    (changesOnly_grantDone.comp changesOnly_withArbiter (ds := [.links, .arbiter]) (by decide) (by decide))
    (by decide) (by decide)

/-! ### The links -/

theorem raisesOnly_completed_scene :
    RaisesOnly (· == .scene) s (raiseNotice .scene (completed tr (s.withLanes lanes))) :=
  (RaisesOnly.of_changesOnly changesOnly_completed (by decide)).after (raisesOnly_raiseNotice .scene _)

theorem raises_grantDone {R : Link → NoticeClass → Bool} (h : raises R s t) : raises R s (grantDone t) := by
  unfold grantDone
  split
  · split
    · exact raises_respond h _ _ _ _
    · exact h
  · exact h

theorem raises_completionTaken : raises (oneClass .scene) s (completionTaken tr lanes s) :=
  raises_from (raises_grantDone raisesOnly_completed_scene.raised) fun _ => ⟨rfl, rfl, rfl⟩

/-- A step that raises and lets no transmitter choose announces. -/
theorem announces_of_raises {R : Link → NoticeClass → Bool} (h : raises R s t) : announces R s t := by
  intro k
  obtain ⟨htx, hflags⟩ := h k
  refine ⟨fun _ => htx, fun c => ⟨fun hc => .inl ?_, fun hc => ?_⟩⟩
  · rw [hflags]
    simpa using hc
  · rw [hflags] at hc
    simpa using hc

/-- The response of the recall a transition came of (R86). -/
theorem grantDone_link_of_owed {g : GrantRec} (hg : t.arbiter.grant = some g) (howed : g.owed = true) :
    ((grantDone t).link g.origin).core = { (t.link g.origin).core with
        reserved := (t.link g.origin).reserved - 1
        queue := (t.link g.origin).queue ++ [resultMessage (if g.byIndex then .recallIndex else .recall) g.tag .done] } ∧
      ∀ k : Link, k ≠ g.origin → (grantDone t).link k = t.link k := by
  have hdone : grantDone t = respond g.origin (recallType g.byIndex) g.tag .done t := by
    simp only [grantDone, hg, howed, if_true]
  rw [hdone]
  refine ⟨?_, fun k hk => ?_⟩
  · rw [respond, queueMessage, State.link_setLink_self]
    rfl
  · rw [respond, queueMessage, State.link_setLink, if_neg hk]

theorem grantDone_of_not_owed (h : ∀ g, t.arbiter.grant = some g → g.owed = false) : grantDone t = t := by
  cases hg : t.arbiter.grant with
  | none => simp only [grantDone, hg]
  | some g => simp only [grantDone, hg, h g hg, Bool.false_eq_true, if_false]

/-! ### The completion in the claim's terms -/

/-- What a completion has done when the arbiter looks, the lanes aside. -/
def CompletedAs (tr : Transition) (s u : State) : Prop :=
  u.engine = { s.engine with
    transition := none, report := some ⟨tr.origin, tr.kind, tr.tailCut, tr.editsDiscarded⟩ } ∧
  u.arbiter = { s.arbiter with grant := none, tenure := s.arbiter.tenureAfter tr.origin } ∧
  (∀ g, s.arbiter.grant = some g → g.owed = true →
    (u.link g.origin).core = { (s.link g.origin).core with
      reserved := (s.link g.origin).reserved - 1
      queue := (s.link g.origin).queue ++ [resultMessage (if g.byIndex then .recallIndex else .recall) g.tag .done] } ∧
    ∀ k : Link, k ≠ g.origin → (u.link k).core = (s.link k).core) ∧
  ((∀ g, s.arbiter.grant = some g → g.owed = false) → linksKept s u) ∧
  changesOnly [.links, .engine, .lanes, .arbiter] s u ∧ announces (oneClass .scene) s u

theorem completedAs_completionTaken : CompletedAs tr s (completionTaken tr lanes s) := by
  have hraised : RaisesOnly (· == .scene) s (raiseNotice .scene (completed tr (s.withLanes lanes))) :=
    raisesOnly_completed_scene
  refine ⟨completionTaken_engine, rfl, fun g hg howed => ?_, fun hnot k => ?_, changesOnly_completionTaken,
    announces_of_raises raises_completionTaken⟩
  · obtain ⟨hown, hothers⟩ := grantDone_link_of_owed (t := raiseNotice .scene (completed tr (s.withLanes lanes))) hg howed
    refine ⟨hown.trans (queued_core_congr (hraised.core g.origin) _), fun k hk => ?_⟩
    exact (congrArg LinkIf.core (hothers k hk)).trans (hraised.core k)
  · have hsame := grantDone_of_not_owed (t := raiseNotice .scene (completed tr (s.withLanes lanes))) hnot
    rw [completionTaken, hsame, State.link_withArbiter]
    exact hraised.core k

/-- The transmitters' choice after it changes nothing of that. -/
theorem completedAs_pump : CompletedAs tr s (pump (completionTaken tr lanes s)) := by
  obtain ⟨hengine, harbiter, howed, hnot, hchanges, -⟩ := completedAs_completionTaken (tr := tr) (lanes := lanes) (s := s)
  refine ⟨hengine, harbiter, fun g hg hg' => ?_, fun h k => ?_, changesOnly_pump hchanges,
    announces_pump raises_completionTaken⟩
  · simp only [pump_link_core]
    exact howed g hg hg'
  · rw [pump_link_core]
    exact hnot h k

theorem Arbiter.barred_iff {a : Arbiter} {k : Link} :
    a.barred k = true ↔ ∃ r, a.tenure = some r ∧ linkRank r.owner < linkRank k := by
  unfold Arbiter.barred
  cases a.tenure <;> simp

/-- The look after a completion: nothing, where all that waits is barred; the grant of a recall that waits alone. -/
theorem completion_settles (tr : Transition) (lanes : PerLane Lane) (s : State) :
    ∃ u, CompletedAs tr s u ∧ u.lanes = lanes ∧
      ((∀ k, s.arbiter.slots.get k = none ∨ (completionTaken tr lanes s).arbiter.barred k = true) →
        pump (arbiterLook (completionTaken tr lanes s)) = u) ∧
      ∀ (l : Link) (w : Waiting), s.arbiter.slots.get l = some w → (∀ k, k ≠ l → s.arbiter.slots.get k = none) →
        ¬(completionTaken tr lanes s).arbiter.barred l = true →
          grantTaken l w u (pump (arbiterLook (completionTaken tr lanes s))) := by
  have hslots (k : Link) : (completionTaken tr lanes s).arbiter.slots.get k = s.arbiter.slots.get k := rfl
  by_cases hnone : ∀ k, (completionTaken tr lanes s).arbiter.grantable k = false
  · have hlook := arbiterLook_of_no_choice (Arbiter.choice_eq_none.2 hnone)
    refine ⟨_, completedAs_pump, completionTaken_lanes, fun _ => by rw [hlook], fun l w hw _ hbarred => ?_⟩
    have hl := hnone l
    rw [Arbiter.grantable, hslots, hw] at hl
    exact absurd (by simpa using hl) hbarred
  · refine ⟨_, completedAs_completionTaken, completionTaken_lanes, fun hall => ?_, fun l w hw halone hbarred => ?_⟩
    · refine absurd (fun k => ?_) hnone
      rw [Arbiter.grantable, hslots]
      rcases hall k with hempty | hbarred
      · rw [hempty]
        rfl
      · rw [hbarred, Bool.not_true, Bool.and_false]
    · refine grantTaken_look (completionTaken_engine ▸ rfl) hw (Arbiter.choice_eq_some ?_ fun k hk => ?_)
      · rw [Arbiter.grantable, hslots, hw, Bool.eq_false_iff.2 hbarred]
        rfl
      · refine grantable_of_empty (halone k ?_)
        rintro rfl
        exact Nat.lt_irrefl _ hk

/-! ### The lanes at the end of a FADE (R63) -/

theorem Lane.fadeEnd_of_incoming {x : Lane} (hold : Option Nat) (h : x.state = .incoming) :
    (x.endFade hold).arrive = { x with state := .live } := by
  rw [Lane.endFade_of_ne (by simp [h]), Lane.arrive_of_incoming h]

theorem Lane.fadeEnd_of_outgoing {x : Lane} (hold : Option Nat) (h : x.state = .outgoing) :
    (x.endFade hold).arrive =
      if 0 < hold.getD 0 then { x with state := .tailing, floorCount := 0, tailTimer := 48 * hold.getD 0 }
      else { x with state := .cutting } := by
  rw [Lane.endFade, if_pos h]
  split <;> exact Lane.arrive_of_ne (by simp)

theorem Lane.fadeEnd_of_other {x : Lane} (hold : Option Nat) (hi : x.state ≠ .incoming) (ho : x.state ≠ .outgoing) :
    (x.endFade hold).arrive = x := by
  rw [Lane.endFade_of_ne ho, Lane.arrive_of_ne hi]

end

end Sys2Proof.Machine

namespace Sys2Proof.SceneEngine

open Sys2Proof.Machine

/-- Settles O37: each event is due, and is the completion with the look that follows. -/
theorem transitionCompletes : Obligations.TransitionCompletes := by
  intro s tr htr hend tenure barred completed settled
  have hbarred (lanes : PerLane Lane) (k : Link) : (completionTaken tr lanes s).arbiter.barred k = true ↔ barred k :=
    Arbiter.barred_iff
  have hsettled (lanes : PerLane Lane) :
      ∃ u, settled u (pump (arbiterLook (completionTaken tr lanes s))) ∧ completed u ∧ u.lanes = lanes := by
    obtain ⟨u, hcompleted, hlanes, hrests, hgrants⟩ := completion_settles tr lanes s
    simp only [hbarred] at hrests hgrants
    exact ⟨u, ⟨hrests, hgrants⟩, hcompleted, hlanes⟩
  refine ⟨fun hphase => ?_, fun hphase => ?_⟩
  · have hdue : due .fadeComplete s = true := by simp [due, Engine.transitionIs, htr, hphase, hend]
    have heffect : effect .fadeComplete s =
        arbiterLook (completionTaken tr (s.lanes.map fun l => (l.endFade tr.tailHold).arrive) s) :=
      (onTransition_of fadeComplete htr).trans completeTransition_eq
    obtain ⟨u, hu, hcompleted, hlanes⟩ := hsettled (s.lanes.map fun l => (l.endFade tr.tailHold).arrive)
    refine ⟨_, u, heffect ▸ exec_event hdue, hu, hcompleted, fun i => ?_⟩
    rw [hlanes, PerLane.get_map]
    cases hstate : (s.lanes.get i).state
    case incoming => exact Lane.fadeEnd_of_incoming _ hstate
    case outgoing => exact Lane.fadeEnd_of_outgoing _ hstate
    all_goals exact Lane.fadeEnd_of_other _ (by simp [hstate]) (by simp [hstate])
  · have hdue : due .dipComplete s = true := by simp [due, Engine.transitionIs, htr, hphase, hend]
    have heffect : effect .dipComplete s = arbiterLook (completionTaken tr (s.lanes.map Lane.arrive) s) :=
      (onTransition_of dipComplete htr).trans completeTransition_eq
    obtain ⟨u, hu, hcompleted, hlanes⟩ := hsettled (s.lanes.map Lane.arrive)
    refine ⟨_, u, heffect ▸ exec_event hdue, hu, hcompleted, fun i => ?_⟩
    rw [hlanes, PerLane.get_map]
    rfl

end Sys2Proof.SceneEngine
